-- ==== Sys2Proof/Word.lean ====
section
/-! DEFINITION. The words of the CR318: bytes, timebase stamps, cycle numbers and the numbering of the 24 roster
records. Units follow section 5.1 of 00_scope.md. -/

namespace Sys2Proof

/-- A byte of a link record, an optical frame or the settings image. -/
abbrev Byte := BitVec 8

/-- A reading of the 32-bit timebase in µs (R23). -/
abbrev Stamp := BitVec 32

/-- A 16-bit cycle number (R24). -/
abbrev CycleNo := BitVec 16

/-- The age of a stamp: the unsigned difference modulo 2^32 µs (R23, section 5.2 of 00_scope.md). -/
def elapsed (now start : Stamp) : Nat := (now - start).toNat

/-- A reference to one of the 24 roster records (R1): eight positions of phase A, then of B, then of C. -/
abbrev CellRef := Fin 24

/-- Every record, in ascending phase and position. -/
def allCells : List CellRef := List.finRange 24

/-- The three phases; for carrier arithmetic they are 0, 1 and 2 (section 5.4 of 00_scope.md). Each has one ring. -/
inductive Phase where
  | a
  | b
  | c
  deriving DecidableEq, Repr, Inhabited

def Phase.index : Phase → Nat
  | .a => 0
  | .b => 1
  | .c => 2

/-- The three phases in the order A, B, C. -/
def phases : List Phase := [.a, .b, .c]

/-- The phase of a record. -/
def phaseOf (c : CellRef) : Phase :=
  if c.val < 8 then .a else if c.val < 16 then .b else .c

/-- The position of a record within its phase, from 1 upward. -/
def positionOf (c : CellRef) : Nat := c.val % 8 + 1

/-- The eight records of one phase, in ascending position. -/
def cellsOf (p : Phase) : List CellRef := allCells.filter (phaseOf · = p)

/-- One item for each of the three rings. -/
structure Rings (α : Type) where
  a : α
  b : α
  c : α
  deriving DecidableEq, Repr

def Rings.get {α : Type} (r : Rings α) : Phase → α
  | .a => r.a
  | .b => r.b
  | .c => r.c

def Rings.set {α : Type} (r : Rings α) (p : Phase) (x : α) : Rings α :=
  match p with
  | .a => { r with a := x }
  | .b => { r with b := x }
  | .c => { r with c := x }

end Sys2Proof
end

