-- ==== Sys2Proof/Machine/Crc.lean ====
section
/-! DEFINITION. The cyclic redundancy checks: CRC-16 over link frames, downstream frames and the settings image
(R144, R154, section 2.3) and CRC-8 over cell responses (section 2.4). Every byte is fed most significant bit first, with
no reflection and no final inversion. -/

namespace Sys2Proof

/-- One bit of a CRC register of width `w`: a shift left, with the polynomial folded in when a 1 is shifted out. -/
def crcShift (poly w c : Nat) : Nat :=
  if c * 2 < 2 ^ w then c * 2 else (c * 2 ^^^ poly) % 2 ^ w

/-- One byte of a CRC register of width `w`. -/
def crcByte (poly w c : Nat) (b : Byte) : Nat :=
  Nat.repeat (crcShift poly w) 8 (c ^^^ (b.toNat <<< (w - 8)))

/-- CRC-16, polynomial 0x1021, initial value 0xFFFF (R144, R154, section 2.3). -/
def crc16 (bytes : List Byte) : BitVec 16 :=
  BitVec.ofNat 16 (bytes.foldl (crcByte 0x1021 16) 0xFFFF)

/-- CRC-8, polynomial 0x31, initial value 0xFF (section 2.4). -/
def crc8 (bytes : List Byte) : Byte :=
  BitVec.ofNat 8 (bytes.foldl (crcByte 0x31 8) 0xFF)

/-- The high byte of a 16-bit value. -/
def high16 (v : BitVec 16) : Byte := v.extractLsb' 8 8

/-- The low byte of a 16-bit value. -/
def low16 (v : BitVec 16) : Byte := v.extractLsb' 0 8

/-- A sequence followed by its CRC-16, most significant byte first (section 12.2, Table 12-7). -/
def withCrc16 (bytes : List Byte) : List Byte :=
  bytes ++ [high16 (crc16 bytes), low16 (crc16 bytes)]

/-- The last two bytes of a sequence are the CRC-16 of the bytes before them. -/
def goodCrc16 (bytes : List Byte) : Bool :=
  2 ≤ bytes.length && withCrc16 (bytes.take (bytes.length - 2)) == bytes

/-- The last byte of a sequence is the CRC-8 of the bytes before it. -/
def goodCrc8 (bytes : List Byte) : Bool :=
  1 ≤ bytes.length && bytes.take (bytes.length - 1) ++ [crc8 (bytes.take (bytes.length - 1))] == bytes

end Sys2Proof
end

