-- ==== Sys2Proof/Syntax.lean ====
section
/-! DEFINITION. The commands of the CR318: one constructor of `Instr` for each row of spec/opcode_table.json, with
the data that the command brings from outside. Requests carry a tag and their body's values (Chapters 9 and 12),
received characters and slots carry what the receiver sees, and an event of a timer or of the cycle generator carries the
cell it names. Nothing here gives a command its meaning. -/

namespace Sys2Proof

/-- A character taken by the receive framer (R153). -/
structure RxChar where
  value : Byte
  /-- The stop bit was good. -/
  stopOk : Bool
  /-- A gap of more than 2 µs stood between the end of the previous character and this one's start. -/
  gapBefore : Bool
  deriving DecidableEq, Repr

/-- A signal that began within a slot (R31, Table 2-4). -/
structure SlotSignal where
  /-- It began after the first 2 µs of the slot. -/
  late : Bool
  /-- It was still present at the slot's end. -/
  presentAtEnd : Bool
  /-- The bytes received. -/
  bytes : List Byte
  deriving DecidableEq, Repr

/-- What a slot's receiver saw within its 20 µs (R31). -/
structure SlotSeen where
  /-- A signal that began before this slot opened was still present when it opened. -/
  presentAtOpen : Bool
  /-- The signal that began within the slot, if any. -/
  began : Option SlotSignal
  deriving DecidableEq, Repr

/-- The two qualified input lines (R119). -/
inductive InputLine where
  | driveRun
  | brakeSet
  deriving DecidableEq, Repr

/-- What a storage fault alters (R144): a byte of the frozen settings image, or the stored CRC. -/
inductive StorageCell where
  | image (offset : Fin 125)
  | storedCrcHigh
  | storedCrcLow
  deriving DecidableEq, Repr

/-- The bypass kind of an ability (Table 1-2). -/
inductive BypassKind where
  | contactor
  | thyristor
  deriving DecidableEq, Repr

/-- An ability record (Table 1-2), as an ABILITY message carries it (Table 12-6, bytes 19 to 26). -/
structure Ability where
  serial : BitVec 32
  /-- Rated DC, V. -/
  ratedDc : BitVec 16
  cellClass : BitVec 4
  bypassKind : BypassKind
  halfRateCapable : Bool
  firmwareMajor : BitVec 4
  firmwareMinor : BitVec 4
  deriving DecidableEq, Repr

/-- The message of an upstream response (section 2.4, Table 12-9); `other` is a code of 4 to 255 (R179). -/
inductive UpMessage where
  | none
  | ability (a : Ability)
  | accepted (serial : BitVec 32)
  | tunnel (final : Bool) (seq : BitVec 2) (length : BitVec 3) (data : List Byte)
  | other
  deriving DecidableEq, Repr

/-- The contents of an upstream response whose CRC-8 is good (Table 12-9, read as R179 states). -/
structure Response where
  gate : BitVec 4
  bypass : BitVec 4
  /-- The fault class code as the cell sent it. -/
  classCode : Byte
  detail : Byte
  /-- DC voltage in half-volts, 0 to 4095. -/
  dc : Nat
  tag : Byte
  message : UpMessage
  deriving DecidableEq, Repr

/-- What a request on the controller link asks for (Table 9-3). The fields of a settings request stand in the order of
its presence set (R178): `none` where the set does not name the field. A code, cell number or part stands as received. -/
inductive RequestOp where
  | setDevice (fields : List (Option Nat))
  | setRing (phaseCode : Byte) (fields : List (Option Nat))
  | setPlan (fields : List (Option Nat))
  | setTiming (fields : List (Option Nat))
  | setReporting (fields : List (Option Nat))
  | freeze
  | selfTest (ring : Byte)
  | unfreeze
  | go
  | halt
  | resume
  | ackTrip
  | clearLockout
  | clearCell (cell : Byte)
  | reinstate (cell : Byte)
  | rebalance
  | relink (cell : Byte)
  | reenrol (cell : Byte)
  | tunnel (cell : Byte) (bytes : List Byte)
  | hoistStatus (speed : BitVec 16) (zone : Byte)
  | readStatus
  | readCell (cell : Byte)
  | readCampaign (part : Byte)
  | readSettings (part : Byte)
  | attentionScan
  | restart
  /-- A record whose type names no request (R157 check 1, R178). -/
  | unknown (recordType : Byte)
  /-- A record of a known type whose body length the type does not admit (R157 check 2, R160, R178). -/
  | malformed (recordType : Byte)
  deriving DecidableEq, Repr

/-- A request as the request buffer holds it: its tag and what it asks for (R156). -/
structure Request where
  tag : Byte
  op : RequestOp
  deriving DecidableEq, Repr

/-- The commands of the CR318, one constructor per row of spec/opcode_table.json. -/
inductive Instr where
  -- requests on the controller link, each a valid record handed to the request buffer
  | setDevice (tag : Byte) (fields : List (Option Nat))
  | setRing (tag : Byte) (phaseCode : Byte) (fields : List (Option Nat))
  | setPlan (tag : Byte) (fields : List (Option Nat))
  | setTiming (tag : Byte) (fields : List (Option Nat))
  | setReporting (tag : Byte) (fields : List (Option Nat))
  | freeze (tag : Byte)
  | selfTest (tag : Byte) (ring : Byte)
  | unfreeze (tag : Byte)
  | go (tag : Byte)
  | halt (tag : Byte)
  | resume (tag : Byte)
  | ackTrip (tag : Byte)
  | clearLockout (tag : Byte)
  | clearCell (tag : Byte) (cell : Byte)
  | reinstate (tag : Byte) (cell : Byte)
  | rebalance (tag : Byte)
  | relink (tag : Byte) (cell : Byte)
  | reenrol (tag : Byte) (cell : Byte)
  | tunnel (tag : Byte) (cell : Byte) (bytes : List Byte)
  | hoistStatus (tag : Byte) (speed : BitVec 16) (zone : Byte)
  | readStatus (tag : Byte)
  | readCell (tag : Byte) (cell : Byte)
  | readCampaign (tag : Byte) (part : Byte)
  | readSettings (tag : Byte) (part : Byte)
  | attentionScan (tag : Byte)
  | restart (tag : Byte)
  | unknownRecord (tag : Byte) (recordType : Byte)
  -- the controller link's own events
  | frameReceived (chars : List RxChar)
  | frameAborted (chars : List RxChar)
  | transmitDone
  | softReset
  | resetN
  | powerOn
  -- the discrete input lines
  | inputPinChange (line : InputLine) (asserted : Bool)
  | driveRunQualified
  | brakeSetQualified
  -- the cycle generator and the rings
  | cycleStart (loopback : Option (List Byte))
  | secondTick
  | slotEnd (cell : CellRef) (seen : SlotSeen)
  | gateOffWatchTimeout
  | confirmTimeout (cell : CellRef)
  | tunnelTimeout (ring : Phase)
  | epochCheck
  | rampComplete
  -- timers
  | enrolWindowExpiry
  | bypassTimerExpiry (cell : CellRef)
  | blindWaitExpiry (cell : CellRef)
  | rideThroughExpiry
  | brakeConfirmExpiry
  | resumeTimerExpiry
  | holdMinimumExpiry
  | attemptEntryExpiry
  | freshnessExpiry
  | batchTimerExpiry
  -- the ring self-test and the part's own storage
  | selfTestSlotEnd (position : Fin 8) (seen : SlotSeen)
  | selfTestEnd
  | storageFault (target : StorageCell) (value : Byte)
  deriving DecidableEq, Repr

end Sys2Proof
end

