-- ==== Sys2Proof/Decode.lean ====
section
/-! DEFINITION. Reading bytes from outside: `decodeTableWord` for the host, the records of requests on the controller
link (R160, R178, Tables 12-2 and 12-3) and the cells' upstream responses (R179, Table 12-9). Every reader is total. After
each stands the writer of the same layout. -/

namespace Sys2Proof

/-- The command that a table word spells. No row of spec/opcode_table.json gives bits, so no word spells one. -/
def decodeTableWord (_nbits _w : Nat) : Option Instr := none

/-! ### Multi-byte quantities, most significant byte first (Chapter 12) -/

/-- The number a byte sequence holds. -/
def natOfBytes (bytes : List Byte) : Nat := bytes.foldl (fun n b => n * 256 + b.toNat) 0

/-- The `w` bytes of a number. -/
def bytesOfNat : Nat → Nat → List Byte
  | 0, _ => []
  | w + 1, n => bytesOfNat w (n / 256) ++ [BitVec.ofNat 8 n]

/-- The four bytes of a 32-bit value. -/
def bytes32 (v : BitVec 32) : List Byte :=
  [v.extractLsb' 24 8, v.extractLsb' 16 8, v.extractLsb' 8 8, v.extractLsb' 0 8]

/-- The two bytes of a 16-bit value. -/
def bytes16 (v : BitVec 16) : List Byte := [high16 v, low16 v]

/-! ### Settings bodies (R160, R178): field widths in the order of each presence set -/

def deviceWidths : List Nat := [2, 2, 2, 2, 1, 1]
def ringWidths : List Nat := [1, 2, 2, 2, 2, 2, 2, 2, 2, 1, 1, 1, 1, 1, 1, 1, 1]
def planWidths : List Nat := [1, 2, 2, 2, 2, 1, 1, 1, 2]
def timingWidths : List Nat := [2, 1, 1, 2, 1, 1, 1, 2, 2, 2, 2, 2, 2, 2]
def reportingWidths : List Nat := [1, 1, 1]

/-- Reads the fields that a presence set names. `none` where the set names a field the request does not have or the body
length is not the one the set implies (R160, R178). -/
def readFields : List Nat → Nat → List Byte → Option (List (Option Nat))
  | [], presence, bytes => if presence = 0 ∧ bytes = [] then some [] else none
  | w :: ws, presence, bytes =>
    if presence % 2 = 0 then (readFields ws (presence / 2) bytes).map (none :: ·)
    else if bytes.length < w then none
    else (readFields ws (presence / 2) (bytes.drop w)).map (some (natOfBytes (bytes.take w)) :: ·)

/-- A settings body after its phase code, if any: a 3-byte presence set and the fields it names. -/
def readSettingsBody (widths : List Nat) (body : List Byte) : Option (List (Option Nat)) :=
  if body.length < 3 then none else readFields widths (natOfBytes (body.take 3)) (body.drop 3)

/-- The presence set of a list of fields. -/
def presenceOf : List (Option Nat) → Nat
  | [] => 0
  | f :: fs => (if f.isSome then 1 else 0) + 2 * presenceOf fs

/-- The bytes of the fields present. -/
def fieldBytes : List Nat → List (Option Nat) → List Byte
  | w :: ws, some v :: fs => bytesOfNat w v ++ fieldBytes ws fs
  | _ :: ws, none :: fs => fieldBytes ws fs
  | _, _ => []

/-- A settings body after its phase code. -/
def writeSettingsBody (widths : List Nat) (fields : List (Option Nat)) : List Byte :=
  bytesOfNat 3 (presenceOf fields) ++ fieldBytes widths fields

/-! ### Request records (Table 12-3) -/

/-- The record type of a request. -/
def RequestOp.recordType : RequestOp → Byte
  | .setDevice _ => 0x01
  | .setRing _ _ => 0x02
  | .setPlan _ => 0x03
  | .setTiming _ => 0x04
  | .setReporting _ => 0x05
  | .freeze => 0x06
  | .selfTest _ => 0x07
  | .unfreeze => 0x08
  | .go => 0x09
  | .halt => 0x0A
  | .resume => 0x0B
  | .ackTrip => 0x0C
  | .clearLockout => 0x0D
  | .clearCell _ => 0x0E
  | .reinstate _ => 0x0F
  | .rebalance => 0x10
  | .relink _ => 0x11
  | .reenrol _ => 0x12
  | .tunnel _ _ => 0x13
  | .hoistStatus _ _ => 0x14
  | .readStatus => 0x15
  | .readCell _ => 0x16
  | .readCampaign _ => 0x17
  | .readSettings _ => 0x18
  | .attentionScan => 0x19
  | .restart => 0x1A
  | .unknown t => t
  | .malformed t => t

/-- A request with no body (R160). -/
def readEmpty (t : Byte) (op : RequestOp) (body : List Byte) : RequestOp :=
  if body = [] then op else .malformed t

/-- A request with a one-byte body (R160). -/
def readByte (t : Byte) (op : Byte → RequestOp) : List Byte → RequestOp
  | [b] => op b
  | _ => .malformed t

/-- A TUNNEL body: cell number, byte count 1 to 16 and exactly that many bytes (R160). -/
def readTunnel : List Byte → RequestOp
  | cell :: n :: bytes =>
    if 1 ≤ n.toNat ∧ n.toNat ≤ 16 ∧ bytes.length = n.toNat then .tunnel cell bytes else .malformed 0x13
  | _ => .malformed 0x13

/-- A HOIST_STATUS body: speed in two bytes, zone in one. -/
def readHoist : List Byte → RequestOp
  | [h, l, z] => .hoistStatus (h ++ l) z
  | _ => .malformed 0x14

/-- A settings request. -/
def readSettings (t : Byte) (widths : List Nat) (op : List (Option Nat) → RequestOp) (body : List Byte) : RequestOp :=
  match readSettingsBody widths body with
  | some fields => op fields
  | none => .malformed t

/-- What a record of type `t` asks for: checks 1 and 2 of Table 9-1 as far as they rest on the record alone. -/
def readOp (t : Byte) (body : List Byte) : RequestOp :=
  if t = 0x01 then readSettings t deviceWidths .setDevice body
  else if t = 0x02 then
    match body with
    | phase :: rest => readSettings t ringWidths (.setRing phase) rest
    | [] => .malformed t
  else if t = 0x03 then readSettings t planWidths .setPlan body
  else if t = 0x04 then readSettings t timingWidths .setTiming body
  else if t = 0x05 then readSettings t reportingWidths .setReporting body
  else if t = 0x06 then readEmpty t .freeze body
  else if t = 0x07 then readByte t .selfTest body
  else if t = 0x08 then readEmpty t .unfreeze body
  else if t = 0x09 then readEmpty t .go body
  else if t = 0x0A then readEmpty t .halt body
  else if t = 0x0B then readEmpty t .resume body
  else if t = 0x0C then readEmpty t .ackTrip body
  else if t = 0x0D then readEmpty t .clearLockout body
  else if t = 0x0E then readByte t .clearCell body
  else if t = 0x0F then readByte t .reinstate body
  else if t = 0x10 then readEmpty t .rebalance body
  else if t = 0x11 then readByte t .relink body
  else if t = 0x12 then readByte t .reenrol body
  else if t = 0x13 then readTunnel body
  else if t = 0x14 then readHoist body
  else if t = 0x15 then readEmpty t .readStatus body
  else if t = 0x16 then readByte t .readCell body
  else if t = 0x17 then readByte t .readCampaign body
  else if t = 0x18 then readByte t .readSettings body
  else if t = 0x19 then readEmpty t .attentionScan body
  else if t = 0x1A then readEmpty t .restart body
  else .unknown t

/-- The request of a valid frame's payload: record type, tag, body (R153). A payload has at least two bytes. -/
def readRequest : List Byte → Option Request
  | t :: tag :: body => some { tag := tag, op := readOp t body }
  | _ => none

/-- The body of a request. -/
def RequestOp.body : RequestOp → List Byte
  | .setDevice fs => writeSettingsBody deviceWidths fs
  | .setRing p fs => p :: writeSettingsBody ringWidths fs
  | .setPlan fs => writeSettingsBody planWidths fs
  | .setTiming fs => writeSettingsBody timingWidths fs
  | .setReporting fs => writeSettingsBody reportingWidths fs
  | .selfTest r => [r]
  | .clearCell c => [c]
  | .reinstate c => [c]
  | .relink c => [c]
  | .reenrol c => [c]
  | .readCell c => [c]
  | .readCampaign p => [p]
  | .readSettings p => [p]
  | .tunnel c bytes => c :: BitVec.ofNat 8 bytes.length :: bytes
  | .hoistStatus v z => bytes16 v ++ [z]
  | _ => []

/-- The payload of a request's frame. -/
def writeRequest (r : Request) : List Byte := r.op.recordType :: r.tag :: r.op.body

/-- The request that a command brings to the request buffer (R156); `none` for a command that is no request. A TUNNEL whose
byte count lies outside 1 to 16 is a MALFORMED record (R160). -/
def requestOf : Instr → Option Request
  | .setDevice tag fs => some ⟨tag, .setDevice fs⟩
  | .setRing tag p fs => some ⟨tag, .setRing p fs⟩
  | .setPlan tag fs => some ⟨tag, .setPlan fs⟩
  | .setTiming tag fs => some ⟨tag, .setTiming fs⟩
  | .setReporting tag fs => some ⟨tag, .setReporting fs⟩
  | .freeze tag => some ⟨tag, .freeze⟩
  | .selfTest tag r => some ⟨tag, .selfTest r⟩
  | .unfreeze tag => some ⟨tag, .unfreeze⟩
  | .go tag => some ⟨tag, .go⟩
  | .halt tag => some ⟨tag, .halt⟩
  | .resume tag => some ⟨tag, .resume⟩
  | .ackTrip tag => some ⟨tag, .ackTrip⟩
  | .clearLockout tag => some ⟨tag, .clearLockout⟩
  | .clearCell tag c => some ⟨tag, .clearCell c⟩
  | .reinstate tag c => some ⟨tag, .reinstate c⟩
  | .rebalance tag => some ⟨tag, .rebalance⟩
  | .relink tag c => some ⟨tag, .relink c⟩
  | .reenrol tag c => some ⟨tag, .reenrol c⟩
  | .tunnel tag c bytes =>
    some ⟨tag, if 1 ≤ bytes.length ∧ bytes.length ≤ 16 then .tunnel c bytes else .malformed 0x13⟩
  | .hoistStatus tag v z => some ⟨tag, .hoistStatus v z⟩
  | .readStatus tag => some ⟨tag, .readStatus⟩
  | .readCell tag c => some ⟨tag, .readCell c⟩
  | .readCampaign tag p => some ⟨tag, .readCampaign p⟩
  | .readSettings tag p => some ⟨tag, .readSettings p⟩
  | .attentionScan tag => some ⟨tag, .attentionScan⟩
  | .restart tag => some ⟨tag, .restart⟩
  | .unknownRecord tag t => some ⟨tag, .unknown t⟩
  | _ => none

/-- A whole link frame: start byte, length, payload, CRC-16 over length and payload (R153, R154, Table 12-2). -/
def linkFrame (payload : List Byte) : List Byte :=
  0xA5 :: withCrc16 (BitVec.ofNat 8 payload.length :: payload)

/-- Characters received back to back with good stop bits. -/
def cleanChars (bytes : List Byte) : List RxChar := bytes.map fun b => ⟨b, true, false⟩

/-! ### Abilities and upstream responses (Tables 12-6 and 12-9) -/

/-- The eight bytes of an ability (bytes 19 to 26 of Table 12-6). -/
def abilityBytes (a : Ability) : List Byte :=
  bytes32 a.serial ++ bytes16 a.ratedDc
    ++ [a.cellClass ++ (0#2 ++ (BitVec.ofBool (a.bypassKind = .thyristor) ++ BitVec.ofBool a.halfRateCapable)),
        a.firmwareMajor ++ a.firmwareMinor]

/-- Reads an ability from eight bytes. -/
def readAbility : List Byte → Option Ability
  | [s3, s2, s1, s0, r1, r0, k, f] =>
    some { serial := s3 ++ (s2 ++ (s1 ++ s0)), ratedDc := r1 ++ r0, cellClass := k.extractLsb' 4 4,
           bypassKind := if k.getLsbD 1 then .thyristor else .contactor, halfRateCapable := k.getLsbD 0,
           firmwareMajor := f.extractLsb' 4 4, firmwareMinor := f.extractLsb' 0 4 }
  | _ => none

/-- The message of a response from its code and its eight message bytes (Table 12-9, R179). -/
def readMessage (code : Byte) (m : List Byte) : UpMessage :=
  if code = 0 then .none
  else if code = 1 then
    match readAbility m with
    | some a => .ability a
    | none => .other
  else if code = 2 then
    match m with
    | s3 :: s2 :: s1 :: s0 :: _ => .accepted (s3 ++ (s2 ++ (s1 ++ s0)))
    | _ => .other
  else if code = 3 then
    match m with
    | h :: data => .tunnel (h.getLsbD 6) (h.extractLsb' 4 2) (h.extractLsb' 0 3) (data.take 4)
    | [] => .other
  else .other

/-- Reads a 16-byte response with a good CRC-8; `none` for anything else. A DC value above 4095 is taken as 4095
(R179). -/
def readResponse (bytes : List Byte) : Option Response :=
  match bytes with
  | b0 :: cls :: detail :: d1 :: d0 :: tag :: code :: rest =>
    if bytes.length = 16 ∧ goodCrc8 bytes then
      some { gate := b0.extractLsb' 4 4, bypass := b0.extractLsb' 0 4, classCode := cls, detail := detail,
             dc := min 4095 (natOfBytes [d1, d0]), tag := tag, message := readMessage code (rest.take 8) }
    else none
  | _ => none

/-- The message code and eight message bytes of a response's message. -/
def messageBytes : UpMessage → List Byte
  | .none => 0 :: List.replicate 8 0
  | .ability a => 1 :: abilityBytes a
  | .accepted s => 2 :: bytes32 s ++ List.replicate 4 0
  | .tunnel final seq len data =>
    3 :: (0#1 ++ (BitVec.ofBool final ++ (seq ++ (0#1 ++ len)))) :: (data.take 4 ++ List.replicate (4 - data.length) 0)
      ++ List.replicate 3 0
  | .other => 4 :: List.replicate 8 0

/-- The 16 bytes of a response, CRC-8 included. -/
def responseBytes (r : Response) : List Byte :=
  let body := [r.gate ++ r.bypass, r.classCode, r.detail] ++ bytesOfNat 2 r.dc ++ [r.tag] ++ messageBytes r.message
  body ++ [crc8 body]

end Sys2Proof
end

