-- ==== Sys2Proof/Config.lean ====
section
/-! DEFINITION. The values the manual leaves open. Each is a constant with no body, so that nothing can be proved of
it but what holds whatever it is. All of them are reached only through a settings image that a storage fault has altered
(R144): no settings request can write the codes and zeros they answer for. -/

namespace Sys2Proof

/-- FREE VALUE (log entry 1): the result of a stated division whose divisor a storage fault has set to 0. -/
opaque Config.divByZero : Nat → Nat

/-- FREE VALUE (log entry 2): how a block reads a half-rate byte that names none of OFF, EVEN and ODD: 0, 1 or 2. -/
opaque Config.halfRateOfBadCode : Nat → Fin 3

/-- FREE VALUE (log entry 2): how a block reads an OFF/ON or AUTO/HELD byte, at an image offset, that holds neither 0
nor 1. -/
opaque Config.flagOfBadCode : Nat → Nat → Bool

/-- FREE VALUE (log entry 3): byte k of a sent field of w bytes whose value does not fit w bytes. -/
opaque Config.overwideByte : Nat → Nat → Nat → Byte

/-- FREE VALUE (log entry 47): how many stamps, 0 to 8, part 9 of READ_CAMPAIGN gives of an attempt history of more than 8. -/
opaque Config.longHistoryCount : List Stamp → Fin 9

/-- FREE VALUE (log entry 47): stamp k of those that part 9 then gives. -/
opaque Config.longHistoryStamp : List Stamp → Nat → Stamp

end Sys2Proof
end

