-- ==== Sys2Proof/Machine/State.lean ====
section
/-! DEFINITION. The state of the CR318: every item that Table 2 of 00_scope.md and the chapters list for its ten
blocks, as plain data, with the queue of waiting commands; the reasons a step can stop; and the state after RESET_N. -/

namespace Sys2Proof.Machine

open Sys2Proof

/-! ### Named values. Each list stands in the order that R177 numbers from code 1. -/

/-- Device modes (R137). -/
inductive Mode where
  | config
  | standby
  | service
  deriving DecidableEq, Repr

/-- Sequencer states (R75, Table 5-1). -/
inductive SeqState where
  | off
  | ready
  | block
  | isolate
  | plan
  | rephase
  | awaitResume
  | ramp
  | tripped
  | locked
  deriving DecidableEq, Repr

/-- Service states of a cell (Table 1-2, section 1.3). -/
inductive Service where
  | vacant
  | awaiting
  | reserve
  | active
  | faulted
  | bypassed
  | lockedOut
  deriving DecidableEq, Repr

/-- Link states of a cell (Table 3-1). -/
inductive LinkState where
  | dark
  | confirm
  | trial
  | enrolled
  | severed
  | rejected
  | unsteady
  deriving DecidableEq, Repr

/-- The eleven fault classes (R62, Table 4-1). -/
inductive FaultClass where
  | overcurrent
  | dcOvervolt
  | dcUndervolt
  | overtemp
  | gateDriver
  | internal
  | bypassFail
  | linkLost
  | dcWindow
  | noGateOff
  | planNoAck
  deriving DecidableEq, Repr

/-- The kind of a fault (R62). -/
inductive FaultKind where
  | hard
  | soft
  deriving DecidableEq, Repr

/-- Why an ability was refused (Table 3-3). -/
inductive RejectCause where
  | ratedDc
  | halfRate
  deriving DecidableEq, Repr

/-- The ten report flags of a cell, in the order of Table 1-6. -/
inductive ReportFlag where
  | stateChanged
  | faultSeen
  | degraded
  | suspect
  | severed
  | relinkReady
  | overrun
  | enrolled
  | rejected
  | unsteady
  deriving DecidableEq, Repr

/-- Campaign kinds (R79). -/
inductive CampaignKind where
  | start
  | fault
  | replan
  | recover
  deriving DecidableEq, Repr

/-- Restart styles (section 7.3). -/
inductive Style where
  | stopped
  | running
  | held
  deriving DecidableEq, Repr

/-- Trip causes (R98, Table 5-8). -/
inductive TripCause where
  | settingsCorrupt
  | bypassFail
  | bypassTimeout
  | blindRefused
  | tooFewCells
  | iterationLimit
  | brakeNoConfirm
  | resumeTimeout
  deriving DecidableEq, Repr

/-- Campaign outcomes (R78). -/
inductive CampaignOutcome where
  | completed
  | tripped (cause : TripCause)
  | abandoned
  | refused
  deriving DecidableEq, Repr

/-- Shaft zones (R121). -/
inductive Zone where
  | station
  | creep
  | approach
  | midShaft
  deriving DecidableEq, Repr

/-- Ring self-test results (R150). -/
inductive TestResult where
  | untested
  | pass
  | fail
  deriving DecidableEq, Repr

/-- Causes of a MODE notice (Table 10-1). -/
inductive ModeCause where
  | freeze
  | unfreeze
  | go
  | goRefused
  | haltAtOnce
  | haltHeld
  | selfTest
  deriving DecidableEq, Repr

/-- Reply codes (Table 9-2). -/
inductive ReplyCode where
  | ok
  | accepted
  | wrongMode
  | wrongState
  | busy
  | range
  | unknown
  | malformed
  | notAtRest
  | notLinked
  | notRepaired
  | campaignActive
  | notHeld
  | staleStatus
  | aboveCeiling
  | disabled
  | timeout
  | aborted
  | ringFailed
  | settingsCorrupt
  deriving DecidableEq, Repr

/-! ### The settings store (Chapter 8) -/

/-- The self-test marker (R148, R149), with the last test slot judged in the test cycle in progress. -/
structure SelfTest where
  ring : Phase
  /-- Test cycle count, 0 to 64. -/
  cycle : Nat
  /-- The last position judged in this test cycle, 0 at its start (implied by R149 and R150). -/
  slot : Nat
  failingSlots : Nat
  failingFrames : Nat
  deriving DecidableEq, Repr

structure Store where
  mode : Mode
  /-- The settings image, 125 bytes (R144). -/
  image : List Byte
  frozen : Bool
  storedCrc : Option (BitVec 16)
  results : Rings TestResult
  selfTest : Option SelfTest
  deriving DecidableEq, Repr

/-! ### The cycle generator (section 2.1) -/

structure CycleGen where
  timebase : Stamp
  cycle : CycleNo
  /-- The length of the cycle in progress, µs (R24). -/
  period : Nat
  /-- The timebase at the start of the cycle in progress (implied by R24). -/
  cycleStart : Stamp
  deriving DecidableEq, Repr

/-! ### Cell records and link health (Chapters 1 to 3) -/

/-- A last good report (R7, R179). -/
structure Report where
  gate : BitVec 4
  bypass : BitVec 4
  classCode : Byte
  detail : Byte
  /-- Half-volts, 0 to 4095. -/
  dc : Nat
  tag : Byte
  stamp : Stamp
  deriving DecidableEq, Repr

/-- A fault record (R8, R9). -/
structure FaultRecord where
  first : FaultClass
  detail : Byte
  stamp : Stamp
  /-- Further causes: bit c − 1 for class code c (Table 12-6). -/
  further : BitVec 11
  kind : FaultKind
  blind : Bool
  reenrolled : Bool
  deriving DecidableEq, Repr

/-- The timer of a cell in isolation (R88): its bypass timer, or its blind wait, with the stamp it runs from. -/
inductive IsolationTimer where
  | bypass (start : Stamp)
  | blind (start : Stamp)
  deriving DecidableEq, Repr

/-- One roster record with the items its ring controller and the restart sequencer hold for it. -/
structure Cell where
  service : Service
  /-- The link state, held once: the roster's copy always equals the ring controller's (R5, R44). -/
  link : LinkState
  ability : Option Ability
  report : Option Report
  fault : Option FaultRecord
  strikes : Nat
  activeTime : Nat
  offset : Option Nat
  /-- Report flags: bit k for row k + 1 of Table 1-6. -/
  flags : BitVec 10
  reportAge : Nat
  missCount : Nat
  goodRun : Nat
  unsteadyCount : Nat
  heldAbility : Option Ability
  dcDebounce : Nat
  degradedArmed : Bool
  suspect : Bool
  severStamp : Option Stamp
  rejectCause : Option RejectCause
  /-- While FAULTED: the bypass command is CLOSE (R17). -/
  faultedClose : Bool
  /-- The restart sequencer's isolation timer for the cell (R88). -/
  isolation : Option IsolationTimer
  deriving DecidableEq, Repr

/-! ### Optical frames and the tunnel (Chapter 2) -/

/-- The message of a command field (Table 2-2). -/
inductive DownMessage where
  | none
  | withdrawn
  /-- The offset is present in the ACTIVE role alone. -/
  | plan (tag : Byte) (epoch : CycleNo) (activeOffset : Option Nat)
  | invite
  | accept (serial : BitVec 32)
  | tunnel (poll : Bool) (final : Bool) (seq : Nat) (bytes : List Byte)
  deriving DecidableEq, Repr

/-- One command field of a downstream frame (R28). -/
structure CommandField where
  gateOn : Bool
  close : Bool
  respond : Bool
  slotStart : Nat
  message : DownMessage
  deriving DecidableEq, Repr

/-- A downstream frame (R27). -/
structure DownFrame where
  cycle : CycleNo
  scale : Nat
  fields : List CommandField
  deriving DecidableEq, Repr

/-- A tunnel exchange in flight in a ring's mailbox (section 2.7). -/
structure Exchange where
  cell : CellRef
  tag : Byte
  out : List Byte
  sent : Nat
  /-- COLLECTING when true, SENDING when false. -/
  collecting : Bool
  reply : List Byte
  poll : Nat
  /-- The exchange's cycle count; 0 until the first chunk is sent. -/
  count : Nat
  deriving DecidableEq, Repr

structure RingControl where
  lit : Bool
  /-- Link health takes slot outcomes (R45). -/
  healthOn : Bool
  /-- Each ring's mailbox; EMPTY is `none`. -/
  mail : Rings (Option Exchange)
  /-- The downstream frames of the cycle in progress, while the rings are lit. -/
  frames : Option (Rings DownFrame)
  deriving DecidableEq, Repr

/-! ### Fault queue, sequencer and plans (Chapters 4 to 6) -/

/-- A fault queue entry (R65). -/
structure QueueEntry where
  cell : CellRef
  first : FaultClass
  detail : Byte
  stamp : Stamp
  further : BitVec 11
  deriving DecidableEq, Repr

/-- The open campaign record (R77); its set refers to roster records (R1). -/
structure Campaign where
  number : Nat
  kind : CampaignKind
  style : Option Style
  iteration : Nat
  set : List CellRef
  opened : Stamp
  pendingTag : Option Byte
  issue : Option Nat
  deriving DecidableEq, Repr

/-- A campaign record as it is sent and as the history holds it, with cell numbers (R1, R77, Table 12-5). -/
structure CampaignRecord where
  number : Nat
  kind : CampaignKind
  style : Option Style
  iteration : Nat
  set : List Nat
  opened : Stamp
  state : SeqState
  pendingTag : Option Byte
  issue : Option Nat
  outcome : Option CampaignOutcome
  deriving DecidableEq, Repr

/-- The gate-off watch (R87). -/
structure Watch where
  cells : List CellRef
  /-- Cycle starts that have followed the entry into BLOCK. -/
  starts : Nat
  deriving DecidableEq, Repr

/-- The issue of a pending plan in REPHASE (R93). -/
structure Rephase where
  lead : Nat
  epoch : CycleNo
  deriving DecidableEq, Repr

structure Sequencer where
  state : SeqState
  campaign : Option Campaign
  /-- Closed records, oldest first, at most 8 (R78). -/
  history : List CampaignRecord
  /-- Opened stamps of charged campaigns, oldest first (R81). -/
  attempts : List Stamp
  scale : Nat
  lastTag : Byte
  lastNumber : Nat
  tripCause : Option TripCause
  heldHalt : Bool
  watch : Option Watch
  /-- The enrol window of the open START campaign has run (R87, R147). -/
  enrolRun : Bool
  rephase : Option Rephase
  deriving DecidableEq, Repr

/-- A plan (Table 6-1). Each active list gives its cells in ascending position with their carrier offsets. -/
structure Plan where
  tag : Byte
  m : Nat
  active : Rings (List (CellRef × Nat))
  deselected : List CellRef
  voltage : Nat
  speed : Nat
  deriving DecidableEq, Repr

structure PlanUnit where
  pending : Option Plan
  inForce : Option Plan
  deriving DecidableEq, Repr

/-! ### The interlock unit (Chapter 7) -/

/-- An input line: the level at the pin, the qualified level, and the stamp of a pending change (R119). -/
structure Input where
  pin : Bool
  level : Bool
  change : Option Stamp
  deriving DecidableEq, Repr

/-- The hoist status record (R121, R122). -/
structure HoistRecord where
  speed : Int
  zone : Zone
  stamp : Stamp
  fresh : Bool
  deriving DecidableEq, Repr

structure Interlock where
  driveRun : Input
  brakeSet : Input
  hoist : Option HoistRecord
  holdReq : Bool
  /-- The hold-minimum timer while it runs: the stamp of the line's assertion (R129). -/
  holdTimer : Option Stamp
  holdMet : Bool
  trip : Bool
  -- items of the open campaign
  holdMark : Bool
  rideThrough : Option Stamp
  budgetSpent : Bool
  brakeConfirm : Option Stamp
  resumeTimer : Option Stamp
  rampCount : Nat
  deriving DecidableEq, Repr

/-! ### The controller link and the notice queue (Chapters 9 and 10) -/

/-- The receive framer (R153), with the characters of the frame in reception. -/
inductive Framer where
  | hunt
  | length
  | payload (length : Nat) (got : List Byte)
  | check (payload : List Byte) (high : Option Byte)
  deriving DecidableEq, Repr

/-- A record the CR318 sends (Table 12-2): its type, byte 3 of the frame and its body. -/
structure LinkRecord where
  recordType : Byte
  tag : Byte
  body : List Byte
  deriving DecidableEq, Repr

/-- The frame in transmission, with the stamp at which the transmit path took it. -/
structure Transmission where
  record : LinkRecord
  since : Stamp
  deriving DecidableEq, Repr

structure ControllerLink where
  framer : Framer
  frameErrors : Nat
  buffer : List Request
  replies : List LinkRecord
  transmitting : Option Transmission
  restartPending : Bool
  deriving DecidableEq, Repr

/-- An urgent notice with its contents as taken at posting (R167, Table 10-1). -/
inductive Urgent where
  | mode (mode : Mode) (cause : ModeCause) (test : Option (Phase × TestResult × Nat × Nat))
  | campaign (state : SeqState) (cause : Option TripCause) (record : Option CampaignRecord)
  | plan (tag : Byte) (m voltage speed : Nat)
  | lines (holdReq trip driveRun brakeSet : Bool)
  deriving DecidableEq, Repr

/-- A queued cell notice (R168, R169). -/
structure CellNotice where
  cell : CellRef
  released : Bool
  deriving DecidableEq, Repr

structure NoticeQueue where
  urgent : List Urgent
  cells : List CellNotice
  /-- The batch timer while it runs: the stamp of its start (R169). -/
  batchTimer : Option Stamp
  overrun : Bool
  /-- ATTENTION_SCAN's scan position, 0 to 24 (R171). -/
  scan : Nat
  deriving DecidableEq, Repr

/-! ### The whole device -/

/-- The state of the CR318 and the commands that wait for it, first in, first out. -/
structure State where
  store : Store
  gen : CycleGen
  rings : RingControl
  cells : Vector Cell 24
  queue : List QueueEntry
  seq : Sequencer
  plans : PlanUnit
  lock : Interlock
  link : ControllerLink
  notices : NoticeQueue
  pending : List Instr
  deriving DecidableEq, Repr

/-- Why the machine would stop with a fault. The manual gives the CR318 no event that stops it, so there is none: every
command answers a next state. -/
inductive Fault where
  deriving DecidableEq, Repr

/-- Why a command would have no meaning. -/
inductive Refusal where
  /-- Raised only by an arm of `exec` whose command has no meaning yet; safe. No arm raises it. -/
  | notModelled (mnemonic : String)
  deriving DecidableEq, Repr

/-! ### Reset values -/

/-- The settings image at its defaults (Table 8-3, in the layout of R144; R151). -/
def defaultImage : List Byte :=
  [0x00, 0xFA, 6, 6, 6] ++ List.replicate 48 0 ++ List.replicate 24 0
    ++ [0x03, 0xE8, 0x19, 0xC8, 0x2E, 0xE0, 4, 0x02, 0x58, 0x03, 0xD7, 0x06, 0xA4, 0x08, 0xFC, 4]
    ++ [0x01, 0x90, 2, 3, 0x02, 0x58, 40, 2, 0x00, 0x64, 1, 4, 4, 0x00, 0x96, 0x17, 0x70, 0x00, 0x32]
    ++ [0x05, 0xDC, 0x07, 0xD0, 0x07, 0xD0, 0x07, 0xD0, 1, 0, 0, 4, 20]

/-- An empty record in a service state (R3, R4), with its link DARK as Table 3-2 gives. -/
def Cell.empty (v : Service) : Cell where
  service := v
  link := .dark
  ability := none
  report := none
  fault := none
  strikes := 0
  activeTime := 0
  offset := none
  flags := 0
  reportAge := 0
  missCount := 0
  goodRun := 0
  unsteadyCount := 0
  heldAbility := none
  dcDebounce := 0
  degradedArmed := true
  suspect := false
  severStamp := none
  rejectCause := none
  faultedClose := true
  isolation := none

/-- The roster after RESET_N: positions 1 to 6 of each phase AWAITING, 7 and 8 VACANT (R4). -/
def resetCells : Vector Cell 24 :=
  Vector.ofFn fun c => Cell.empty (if positionOf c ≤ 6 then .awaiting else .vacant)

/-- An input line right after a reset that finds its pin deasserted (R119). -/
def Input.reset : Input := { pin := false, level := false, change := none }

/-- The CR318 right after RESET_N, with both input pins deasserted and no command waiting. -/
def State.reset : State where
  store :=
    { mode := .config, image := defaultImage, frozen := false, storedCrc := none,
      results := ⟨.untested, .untested, .untested⟩, selfTest := none }
  gen := { timebase := 0, cycle := 0, period := 250, cycleStart := 0 }
  rings := { lit := false, healthOn := false, mail := ⟨none, none, none⟩, frames := none }
  cells := resetCells
  queue := []
  seq :=
    { state := .off, campaign := none, history := [], attempts := [], scale := 0, lastTag := 0, lastNumber := 0,
      tripCause := none, heldHalt := false, watch := none, enrolRun := false, rephase := none }
  plans := { pending := none, inForce := none }
  lock :=
    { driveRun := Input.reset, brakeSet := Input.reset, hoist := none, holdReq := true, holdTimer := some 0,
      holdMet := false, trip := false, holdMark := false, rideThrough := none, budgetSpent := false,
      brakeConfirm := none, resumeTimer := none, rampCount := 0 }
  link :=
    { framer := .hunt, frameErrors := 0, buffer := [], replies := [], transmitting := none, restartPending := false }
  notices := { urgent := [], cells := [], batchTimer := none, overrun := false, scan := 0 }
  pending := []

end Sys2Proof.Machine
end

