-- ==== Sys2Proof/Machine/Operands.lean ====
section
/-! DEFINITION. How a command's operands are read: the fields of the settings image (Table 8-3, R144), the numbering of
the cells (R1, R2), slots (R30) and the named values of received codes (R177). -/

namespace Sys2Proof.Machine

open Sys2Proof

/-! ### The settings image: each field at its place in the 125 bytes of R144 -/

/-- One byte of the image. -/
def imageByte (image : List Byte) (i : Nat) : Nat := (image.getD i 0).toNat

/-- A two-byte field of the image, most significant byte first. -/
def imageWord (image : List Byte) (i : Nat) : Nat := imageByte image i * 256 + imageByte image (i + 1)

/-- A field of two named codes, 0 and 1; true for 1. Any other byte, which only a storage fault can leave, is read as a
free value (log entry 2). -/
def imageFlag (image : List Byte) (i : Nat) : Bool :=
  if imageByte image i = 0 then false
  else if imageByte image i = 1 then true
  else Config.flagOfBadCode i (imageByte image i)

/-- µs. -/
def cfgCyclePeriod (image : List Byte) : Nat := imageWord image 0
def cfgInstalled (image : List Byte) (p : Phase) : Nat := imageByte image (2 + p.index)
/-- The slot start as written: 0, or µs (R30). -/
def cfgSlotStart (image : List Byte) (c : CellRef) : Nat := imageWord image (5 + 2 * c.val)
/-- OFF 0, EVEN 1, ODD 2 (R144). -/
def cfgHalfRate (image : List Byte) (c : CellRef) : Nat :=
  let code := imageByte image (53 + c.val)
  if code ≤ 2 then code else (Config.halfRateOfBadCode code).val
/-- V. -/
def cfgNominalDc (image : List Byte) : Nat := imageWord image 77
/-- V rms. -/
def cfgRatedVoltage (image : List Byte) : Nat := imageWord image 79
/-- mm/s. -/
def cfgRatedSpeed (image : List Byte) : Nat := imageWord image 81
def cfgMinActive (image : List Byte) : Nat := imageByte image 83
/-- Hz. -/
def cfgCarrier (image : List Byte) : Nat := imageWord image 84
/-- In 1/1024. -/
def cfgModulation (image : List Byte) : Nat := imageWord image 86
/-- Half-volts. -/
def cfgDcLow (image : List Byte) : Nat := imageWord image 88
/-- Half-volts. -/
def cfgDcHigh (image : List Byte) : Nat := imageWord image 90
def cfgDcDebounce (image : List Byte) : Nat := imageByte image 92
/-- ms. -/
def cfgRampTime (image : List Byte) : Nat := imageWord image 93
def cfgStrikeLimit (image : List Byte) : Nat := imageByte image 95
def cfgAttemptBudget (image : List Byte) : Nat := imageByte image 96
/-- s. -/
def cfgAttemptWindow (image : List Byte) : Nat := imageWord image 97
/-- The bypass timeout of a bypass kind, ms (R6). -/
def cfgBypassTimeout (image : List Byte) : BypassKind → Nat
  | .contactor => imageByte image 99
  | .thyristor => imageByte image 100
/-- ms. -/
def cfgBlindWait (image : List Byte) : Nat := imageWord image 101
def cfgBlindAssume (image : List Byte) : Bool := imageFlag image 103
/-- Cycles. -/
def cfgBlockConfirm (image : List Byte) : Nat := imageByte image 104
/-- Cycles. -/
def cfgRephaseLead (image : List Byte) : Nat := imageByte image 105
/-- ms. -/
def cfgRideThrough (image : List Byte) : Nat := imageWord image 106
/-- mm/s. -/
def cfgRunningSpeed (image : List Byte) : Nat := imageWord image 108
/-- ms. -/
def cfgFreshness (image : List Byte) : Nat := imageWord image 110
/-- ms. -/
def cfgBrakeConfirm (image : List Byte) : Nat := imageWord image 112
/-- ms. -/
def cfgHoldMinimum (image : List Byte) : Nat := imageWord image 114
/-- ms. -/
def cfgResumeTimeout (image : List Byte) : Nat := imageWord image 116
/-- ms. -/
def cfgEnrolWindow (image : List Byte) : Nat := imageWord image 118
/-- Relink mode: HELD when true, AUTO when false (R144). -/
def cfgRelinkHeld (image : List Byte) : Bool := imageFlag image 120
def cfgExtendedDetail (image : List Byte) : Bool := imageFlag image 121
def cfgTunnelEnable (image : List Byte) : Bool := imageFlag image 122
def cfgBatchCount (image : List Byte) : Nat := imageByte image 123
/-- ms. -/
def cfgBatchTimer (image : List Byte) : Nat := imageByte image 124

/-- The settings CRC over the image as held (R144). -/
def settingsCrc (s : State) : BitVec 16 := crc16 s.store.image

/-- The recheck of R144: the CRC computed afresh equals the stored CRC. -/
def settingsMatch (s : State) : Bool := s.store.storedCrc == some (settingsCrc s)

/-! ### Division -/

/-- Integer division rounded down; a divisor that a storage fault has set to 0 gives a free value (log entry 1). -/
def divFloor (a b : Nat) : Nat := if b = 0 then Config.divByZero a else a / b

/-- Integer division rounded up, with the same free value. -/
def divCeil (a b : Nat) : Nat := if b = 0 then Config.divByZero a else (a + b - 1) / b

/-! ### Cells and slots -/

/-- The number a record's position carries (R1). -/
def numberOf (image : List Byte) (c : CellRef) : Nat :=
  match phaseOf c with
  | .a => positionOf c
  | .b => cfgInstalled image .a + positionOf c
  | .c => cfgInstalled image .a + cfgInstalled image .b + positionOf c

/-- The sum of the installed counts, the highest cell number (R2). -/
def installedTotal (image : List Byte) : Nat :=
  cfgInstalled image .a + cfgInstalled image .b + cfgInstalled image .c

/-- One roster record. -/
def State.cell (s : State) (c : CellRef) : Cell := s.cells.get c

/-- The position is installed: its record is not VACANT (R1). -/
def State.installed (s : State) (c : CellRef) : Bool := (s.cell c).service ≠ .vacant

/-- The record a request's cell number names; `none` is the RANGE of R2. A VACANT record is never named. Where a storage
fault has lowered an installed count and two installed records carry one number, the first in record order is named (log
entry 23). -/
def State.named (s : State) (number : Byte) : Option CellRef :=
  if number = 0 ∨ installedTotal s.store.image < number.toNat then none
  else allCells.find? fun c => s.installed c && numberOf s.store.image c == number.toNat

/-- The effective slot start of a position, µs (R30, R141). A start of 1 to 19, which only a storage fault leaves in the image,
is 20 by R30; that the checks of FREEZE take it so too is log entry 55. -/
def effectiveStart (image : List Byte) (c : CellRef) : Nat :=
  if cfgSlotStart image c = 0 then 20 + 24 * (positionOf c - 1)
  else if cfgSlotStart image c < 20 then 20
  else cfgSlotStart image c

/-- A half-rate setting admits a cycle: OFF always, EVEN and ODD by parity (R30). -/
def parityAdmits (halfRate : Nat) (cycle : CycleNo) : Bool :=
  halfRate = 0 || (halfRate = 1 && cycle.toNat % 2 = 0) || (halfRate = 2 && cycle.toNat % 2 = 1)

/-- The slot of a position is expected in the cycle in progress (R30), by the image, the roster and the cycle number as they
stand when this is asked, at the slot's end (log entry 54). -/
def State.expected (s : State) (c : CellRef) : Bool :=
  s.rings.lit && s.installed c && parityAdmits (cfgHalfRate s.store.image c) s.gen.cycle

/-- The DC window test (R35, R104): 4095 lies outside every window. -/
def insideWindow (image : List Byte) (dc : Nat) : Bool :=
  dc ≠ 4095 && cfgDcLow image ≤ dc && dc ≤ cfgDcHigh image

/-! ### Received codes (R177) -/

/-- A phase or ring code. -/
def phaseOfCode (code : Byte) : Option Phase :=
  if code = 1 then some .a else if code = 2 then some .b else if code = 3 then some .c else none

/-- A zone code (R121). -/
def zoneOfCode (code : Byte) : Option Zone :=
  if code = 1 then some .station
  else if code = 2 then some .creep
  else if code = 3 then some .approach
  else if code = 4 then some .midShaft
  else none

/-- The class and detail that a reported class code other than NONE gives the fault intake (R62): a code that names no
class, or a coordinator class, is INTERNAL with detail 0. -/
def faultOfCode (code detail : Byte) : FaultClass × Byte :=
  if code = 1 then (.overcurrent, detail)
  else if code = 2 then (.dcOvervolt, detail)
  else if code = 3 then (.dcUndervolt, detail)
  else if code = 4 then (.overtemp, detail)
  else if code = 5 then (.gateDriver, detail)
  else if code = 6 then (.internal, detail)
  else if code = 7 then (.bypassFail, detail)
  else (.internal, 0)

/-- A report shows bypass CLOSED (Table 12-9). -/
def Report.closed (r : Report) : Bool := r.bypass = 1

/-- A report shows bypass OPEN. -/
def Report.opened (r : Report) : Bool := r.bypass = 0

/-! ### Time -/

/-- The timebase now. -/
def State.now (s : State) : Stamp := s.gen.timebase

/-- The age of a stamp in µs. -/
def State.age (s : State) (stamp : Stamp) : Nat := elapsed s.now stamp

/-- The drive is at rest (R120). -/
def State.atRest (s : State) : Bool := !s.lock.driveRun.level && s.lock.brakeSet.level

end Sys2Proof.Machine
end

