-- ==== Sys2Proof/Machine/Ops.lean ====
section
/-! DEFINITION. The shared operations over the state: one write to a cell record, one change of every record, the reply
list, and the mailboxes of the tunnel. -/

namespace Sys2Proof.Machine

open Sys2Proof

/-- Writes one roster record. -/
def State.setCell (s : State) (c : CellRef) (x : Cell) : State := { s with cells := s.cells.set c x }

/-- Changes one roster record. -/
def State.modCell (s : State) (c : CellRef) (f : Cell → Cell) : State := s.setCell c (f (s.cell c))

/-- Changes every roster record in one step. -/
def State.mapCells (s : State) (f : CellRef → Cell → Cell) : State :=
  { s with cells := Vector.ofFn fun c => f c (s.cell c) }

/-- The place of a reply code in Table 9-2 (R177). -/
def ReplyCode.code : ReplyCode → Byte
  | .ok => 1
  | .accepted => 2
  | .wrongMode => 3
  | .wrongState => 4
  | .busy => 5
  | .range => 6
  | .unknown => 7
  | .malformed => 8
  | .notAtRest => 9
  | .notLinked => 10
  | .notRepaired => 11
  | .campaignActive => 12
  | .notHeld => 13
  | .staleStatus => 14
  | .aboveCeiling => 15
  | .disabled => 16
  | .timeout => 17
  | .aborted => 18
  | .ringFailed => 19
  | .settingsCorrupt => 20

/-- A reply record: the request's type plus 0x80 modulo 256, its tag, and a body that begins with the code (R178). -/
def replyRecord (recordType tag : Byte) (code : ReplyCode) (body : List Byte) : LinkRecord :=
  { recordType := recordType + 0x80, tag := tag, body := code.code :: body }

/-- A reply is produced: it joins the tail of the reply list (R158, R159). -/
def pushReply (recordType tag : Byte) (code : ReplyCode) (body : List Byte) (s : State) : State :=
  { s with link.replies := s.link.replies ++ [replyRecord recordType tag code body] }

/-- The frame error count rises by 1, saturating at 65,535 (R155). -/
def countFrameError (s : State) : State :=
  { s with link.frameErrors := min 65535 (s.link.frameErrors + 1) }

/-- The record type of TUNNEL. -/
def tunnelType : Byte := 0x13

/-- A ring's exchange in flight ends: its one reply is sent and the mailbox empties (R41, R42). Nothing happens while the
mailbox is EMPTY. OK and MALFORMED carry the reply bytes (Table 12-4). -/
def endExchange (p : Phase) (code : ReplyCode) (s : State) : State :=
  match s.rings.mail.get p with
  | none => s
  | some x =>
    let body :=
      if code = .ok ∨ code = .malformed then BitVec.ofNat 8 x.reply.length :: x.reply else []
    pushReply tunnelType x.tag code body { s with rings.mail := s.rings.mail.set p none }

/-- Every exchange in flight ends with ABORTED (R42). Ring order A, B, C is R163's at RESTART and the model's choice elsewhere
(log entry 40). -/
def abortExchanges (s : State) : State :=
  phases.foldl (fun s p => endExchange p .aborted s) s

/-- A cell's link leaves ENROLLED: an exchange in flight with it ends NOT_LINKED (R42, R44). -/
def endExchangeWith (c : CellRef) (s : State) : State :=
  match s.rings.mail.get (phaseOf c) with
  | some x => if x.cell = c then endExchange (phaseOf c) .notLinked s else s
  | none => s

end Sys2Proof.Machine
end

