-- ==== Sys2Proof/Machine/Flags.lean ====
section
/-! DEFINITION. The report flags of the cells (section 1.5) and the notice queue that carries them and the urgent notices
(sections 10.1 to 10.3). -/

namespace Sys2Proof.Machine

open Sys2Proof

/-! ### Urgent notices -/

/-- An urgent notice is posted: it joins the tail of the urgent list, or is lost and sets the overrun flag when the list
holds 8 (R166). -/
def postUrgent (n : Urgent) (s : State) : State :=
  if s.notices.urgent.length < 8 then { s with notices.urgent := s.notices.urgent ++ [n] }
  else { s with notices.overrun := true }

/-! ### Cell notices -/

/-- The number of held cell notices. -/
def heldCount (q : NoticeQueue) : Nat := q.cells.countP (!·.released)

/-- A release: every held notice is marked released and the batch timer is dropped (R169). -/
def releaseNotices (s : State) : State :=
  { s with
    notices.cells := s.notices.cells.map fun n => { n with released := true }
    notices.batchTimer := none }

/-- A cell notice is posted held; it may complete the batch or start the batch timer (R168, R169). A held count already at or
above the batch count, which only a storage fault brings about, releases too (log entry 46). -/
def postCellNotice (c : CellRef) (s : State) : State :=
  let t : State := { s with notices.cells := s.notices.cells ++ [{ cell := c, released := false }] }
  if cfgBatchCount s.store.image ≤ heldCount t.notices then releaseNotices t
  else if heldCount t.notices = 1 then { t with notices.batchTimer := some s.now }
  else t

/-- A queued cell notice is withdrawn; the batch timer is dropped when no held notice remains (R20, R168, R169). -/
def withdrawNotice (c : CellRef) (s : State) : State :=
  let t : State := { s with notices.cells := s.notices.cells.filter (·.cell ≠ c) }
  if heldCount t.notices = 0 then { t with notices.batchTimer := none } else t

/-! ### Report flags -/

/-- The row of a report flag in Table 1-6, counted from 0. -/
def ReportFlag.row : ReportFlag → Nat
  | .stateChanged => 0
  | .faultSeen => 1
  | .degraded => 2
  | .suspect => 3
  | .severed => 4
  | .relinkReady => 5
  | .overrun => 6
  | .enrolled => 7
  | .rejected => 8
  | .unsteady => 9

/-- The bit of a report flag (Table 12-6). -/
def ReportFlag.mask (f : ReportFlag) : BitVec 10 := 1#10 <<< f.row

/-- A report flag is set; a cell whose flags go from empty to non-empty posts a cell notice (R19). -/
def setFlag (f : ReportFlag) (c : CellRef) (s : State) : State :=
  let t := s.modCell c fun x => { x with flags := x.flags ||| f.mask }
  if (s.cell c).flags = 0 then postCellNotice c t else t

/-- All report flags of a cell are cleared (R20). -/
def clearFlags (c : CellRef) (s : State) : State := s.modCell c fun x => { x with flags := 0 }

end Sys2Proof.Machine
end

