-- ==== Sys2Proof/Machine/Records.lean ====
section
/-! DEFINITION. The bytes of every record and optical frame the CR318 sends (Chapter 12): codes (R177), the cell record,
the campaign record, readout replies, notices (R167, R178) and downstream frames (R179). -/

namespace Sys2Proof.Machine

open Sys2Proof

/-! ### Fields -/

/-- A sent field of `w` bytes. A value too wide for it, which only a storage fault can bring about, is sent as free bytes
(log entry 3). -/
def sendNat (w n : Nat) : List Byte :=
  if n < 256 ^ w then bytesOfNat w n else (List.range w).map (Config.overwideByte w n)

def sendBool (b : Bool) : Byte := if b then 1 else 0

/-- A field that is sent as 0 when absent (R177, R178). -/
def sendOption {α : Type} (f : α → Byte) : Option α → Byte
  | some x => f x
  | none => 0

/-! ### Codes (R177, Table 12-1) -/

def Phase.code : Phase → Byte
  | .a => 1
  | .b => 2
  | .c => 3

def Mode.code : Mode → Byte
  | .config => 1
  | .standby => 2
  | .service => 3

def SeqState.code : SeqState → Byte
  | .off => 1
  | .ready => 2
  | .block => 3
  | .isolate => 4
  | .plan => 5
  | .rephase => 6
  | .awaitResume => 7
  | .ramp => 8
  | .tripped => 9
  | .locked => 10

def Service.code : Service → Byte
  | .vacant => 1
  | .awaiting => 2
  | .reserve => 3
  | .active => 4
  | .faulted => 5
  | .bypassed => 6
  | .lockedOut => 7

def LinkState.code : LinkState → Byte
  | .dark => 1
  | .confirm => 2
  | .trial => 3
  | .enrolled => 4
  | .severed => 5
  | .rejected => 6
  | .unsteady => 7

/-- Classes take codes 1 to 11 in the order of Table 4-1; NONE is 0. -/
def FaultClass.code : FaultClass → Nat
  | .overcurrent => 1
  | .dcOvervolt => 2
  | .dcUndervolt => 3
  | .overtemp => 4
  | .gateDriver => 5
  | .internal => 6
  | .bypassFail => 7
  | .linkLost => 8
  | .dcWindow => 9
  | .noGateOff => 10
  | .planNoAck => 11

def RejectCause.code : RejectCause → Byte
  | .ratedDc => 1
  | .halfRate => 2

def CampaignKind.code : CampaignKind → Byte
  | .start => 1
  | .fault => 2
  | .replan => 3
  | .recover => 4

def Style.code : Style → Byte
  | .stopped => 1
  | .running => 2
  | .held => 3

def TripCause.code : TripCause → Byte
  | .settingsCorrupt => 1
  | .bypassFail => 2
  | .bypassTimeout => 3
  | .blindRefused => 4
  | .tooFewCells => 5
  | .iterationLimit => 6
  | .brakeNoConfirm => 7
  | .resumeTimeout => 8

def CampaignOutcome.code : CampaignOutcome → Byte
  | .completed => 1
  | .tripped _ => 2
  | .abandoned => 3
  | .refused => 4

/-- The trip cause of a TRIPPED outcome. -/
def CampaignOutcome.cause : CampaignOutcome → Option TripCause
  | .tripped c => some c
  | _ => none

def TestResult.code : TestResult → Byte
  | .untested => 1
  | .pass => 2
  | .fail => 3

def ModeCause.code : ModeCause → Byte
  | .freeze => 1
  | .unfreeze => 2
  | .go => 3
  | .goRefused => 4
  | .haltAtOnce => 5
  | .haltHeld => 6
  | .selfTest => 7

/-- The bit of a class in a set of further causes: bit c − 1 for class code c (Table 12-6). -/
def FaultClass.mask (k : FaultClass) : BitVec 11 := 1#11 <<< (k.code - 1)

/-! ### The cell record (Table 12-6, R173) -/

/-- Bytes 27 to 36. -/
def reportBytes (r : Report) : List Byte :=
  [r.gate ++ r.bypass, r.classCode, r.detail] ++ sendNat 2 r.dc ++ [r.tag] ++ bytes32 r.stamp

/-- Bytes 37 to 44. -/
def faultBytes (f : FaultRecord) : List Byte :=
  [BitVec.ofNat 8 f.first.code, f.detail] ++ bytes32 f.stamp
    ++ bytes16 (BitVec.ofBool (f.kind = .hard) ++ (BitVec.ofBool f.blind ++ (BitVec.ofBool f.reenrolled
        ++ ((0 : BitVec 2) ++ f.further))))

/-- The presence and marker bits of byte 4. -/
def markerByte (x : Cell) : Byte :=
  BitVec.ofBool x.ability.isSome ++ (BitVec.ofBool x.report.isSome ++ (BitVec.ofBool x.fault.isSome
    ++ (BitVec.ofBool x.offset.isSome ++ (BitVec.ofBool x.severStamp.isSome ++ (BitVec.ofBool x.rejectCause.isSome
    ++ (BitVec.ofBool x.degradedArmed ++ BitVec.ofBool x.suspect))))))

/-- Bytes 45 to 53: the severing stamp while SEVERED; the rejection cause and the refused ability while REJECTED. -/
def linkBytes (x : Cell) : List Byte :=
  match x.severStamp, x.rejectCause with
  | some stamp, _ => bytes32 stamp ++ List.replicate 5 0
  | none, some cause => cause.code :: ((x.heldAbility.map abilityBytes).getD (List.replicate 8 0))
  | none, none => List.replicate 9 0

/-- The cell number byte of a record. -/
def cellNumberBytes (s : State) (c : CellRef) : List Byte := sendNat 1 (numberOf s.store.image c)

/-- The 54 bytes of a cell's record. -/
def cellRecordBytes (s : State) (c : CellRef) : List Byte :=
  let x := s.cell c
  cellNumberBytes s c
    ++ [BitVec.ofNat 4 (Phase.code (phaseOf c)).toNat ++ BitVec.ofNat 4 (positionOf c), x.service.code, x.link.code,
        markerByte x]
    ++ bytes16 (x.flags.setWidth 16)
    ++ sendNat 1 x.strikes
    ++ sendNat 4 x.activeTime
    ++ sendNat 3 (x.offset.getD 0)
    ++ sendNat 1 x.reportAge ++ sendNat 1 x.missCount ++ sendNat 1 x.goodRun ++ sendNat 1 x.unsteadyCount
    ++ (x.ability.map abilityBytes).getD (List.replicate 8 0)
    ++ (x.report.map reportBytes).getD (List.replicate 10 0)
    ++ (x.fault.map faultBytes).getD (List.replicate 8 0)
    ++ linkBytes x

/-! ### Campaign records (Table 12-5) -/

/-- The 40 bytes of a campaign record; an absent record is 40 zeros (R178). -/
def campaignBytes : Option CampaignRecord → List Byte
  | none => List.replicate 40 0
  | some r =>
    sendNat 2 r.number ++ [r.kind.code, sendOption Style.code r.style] ++ sendNat 1 r.iteration
      ++ sendNat 1 r.set.length ++ (r.set.flatMap (sendNat 1) ++ List.replicate (24 - r.set.length) 0)
      ++ bytes32 r.opened
      ++ [r.state.code, sendBool r.pendingTag.isSome, r.pendingTag.getD 0] ++ sendNat 1 (r.issue.getD 0)
      ++ [sendOption CampaignOutcome.code r.outcome, sendOption TripCause.code (r.outcome.bind CampaignOutcome.cause)]

/-- The open campaign's record as it stands (R77, R1). -/
def openRecord (s : State) (k : Campaign) : CampaignRecord where
  number := k.number
  kind := k.kind
  style := k.style
  iteration := k.iteration
  set := k.set.map (numberOf s.store.image)
  opened := k.opened
  state := s.seq.state
  pendingTag := k.pendingTag
  issue := k.issue
  outcome := none

/-! ### Readouts (R172, R174, Table 12-4) -/

/-- The lines byte: HOLD_REQ, TRIP, DRIVE_RUN and BRAKE_SET in bits 0 to 3 (Table 12-4). -/
def linesByte (holdReq trip driveRun brakeSet : Bool) : Byte :=
  (0 : BitVec 4) ++ (BitVec.ofBool brakeSet ++ (BitVec.ofBool driveRun ++ (BitVec.ofBool trip ++ BitVec.ofBool holdReq)))

/-- The seven bytes of READ_STATUS on the open campaign. -/
def campaignSummary (s : State) : List Byte :=
  match s.seq.campaign with
  | none => List.replicate 7 0
  | some k =>
    sendNat 2 k.number ++ [k.kind.code, sendOption Style.code k.style] ++ sendNat 1 k.iteration
      ++ [s.seq.state.code] ++ sendNat 1 k.set.length

/-- The six bytes on a plan: tag, m and both ceilings; m is 0 while no plan is in force. -/
def planSummary : Option Plan → List Byte
  | none => List.replicate 6 0
  | some p => [p.tag] ++ sendNat 1 p.m ++ sendNat 2 p.voltage ++ sendNat 2 p.speed

/-- The 30 bytes of a READ_STATUS reply after its code (R172). -/
def statusBytes (s : State) : List Byte :=
  [s.store.mode.code, sendOption (fun t => Phase.code t.ring) s.store.selfTest, s.seq.state.code,
      sendOption TripCause.code s.seq.tripCause, sendBool s.seq.heldHalt]
    ++ campaignSummary s
    ++ planSummary s.plans.inForce
    ++ sendNat 2 s.seq.scale
    ++ [linesByte s.lock.holdReq s.lock.trip s.lock.driveRun.level s.lock.brakeSet.level]
    ++ sendNat 1 s.seq.attempts.length
    ++ [s.store.results.a.code, s.store.results.b.code, s.store.results.c.code]
    ++ sendNat 2 s.link.frameErrors
    ++ sendNat 1 s.notices.urgent.length ++ sendNat 1 s.notices.cells.length ++ [sendBool s.notices.overrun]

/-- The stamps that part 9 of READ_CAMPAIGN gives: the attempt history's, oldest first, 0 to 8 of them (R174). Of more than 8,
which only a storage fault brings about, R158 and Table 12-4 admit no more than 8, and which they are is free (log entry
47). -/
def reportedAttempts (attempts : List Stamp) : List Stamp :=
  if attempts.length ≤ 8 then attempts
  else (List.range (Config.longHistoryCount attempts).val).map (Config.longHistoryStamp attempts)

/-- The body of a READ_CAMPAIGN reply after its code; `none` for a part outside Table 10-3 (R174). -/
def campaignPart (s : State) (part : Byte) : Option (List Byte) :=
  let history := s.seq.history
  if part = 0 then
    some (sendBool s.seq.campaign.isSome :: campaignBytes (s.seq.campaign.map (openRecord s))
      ++ sendNat 1 history.length)
  else if part.toNat ≤ 8 then
    let r := history.reverse[part.toNat - 1]?
    some (sendBool r.isSome :: campaignBytes r ++ sendNat 1 history.length)
  else if part = 9 then
    let stamps := reportedAttempts s.seq.attempts
    some (sendNat 1 stamps.length
      ++ (stamps.flatMap bytes32 ++ List.replicate (4 * (8 - stamps.length)) 0)
      ++ sendNat 1 (cfgAttemptBudget s.store.image) ++ sendNat 2 (cfgAttemptWindow s.store.image))
  else none

/-- The image bytes of a READ_SETTINGS part (Table 10-3). -/
def imagePart (image : List Byte) (part : Byte) : Option (List Byte) :=
  if part = 0 then some (image.take 48)
  else if part = 1 then some ((image.drop 48).take 48)
  else if part = 2 then some ((image.drop 96).take 29)
  else none

/-- The body of a READ_SETTINGS reply after its code (R174). -/
def settingsPart (s : State) (part : Byte) : Option (List Byte) :=
  (imagePart s.store.image part).map fun bytes =>
    bytes ++ [sendBool s.store.frozen] ++ bytes16 (s.store.storedCrc.getD 0)

/-! ### Notices (R165, R167, R170, R178) -/

/-- The record type of an urgent notice (Table 12-3). -/
def Urgent.recordType : Urgent → Byte
  | .mode _ _ _ => 0x40
  | .campaign _ _ _ => 0x41
  | .plan _ _ _ _ => 0x42
  | .lines _ _ _ _ => 0x43

/-- The contents of an urgent notice after its stamp (Table 12-4). -/
def Urgent.contents : Urgent → List Byte
  | .mode m cause none => [m.code, cause.code] ++ List.replicate 5 0
  | .mode m cause (some (ring, result, slots, frames)) =>
    [m.code, cause.code, Phase.code ring, result.code] ++ sendNat 2 slots ++ sendNat 1 frames
  | .campaign st cause record =>
    [st.code, sendOption TripCause.code cause, sendBool record.isSome] ++ campaignBytes record
  | .plan tag m voltage speed => [tag] ++ sendNat 1 m ++ sendNat 2 voltage ++ sendNat 2 speed
  | .lines holdReq trip driveRun brakeSet => [linesByte holdReq trip driveRun brakeSet]

/-- The record of an urgent notice taken at a stamp, with the overrun flag in byte 3. -/
def urgentRecord (n : Urgent) (overrun : Bool) (stamp : Stamp) : LinkRecord :=
  { recordType := n.recordType, tag := sendBool overrun, body := bytes32 stamp ++ n.contents }

/-- The record of a CELL notice taken now. -/
def cellNoticeRecord (s : State) (c : CellRef) : LinkRecord :=
  { recordType := 0x44, tag := 0, body := bytes32 s.now ++ cellRecordBytes s c }

/-- The characters of a record's frame as sent (Table 12-2). -/
def frameOfRecord (r : LinkRecord) : List Byte := linkFrame (r.recordType :: r.tag :: r.body)

/-! ### Downstream frames (R179, Tables 12-7 and 12-8) -/

/-- The message code and the seven message bytes of a command field. -/
def messageCode : DownMessage → BitVec 3
  | .none => 0
  | .withdrawn => 1
  | .plan _ _ _ => 2
  | .invite => 3
  | .accept _ => 4
  | .tunnel _ _ _ _ => 5

def downMessageBytes : DownMessage → List Byte
  | .none => List.replicate 7 0
  | .withdrawn => List.replicate 7 0
  | .plan tag epoch (some offset) => [tag] ++ bytes16 epoch ++ [1] ++ sendNat 3 offset
  | .plan tag epoch none => [tag] ++ bytes16 epoch ++ [2, 0, 0, 0]
  | .invite => List.replicate 7 0
  | .accept serial => bytes32 serial ++ List.replicate 3 0
  | .tunnel poll final seq bytes =>
    (BitVec.ofBool poll ++ (BitVec.ofBool final ++ (BitVec.ofNat 2 seq ++ (0#1 ++ BitVec.ofNat 3 bytes.length))))
      :: (bytes ++ List.replicate (4 - bytes.length) 0) ++ List.replicate 2 0

/-- The ten bytes of a command field. -/
def fieldByteList (f : CommandField) : List Byte :=
  [BitVec.ofBool f.gateOn ++ (BitVec.ofBool f.close ++ (BitVec.ofBool f.respond ++ (0#2 ++ messageCode f.message)))]
    ++ sendNat 2 f.slotStart ++ downMessageBytes f.message

/-- The 86 bytes of a downstream frame. -/
def DownFrame.bytes (f : DownFrame) : List Byte :=
  withCrc16 (bytes16 f.cycle ++ sendNat 2 f.scale ++ f.fields.flatMap fieldByteList)

end Sys2Proof.Machine
end

