-- ==== Sys2Proof/Machine/Roster.lean ====
section
/-! DEFINITION. The cell roster's changes of service state, strikes and fault records (Chapter 1), the items of a link
state entry (R44, Table 3-2), and the bypass commands a service state gives (R17). -/

namespace Sys2Proof.Machine

open Sys2Proof

/-! ### Link state entries -/

/-- The isolation timer across a link change: severing turns the bypass timer into a blind wait, leaving SEVERED turns the
blind wait into a bypass timer, each from that moment (R89, R90). -/
def isolationAcross (before after : LinkState) (now : Stamp) (t : IsolationTimer) : IsolationTimer :=
  if after = .severed ∧ before ≠ .severed then .blind now
  else if after ≠ .severed ∧ before = .severed then .bypass now
  else t

/-- A record with the items that entry into a link state sets (Table 3-2), given the ability then held and the rejection
cause. Leaving ENROLLED zeroes the DC debounce count (R36, R44). -/
def linkItems (l : LinkState) (held : Option Ability) (cause : Option RejectCause) (now : Stamp) (x : Cell) : Cell :=
  { x with
    link := l
    missCount := if l = .severed then 240 else 0
    goodRun := 0
    degradedArmed := if l = .severed then x.degradedArmed else true
    suspect := if l = .severed then x.suspect else false
    severStamp := if l = .severed then some now else none
    rejectCause := cause
    heldAbility := held
    dcDebounce := if x.link = .enrolled then 0 else x.dcDebounce
    isolation := x.isolation.map (isolationAcross x.link l now) }

/-- A cell's link enters a state (R44); leaving ENROLLED ends a tunnel exchange with it. -/
def enterLink (l : LinkState) (held : Option Ability) (cause : Option RejectCause) (c : CellRef) (s : State) : State :=
  let t := s.modCell c (linkItems l held cause s.now)
  if (s.cell c).link = .enrolled ∧ l ≠ .enrolled then endExchangeWith c t else t

/-- Every link becomes DARK with unsteady count 0 and debounce count 0 (R43, R45). -/
def darkenLinks (s : State) : State :=
  s.mapCells fun _ x => { linkItems .dark none none s.now x with unsteadyCount := 0, dcDebounce := 0 }

/-! ### Service states -/

/-- ACTIVE and RESERVE cells are working cells (section 4.4). -/
def Service.working (v : Service) : Bool := v = .active || v = .reserve

/-- A cell's service state becomes `v`: the carrier offset ends with ACTIVE (R11), the DC debounce count with ACTIVE and
RESERVE (R36), and a change sets state_changed (R19). -/
def setService (v : Service) (c : CellRef) (s : State) : State :=
  let x := s.cell c
  let t := s.setCell c { x with
    service := v
    offset := if v = .active then x.offset else none
    dcDebounce := if v.working then x.dcDebounce else 0 }
  if x.service = v then t else setFlag .stateChanged c t

/-- HALT and RESTART return a working cell to AWAITING (R21, R22). -/
def retireCell (s : State) (c : CellRef) : State :=
  if (s.cell c).service.working then setService .awaiting c s else s

/-- Every ACTIVE and RESERVE cell becomes AWAITING (R21, R22). -/
def retireCells (s : State) : State := allCells.foldl retireCell s

/-! ### Faults and strikes -/

/-- The kind of a class (Table 4-1, R8). -/
def FaultClass.kind : FaultClass → FaultKind
  | .overcurrent => .hard
  | .dcOvervolt => .hard
  | .dcUndervolt => .soft
  | .overtemp => .soft
  | .gateDriver => .hard
  | .internal => .hard
  | .bypassFail => .hard
  | .linkLost => .soft
  | .dcWindow => .soft
  | .noGateOff => .hard
  | .planNoAck => .soft

/-- The detail the fault intake records (R63). -/
def recordedDetail (image : List Byte) (k : FaultClass) (detail : Byte) : Byte :=
  if k = .internal && cfgExtendedDetail image then detail else 0

/-- A fresh fault record (R8). -/
def freshFault (k : FaultClass) (detail : Byte) (now : Stamp) : FaultRecord where
  first := k
  detail := detail
  stamp := now
  further := 0
  kind := k.kind
  blind := false
  reenrolled := false

/-- A class is new to a fault record: it is neither the first cause nor a further cause (R9, R69). -/
def FaultRecord.isNew (f : FaultRecord) (k : FaultClass) : Bool :=
  f.first ≠ k && (f.further &&& k.mask) = 0

/-- The strike count after one more bypass (R14). -/
def raisedStrikes (n : Nat) : Nat := min 7 (n + 1)

/-- A bypass that follows a fault: the strike is applied, and the cell becomes BYPASSED, or LOCKED_OUT at the strike
limit (R14). -/
def strikeAndBypass (c : CellRef) (s : State) : State :=
  let n := raisedStrikes (s.cell c).strikes
  let t := s.modCell c fun x => { x with strikes := n }
  setService (if cfgStrikeLimit s.store.image ≤ n then .lockedOut else .bypassed) c t

/-! ### The pending plan's cells and the bypass commands -/

/-- The cells of a plan's active lists, in ascending cell number, with their offsets. -/
def Plan.activeCells (p : Plan) : List (CellRef × Nat) := p.active.a ++ p.active.b ++ p.active.c

/-- The offset a plan gives a cell; present exactly when it names the cell ACTIVE. -/
def Plan.offsetOf (p : Plan) (c : CellRef) : Option Nat :=
  (p.activeCells.find? (·.1 = c)).map (·.2)

/-- The pending plan names the cell ACTIVE (R67). -/
def namedActive (s : State) (c : CellRef) : Bool :=
  match s.plans.pending with
  | some p => (p.offsetOf c).isSome
  | none => false

/-- The pending plan deselects the cell. -/
def pendingDeselects (s : State) (c : CellRef) : Bool :=
  match s.plans.pending with
  | some p => decide (c ∈ p.deselected)
  | none => false

/-- The base bypass command of a cell is CLOSE (R17, Table 1-5). -/
def baseClose (s : State) (c : CellRef) : Bool :=
  match (s.cell c).service with
  | .active => s.seq.state = .rephase && pendingDeselects s c
  | .reserve => !(s.seq.state = .rephase && namedActive s c)
  | .faulted => (s.cell c).faultedClose
  | .vacant => true
  | .awaiting => true
  | .bypassed => true
  | .lockedOut => true

end Sys2Proof.Machine
end

