-- ==== Sys2Proof/Machine/Plan.lean ====
section
/-! DEFINITION. The plan unit's arithmetic (Chapter 6): candidates, the equalised active count, selection, carrier
offsets, ceilings, and the bypasses a plan moves. -/

namespace Sys2Proof.Machine

open Sys2Proof

/-! ### Candidates and selection (R104 to R107) -/

/-- The last good report's DC voltage, in half-volts. -/
def lastDc (x : Cell) : Nat := (x.report.map Report.dc).getD 0

/-- The candidate test (R104, Table 6-3). -/
def isCandidate (s : State) (c : CellRef) : Bool :=
  let x := s.cell c
  x.service.working && x.link = .enrolled && !x.suspect && x.report.isSome
    && insideWindow s.store.image (lastDc x)

/-- The candidate set of a phase, in ascending position. -/
def candidates (s : State) (p : Phase) : List CellRef := (cellsOf p).filter (isCandidate s)

/-- The kinds that prefer currently ACTIVE cells (R107, Table 6-5). -/
def CampaignKind.prefersActive : CampaignKind → Bool
  | .start => true
  | .fault => true
  | .replan => false
  | .recover => true

/-- Key 1 of the selection: 0 comes first (R107). -/
def activeKey (s : State) (prefer : Bool) (c : CellRef) : Nat :=
  if prefer && (s.cell c).service ≠ .active then 1 else 0

/-- The order of selection: key 1, then active time, then position (R107). -/
def comesBefore (s : State) (prefer : Bool) (a b : CellRef) : Bool :=
  if activeKey s prefer a ≠ activeKey s prefer b then activeKey s prefer a < activeKey s prefer b
  else if (s.cell a).activeTime ≠ (s.cell b).activeTime then (s.cell a).activeTime < (s.cell b).activeTime
  else positionOf a ≤ positionOf b

/-- A cell's place in a sorted list. -/
def insertCandidate (s : State) (prefer : Bool) (c : CellRef) : List CellRef → List CellRef
  | [] => [c]
  | d :: ds => if comesBefore s prefer c d then c :: d :: ds else d :: insertCandidate s prefer c ds

/-- A candidate set in the order of selection. -/
def sortCandidates (s : State) (prefer : Bool) (cells : List CellRef) : List CellRef :=
  cells.foldr (insertCandidate s prefer) []

/-- The `m` cells chosen in a phase, in ascending position (R107, R108). -/
def selected (s : State) (prefer : Bool) (m : Nat) (p : Phase) : List CellRef :=
  let chosen := (sortCandidates s prefer (candidates s p)).take m
  (cellsOf p).filter fun c => decide (c ∈ chosen)

/-- The equalised active count (R106). -/
def activeCount (s : State) : Nat :=
  min (candidates s .a).length (min (candidates s .b).length (candidates s .c).length)

/-! ### Offsets and ceilings (R110 to R113) -/

/-- The carrier period in ticks (R110). -/
def carrierPeriod (image : List Byte) : Nat := divFloor (80000000 + cfgCarrier image) (2 * cfgCarrier image)

/-- The carrier offset of the k-th cell of phase j under active count m (R111). -/
def carrierOffset (period m j k : Nat) : Nat := period * (3 * k + j) / (6 * m)

/-- An active list with its offsets. -/
def withOffsets (period m j : Nat) (cells : List CellRef) : List (CellRef × Nat) :=
  cells.zipIdx.map fun x => (x.1, carrierOffset period m j x.2)

/-- The DC sum of the chosen cells of a phase, in half-volts (R112). -/
def dcSum (s : State) (cells : List CellRef) : Nat := (cells.map fun c => lastDc (s.cell c)).sum

/-- The voltage ceiling from the smallest phase sum and the modulation limit (R112). -/
def voltageCeiling (smin m : Nat) : Nat := smin * m * 5017 / 8388608

/-- The speed ceiling of a plan with a voltage ceiling (R113). -/
def speedCeiling (image : List Byte) (voltage : Nat) : Nat :=
  min (cfgRatedSpeed image) (divFloor (cfgRatedSpeed image * voltage) (cfgRatedVoltage image))

/-! ### The plan -/

/-- The cells that are ACTIVE and in no active list, in ascending cell number (R108), which is record order; where a storage
fault has lowered an installed count and the two differ, record order is kept (log entry 56). -/
def deselectedCells (s : State) (chosen : List CellRef) : List CellRef :=
  allCells.filter fun c => decide ((s.cell c).service = .active) && !decide (c ∈ chosen)

/-- The plan computed from the roster as it stands; `none` when it is infeasible (R106, R112, R113). -/
def computePlan (s : State) (prefer : Bool) (tag : Byte) : Option Plan :=
  let m := activeCount s
  if m = 0 ∨ m < cfgMinActive s.store.image then none
  else
    let a := selected s prefer m .a
    let b := selected s prefer m .b
    let c := selected s prefer m .c
    let period := carrierPeriod s.store.image
    let smin := min (dcSum s a) (min (dcSum s b) (dcSum s c))
    let voltage := voltageCeiling smin (cfgModulation s.store.image)
    some { tag := tag, m := m,
           active := ⟨withOffsets period m 0 a, withOffsets period m 1 b, withOffsets period m 2 c⟩,
           deselected := deselectedCells s (a ++ b ++ c),
           voltage := voltage, speed := speedCeiling s.store.image voltage }

/-! ### The lead (R93, R109) -/

/-- The cells whose bypass a plan moves: RESERVE cells it names ACTIVE and the cells it deselects (R109). -/
def movedCells (s : State) (p : Plan) : List CellRef :=
  (p.activeCells.map (·.1)).filter (fun c => (s.cell c).service = .reserve) ++ p.deselected

/-- The bypass timeout of a cell's own bypass kind, ms (R6). Every cell asked of holds an ability record. -/
def bypassTimeout (s : State) (c : CellRef) : Nat :=
  match (s.cell c).ability with
  | some a => cfgBypassTimeout s.store.image a.bypassKind
  | none => 0

/-- The lead of a pending plan, in cycles (R93). The moved cells and their timeouts are read at REPHASE entry (log entry
45). -/
def planLead (s : State) (p : Plan) : Nat :=
  let moved := movedCells s p
  if moved = [] then cfgRephaseLead s.store.image
  else
    cfgRephaseLead s.store.image
      + divCeil ((moved.map (bypassTimeout s)).foldl max 0 * 1000) s.gen.period

end Sys2Proof.Machine
end

