-- ==== Sys2Proof/Machine/Lines.lean ====
section
/-! DEFINITION. The hold demand and the HOLD_REQ and TRIP lines (section 7.4). -/

namespace Sys2Proof.Machine

open Sys2Proof

/-- The hold demand (R128, Table 7-3). -/
def holdDemand (s : State) : Bool :=
  s.seq.state = .off || s.seq.state = .tripped || s.seq.state = .locked
    || (s.seq.campaign.isSome && s.lock.holdMark)

/-- A LINES notice with the levels as they stand (R129, R130). -/
def postLines (s : State) : State :=
  postUrgent (.lines s.lock.holdReq s.lock.trip s.lock.driveRun.level s.lock.brakeSet.level) s

/-- HOLD_REQ follows the hold demand within its minimum (R129): an assertion starts the hold-minimum timer, which with a
hold minimum of 0 expires at once. -/
def followDemand (s : State) : State :=
  if holdDemand s then
    if s.lock.holdReq then s
    else if cfgHoldMinimum s.store.image = 0 then
      { s with lock.holdReq := true, lock.holdTimer := none, lock.holdMet := true }
    else { s with lock.holdReq := true, lock.holdTimer := some s.now, lock.holdMet := false }
  else if s.lock.holdReq && s.lock.holdMet then { s with lock.holdReq := false }
  else s

/-- The TRIP latch is set when asked, HOLD_REQ follows its demand, and one LINES notice reports a change of either line
(R129, R130). -/
def syncLines (setTrip : Bool) (s : State) : State :=
  let t := followDemand { s with lock.trip := s.lock.trip || setTrip }
  if t.lock.holdReq = s.lock.holdReq ∧ t.lock.trip = s.lock.trip then t else postLines t

/-- TRIP and the trip cause are cleared, with a LINES notice when the line changes (R85, R99). -/
def clearTrip (s : State) : State :=
  let t : State := { s with lock.trip := false, seq.tripCause := none }
  if s.lock.trip then postLines t else t

end Sys2Proof.Machine
end

