-- ==== Sys2Proof/Machine/Sequencer.lean ====
section
/-! DEFINITION. The restart sequencer's changes of state (Chapter 5): campaign records and notices, the close of a
campaign, HALT's taking effect, trips and lockouts. -/

namespace Sys2Proof.Machine

open Sys2Proof

/-! ### Notices and states -/

/-- A CAMPAIGN notice with the sequencer state in force and a record (R75, R167). -/
def postCampaign (record : Option CampaignRecord) (s : State) : State :=
  postUrgent (.campaign s.seq.state s.seq.tripCause record) s

/-- A CAMPAIGN notice with the open campaign's record as it stands. -/
def postOpen (s : State) : State := postCampaign (s.seq.campaign.map (openRecord s)) s

/-- A MODE notice with the mode in force. -/
def postMode (cause : ModeCause) (s : State) : State := postUrgent (.mode s.store.mode cause none) s

/-- The output scale a state sets at its entry (R76, Table 5-2; RAMP begins at 0, R132). -/
def entryScale (st : SeqState) : Nat := if st = .ready then 1024 else 0

/-- The sequencer enters a state with its output scale; leaving READY ends every tunnel exchange ABORTED, in the order of log
entry 40 and ahead of the reply to the request that caused it (log entry 41) (R42, R76). -/
def setSeq (st : SeqState) (s : State) : State :=
  let t := if s.seq.state = .ready ∧ st ≠ .ready then abortExchanges s else s
  { t with seq.state := st, seq.scale := entryScale st }

/-! ### Stages and campaigns -/

/-- The open campaign's record is changed. -/
def modCampaign (f : Campaign → Campaign) (s : State) : State :=
  { s with seq.campaign := s.seq.campaign.map f }

/-- The pending plan is discarded, and the record's pending plan tag becomes absent (R92, R117). -/
def discardPending (s : State) : State :=
  modCampaign (fun k => { k with pendingTag := none }) { s with plans.pending := none }

/-- Every timer and count of the stage in progress is dropped: the gate-off watch, the isolation timers, the REPHASE
issue, the resume timer and the ramp step count (R86, R98, R131, R134). -/
def dropStage (s : State) : State :=
  let t := s.mapCells fun _ x => { x with isolation := none }
  modCampaign (fun k => { k with issue := none })
    { t with seq.watch := none, seq.rephase := none, lock.resumeTimer := none, lock.rampCount := 0 }

/-- The interlock unit's items of the open campaign end with it (R125, R127, R128, R134). -/
def dropCampaign (s : State) : State :=
  { s with
    seq.enrolRun := false
    lock.holdMark := false
    lock.rideThrough := none
    lock.budgetSpent := false
    lock.brakeConfirm := none }

/-- The campaign history holds the 8 most recent records (R78). -/
def appendHistory (r : CampaignRecord) (s : State) : State :=
  let h := s.seq.history ++ [r]
  { s with seq.history := h.drop (h.length - 8) }

/-- The open campaign closes with an outcome in the state in force: its record goes to the history (R78). -/
def closeCampaign (outcome : CampaignOutcome) (s : State) : Option CampaignRecord × State :=
  match s.seq.campaign with
  | none => (none, s)
  | some k =>
    let r := { openRecord s k with pendingTag := none, issue := none, outcome := some outcome }
    (some r, dropCampaign { appendHistory r s with seq.campaign := none })

/-! ### HALT -/

/-- What HALT's taking effect does beside the sequencer's entry into OFF: plans discarded, STANDBY with its MODE notice,
links DARK, working cells AWAITING (R21, R45, R100). The rings go dark at the next cycle start (R26). -/
def haltDevice (cause : ModeCause) (s : State) : State :=
  let t := postMode cause { s with
    seq.heldHalt := false
    plans.pending := none
    plans.inForce := none
    store.mode := .standby
    rings.healthOn := false }
  retireCells (darkenLinks t)

/-! ### Trips and lockouts -/

/-- Entry into TRIPPED or LOCKED with the record just closed: a held HALT takes effect in its place; TRIP and HOLD_REQ
are asserted (R83, R98, R100, R130). -/
def enterStopped (st : SeqState) (record : Option CampaignRecord) (s : State) : State :=
  if s.seq.heldHalt then haltDevice .haltHeld (syncLines true (postCampaign record (setSeq .off s)))
  else syncLines true (postCampaign record (setSeq st s))

/-- The sequencer trips (R98). A trip in OFF, TRIPPED or LOCKED changes nothing (R64, R68, R84). -/
def trip (cause : TripCause) (s : State) : State :=
  if s.seq.state = .off ∨ s.seq.state = .tripped ∨ s.seq.state = .locked then s
  else
    let t := discardPending (dropStage { s with seq.tripCause := some cause })
    let (record, u) := closeCampaign (.tripped cause) t
    enterStopped .tripped record u

/-- The open campaign closes COMPLETED: READY, or a held HALT's taking effect in its place (R94, R96, R100, R134). -/
def completeCampaign (s : State) : State :=
  let (record, u) := closeCampaign .completed (dropStage s)
  if s.seq.heldHalt then syncLines false (haltDevice .haltHeld (postCampaign record (setSeq .off u)))
  else syncLines false (postCampaign record (setSeq .ready u))

end Sys2Proof.Machine
end

