-- ==== Sys2Proof/Machine/Campaign.lean ====
section
/-! DEFINITION. The stages of a campaign (Chapter 5) with the restart style (section 7.3): openings and charges, BLOCK,
ISOLATE, PLAN, REPHASE, the epoch's confirmation, and what an appended queue entry does (R72). -/

namespace Sys2Proof.Machine

open Sys2Proof

/-! ### The restart style -/

/-- The style of the open campaign. -/
def State.style (s : State) : Option Style := s.seq.campaign.bind Campaign.style

def setStyle (st : Style) (s : State) : State := modCampaign (fun k => { k with style := some st }) s

/-- The campaign becomes HELD (R124, R127); its notice is posted by the step. -/
def toHeld (s : State) : State :=
  let t := setStyle .held s
  { t with
    lock.holdMark := true
    lock.rideThrough := none
    lock.brakeConfirm := if s.lock.brakeSet.level then none else some s.now
    lock.resumeTimer := if s.seq.state = .awaitResume then some s.now else s.lock.resumeTimer }

/-- A conversion to HELD in a step without a state entry: its own CAMPAIGN notice, then LINES (R124, R175). -/
def convertToHeld (s : State) : State := syncLines false (postOpen (toHeld s))

/-- Row 2 of Table 7-2, DRIVE_RUN apart. -/
def runningAllowed (s : State) : Bool :=
  match s.lock.hoist with
  | none => false
  | some h =>
    0 < cfgRideThrough s.store.image && h.fresh && h.zone = .midShaft
      && h.speed.natAbs ≤ cfgRunningSpeed s.store.image && !s.lock.brakeSet.level

/-- The style at a campaign's first BLOCK entry (R123, R125). -/
def decideStyle (kind : CampaignKind) (s : State) : State :=
  if !s.lock.driveRun.level then setStyle .stopped s
  else if kind = .fault && runningAllowed s then { setStyle .running s with lock.rideThrough := some s.now }
  else toHeld s

/-! ### BLOCK -/

/-- The watched set at a BLOCK entry (R87). -/
def watchedCells (s : State) : List CellRef :=
  allCells.filter fun c => decide ((s.cell c).service = .active) && decide ((s.cell c).link ≠ .severed)

/-- A re-entry of a RUNNING campaign whose budget is spent makes it HELD (R125). -/
def restyle (s : State) : State :=
  if s.style = some .running ∧ s.lock.budgetSpent then toHeld s else s

/-- The style part of a BLOCK entry (R86): decided at the first entry, kept at a re-entry but for R125. -/
def blockStyle (first : Bool) (s : State) : State :=
  match s.seq.campaign with
  | some k => if first then decideStyle k.kind s else restyle s
  | none => s

/-- Entry into BLOCK, the first or a re-entry (R86, R87). -/
def enterBlock (first : Bool) (s : State) : State :=
  let t := setSeq .block (dropStage s)
  if settingsMatch t then
    let u := blockStyle first t
    syncLines false (postOpen { u with seq.watch := some { cells := watchedCells u, starts := 0 } })
  else trip .settingsCorrupt (postOpen t)

/-! ### Openings -/

/-- The number after the last campaign number issued (R77). -/
def nextNumber (n : Nat) : Nat := if 65535 ≤ n then 1 else n + 1

/-- The record of a campaign that opens now, its set formed from the fault queue (R73, R77). -/
def newCampaign (kind : CampaignKind) (s : State) : Campaign where
  number := nextNumber s.seq.lastNumber
  kind := kind
  style := none
  iteration := 1
  set := s.queue.map QueueEntry.cell
  opened := s.now
  pendingTag := none
  issue := none

/-- START and RECOVER campaigns open with the hold mark set (R128). -/
def CampaignKind.opensHeld : CampaignKind → Bool
  | .start => true
  | .fault => false
  | .replan => false
  | .recover => true

/-- A campaign opens and enters BLOCK (R77, R79). -/
def openCampaign (kind : CampaignKind) (s : State) : State :=
  let k := newCampaign kind s
  let t := dropCampaign s
  enterBlock true { t with
    seq.campaign := some k
    seq.lastNumber := k.number
    lock.holdMark := kind.opensHeld }

/-- A refused charge opens and closes a record and locks the sequencer (R83). -/
def refuseCharge (s : State) : State :=
  let k := newCampaign .fault s
  let r := { openRecord s k with outcome := some .refused }
  enterStopped .locked (some r) (appendHistory r { s with seq.lastNumber := k.number })

/-- A FAULT campaign is charged and opens, or its charge is refused (R82). A list longer than a budget that a storage fault has
lowered is refused too, and keeps its entries (log entry 49). -/
def openFault (s : State) : State :=
  if s.seq.attempts.length < cfgAttemptBudget s.store.image then
    openCampaign .fault { s with seq.attempts := s.seq.attempts ++ [s.now] }
  else refuseCharge s

/-! ### PLAN -/

/-- Entry into PLAN: the pending plan is computed, or the sequencer trips TOO_FEW_CELLS (R92, R115). -/
def enterPlan (s : State) : State :=
  let t := setSeq .plan (dropStage s)
  let tag := s.seq.lastTag + 1
  let prefer := (s.seq.campaign.map fun k => k.kind.prefersActive).getD true
  match computePlan t prefer tag with
  | none => trip .tooFewCells (postOpen t)
  | some p =>
    let u := modCampaign (fun k => { k with pendingTag := some tag }) t
    postOpen { u with plans.pending := some p, seq.lastTag := tag }

/-! ### ISOLATE -/

/-- A cell's isolation begins: CLOSE, and the timer its link state chooses, from now (R88). -/
def beginIsolation (s : State) (c : CellRef) : State :=
  s.modCell c fun x => { x with
    faultedClose := true
    isolation := some (if x.link = .severed then .blind s.now else .bypass s.now) }

/-- The FAULTED cells of the open campaign's set. -/
def faultedInSet (s : State) : List CellRef :=
  match s.seq.campaign with
  | some k => k.set.filter fun c => (s.cell c).service = .faulted
  | none => []

/-- Entry into ISOLATE, which passes at once to PLAN where no cell of the set is FAULTED (R88, R91, R176). -/
def enterIsolate (s : State) : State :=
  let t := postOpen (setSeq .isolate (dropStage s))
  if faultedInSet t = [] then enterPlan t else (faultedInSet t).foldl beginIsolation t

/-- ISOLATE is left for PLAN when no cell of the set is FAULTED (R91). -/
def isolateCheck (s : State) : State :=
  if s.seq.state = .isolate ∧ faultedInSet s = [] then enterPlan s else s

/-- ISOLATE accepts a cell's bypass (R13, R71, R89, R90). -/
def acceptBypass (blind : Bool) (c : CellRef) (s : State) : State :=
  let t := s.modCell c fun x => { x with
    isolation := none
    fault := x.fault.map fun f => { f with blind := f.blind || blind } }
  isolateCheck (strikeAndBypass c { t with queue := t.queue.filter (·.cell ≠ c) })

/-- The first iteration of a START campaign must have run its enrol window before it leaves BLOCK (R87, R147). -/
def enrolWindowHolds (s : State) : Bool :=
  match s.seq.campaign with
  | some k => k.kind = .start && k.iteration = 1 && !s.seq.enrolRun
  | none => false

/-- Cells that leave ACTIVE or are severed leave the watched set; BLOCK passes to ISOLATE when the watch has ended and the
enrol window does not hold it (R87). -/
def blockCheck (s : State) : State :=
  match s.seq.watch with
  | none => s
  | some w =>
    let left := w.cells.filter fun c =>
      decide ((s.cell c).service = .active) && decide ((s.cell c).link ≠ .severed)
    let t : State := { s with seq.watch := some { w with cells := left } }
    if s.seq.state = .block ∧ left = [] ∧ 1 ≤ w.starts ∧ !enrolWindowHolds s then enterIsolate t else t

/-! ### What an appended entry does (R72) -/

/-- A cell joins the set at its tail, once (R77). -/
def joinSet (c : CellRef) (s : State) : State :=
  modCampaign (fun k => if c ∈ k.set then k else { k with set := k.set ++ [c] }) s

/-- A fault told from PLAN onward: a new iteration in BLOCK, or the trip ITERATION_LIMIT (R72, R97). -/
def reenterBlock (c : CellRef) (s : State) : State :=
  match s.seq.campaign with
  | none => s
  | some k =>
    if 4 ≤ k.iteration then trip .iterationLimit s
    else
      enterBlock false
        (joinSet c (discardPending (modCampaign (fun k => { k with iteration := k.iteration + 1 }) s)))

/-- The sequencer is told of an appended queue entry (R72, Table 4-2). -/
def told (c : CellRef) (s : State) : State :=
  match s.seq.state with
  | .ready => openFault s
  | .block => joinSet c s
  | .isolate => beginIsolation (joinSet c s) c
  | .plan => reenterBlock c s
  | .rephase => reenterBlock c s
  | .awaitResume => reenterBlock c s
  | .ramp => reenterBlock c s
  | .off => s
  | .tripped => s
  | .locked => s

/-! ### REPHASE and the epoch -/

/-- REPHASE is entered at the cycle start after PLAN (R92, R93). The check of a lead of 0, which only a storage fault brings
about, is made when the epoch's number next comes round (log entry 48). -/
def enterRephase (s : State) : State :=
  match s.plans.pending with
  | none => s
  | some p =>
    let lead := planLead s p
    let t := modCampaign (fun k => { k with issue := some 1 }) s
    postOpen (setSeq .rephase { t with
      seq.rephase := some { lead := lead, epoch := s.gen.cycle + BitVec.ofNat 16 lead } })

/-- A cell's last good report shows the pending plan's tag (R94). -/
def holdsTag (s : State) (tag : Byte) (c : CellRef) : Bool :=
  match (s.cell c).report with
  | some r => r.tag = tag
  | none => false

/-- A cell's last good report shows bypass OPEN. -/
def reportsOpen (s : State) (c : CellRef) : Bool := ((s.cell c).report.map Report.opened).getD false

/-- A cell's last good report shows bypass CLOSED. -/
def reportsClosed (s : State) (c : CellRef) : Bool := ((s.cell c).report.map Report.closed).getD false

/-- The check at an epoch (R94). -/
def planConfirmed (s : State) (p : Plan) : Bool :=
  (p.activeCells.all fun x => holdsTag s p.tag x.1 && reportsOpen s x.1)
    && p.deselected.all fun c => holdsTag s p.tag c && reportsClosed s c

/-- A plan put in force acts on one record (R11). -/
def applyToCell (p : Plan) (s : State) (c : CellRef) : State :=
  match p.offsetOf c with
  | some offset => (setService .active c s).modCell c fun x => { x with offset := some offset }
  | none => if c ∈ p.deselected then setService .reserve c s else s

/-- The pending plan becomes the plan in force and the roster applies it (R11, R116). -/
def applyPlan (p : Plan) (s : State) : State :=
  allCells.foldl (applyToCell p) { s with plans := { pending := none, inForce := some p } }

/-- A confirmation: AWAIT_RESUME for a RUNNING or HELD campaign, else the close at READY (R94, R131). -/
def confirmPlan (p : Plan) (s : State) : State :=
  let t := postUrgent (.plan p.tag p.m p.voltage p.speed) (applyPlan p s)
  let u := modCampaign (fun k => { k with pendingTag := none }) t
  if s.style = some .running ∨ s.style = some .held then
    postOpen (setSeq .awaitResume { dropStage u with lock.resumeTimer := some s.now })
  else completeCampaign u

/-! ### Changes of style by DRIVE_RUN (R126) -/

/-- DRIVE_RUN deasserted makes a RUNNING or HELD campaign STOPPED, closing it from AWAIT_RESUME and RAMP (R96, R126). -/
def toStopped (s : State) : State :=
  let t := setStyle .stopped s
  let u : State := { t with lock.rideThrough := none, lock.brakeConfirm := none }
  if s.seq.state = .awaitResume ∨ s.seq.state = .ramp then completeCampaign u else postOpen u

end Sys2Proof.Machine
end

