-- ==== Sys2Proof/Machine/Intake.lean ====
section
/-! DEFINITION. The fault intake (Chapter 4): the queued and direct routes, further faults, and the faults that the gate-off
watch and the epoch check raise. -/

namespace Sys2Proof.Machine

open Sys2Proof

/-- The cell becomes FAULTED with a fresh record; its bypass command stays as it stood (R8, R12, R17, R66). Of several cells
faulted PLAN_NO_ACK in one step, the second and later take the command as it stands once the first has sent the sequencer
back to BLOCK (log entry 38). -/
def makeFaulted (k : FaultClass) (detail : Byte) (c : CellRef) (s : State) : State :=
  let close := baseClose s c
  s.modCell c fun x => { x with
    service := .faulted
    offset := none
    dcDebounce := 0
    fault := some (freshFault k detail s.now)
    faultedClose := close }

/-- An entry joins the tail of the fault queue (R65, R66). -/
def appendEntry (k : FaultClass) (detail : Byte) (c : CellRef) (s : State) : State :=
  { s with queue := s.queue ++ [{ cell := c, first := k, detail := detail, stamp := s.now, further := 0 }] }

/-- The queued route, which BYPASS_FAIL trips on its way (R66, R68). -/
def queuedRoute (k : FaultClass) (detail : Byte) (c : CellRef) (s : State) : State :=
  let t := makeFaulted k detail c s
  let u := if k = .bypassFail then trip .bypassFail t else t
  told c (setFlag .faultSeen c (setFlag .stateChanged c (appendEntry k detail c u)))

/-- The direct route of a parked RESERVE cell (R67). -/
def directRoute (k : FaultClass) (detail : Byte) (c : CellRef) (s : State) : State :=
  let t := s.modCell c fun x => { x with fault := some (freshFault k detail s.now) }
  setFlag .faultSeen c (strikeAndBypass c t)

/-- The direct route applies to a RESERVE cell (R67); `named` says that the pending plan names it ACTIVE. -/
def goesDirect (k : FaultClass) (named : Bool) (x : Cell) : Bool :=
  k ≠ .bypassFail && !named && ((x.report.map Report.closed).getD false || k = .linkLost)

/-- A further class joins the record and the queue entry; a class already held is absorbed; a cell without a record gets
one (R69, R70). -/
def furtherFault (k : FaultClass) (detail : Byte) (c : CellRef) (s : State) : State :=
  match (s.cell c).fault with
  | none => setFlag .faultSeen c (s.modCell c fun x => { x with fault := some (freshFault k detail s.now) })
  | some f =>
    if f.isNew k then
      let t := s.modCell c fun x => { x with fault := some { f with further := f.further ||| k.mask } }
      setFlag .faultSeen c { t with
        queue := t.queue.map fun e => if e.cell = c then { e with further := e.further ||| k.mask } else e }
    else s

/-- BYPASS_FAIL of a cell that is not working also trips the sequencer (R68, R70). -/
def tripOnBypassFail (k : FaultClass) (s : State) : State :=
  if k = .bypassFail then trip .bypassFail s else s

/-- The fault intake takes a fault for a cell (R64 to R70). -/
def takeFault (k : FaultClass) (detail : Byte) (named : Bool) (c : CellRef) (s : State) : State :=
  if s.seq.state = .off then s
  else
    let d := recordedDetail s.store.image k detail
    match (s.cell c).service with
    | .vacant => s
    | .awaiting => tripOnBypassFail k s
    | .active => queuedRoute k d c s
    | .reserve => if goesDirect k named (s.cell c) then directRoute k d c s else queuedRoute k d c s
    | .faulted => tripOnBypassFail k (furtherFault k d c s)
    | .bypassed => tripOnBypassFail k (furtherFault k d c s)
    | .lockedOut => tripOnBypassFail k (furtherFault k d c s)

/-- A fault judged against the pending plan as it stands (R67). -/
def faultNow (k : FaultClass) (detail : Byte) (c : CellRef) (s : State) : State :=
  takeFault k detail (namedActive s c) c s

/-! ### The end of the gate-off watch by its count (R87) -/

/-- One cycle start in BLOCK: the count rises, and past the block confirm setting every cell still watched is raised
NO_GATE_OFF and the watch ends (R87), in ascending cell number, which is record order (where they differ: log entry 56). -/
def watchCycle (s : State) : State :=
  match s.seq.watch with
  | none => s
  | some w =>
    let n := w.starts + 1
    if w.cells ≠ [] ∧ cfgBlockConfirm s.store.image < n then
      blockCheck (w.cells.foldl (fun s c => faultNow .noGateOff 0 c s)
        { s with seq.watch := some { cells := [], starts := n } })
    else blockCheck { s with seq.watch := some { w with starts := n } }

/-! ### A failed epoch check (R95) -/

/-- The cells that a failed third issue faults, in ascending cell number (R95), which is record order (where a storage fault
makes them differ: log entry 56). -/
def notAcknowledged (s : State) (p : Plan) : List CellRef :=
  allCells.filter fun c =>
    ((p.offsetOf c).isSome && !(holdsTag s p.tag c && reportsOpen s c))
      || (decide (c ∈ p.deselected) && !holdsTag s p.tag c)

/-- The plan is issued again with the same tag and a new epoch (R95; a lead of 0: log entry 48). -/
def reissue (r : Rephase) (issue : Nat) (s : State) : State :=
  let t := modCampaign (fun k => { k with issue := some (issue + 1) }) s
  { t with seq.rephase := some { r with epoch := s.gen.cycle + BitVec.ofNat 16 r.lead } }

/-- PLAN_NO_ACK for each cell of a failed third issue, judged against the plan as the check found it (R66, R95). The first
begins BLOCK, and the later ones, faulted in the same step, leave its gate-off watch (R87). -/
def raiseNoAck (p : Plan) (cells : List CellRef) (s : State) : State :=
  blockCheck (cells.foldl (fun s c => takeFault .planNoAck 0 (p.offsetOf c).isSome c s) s)

/-- The check at an epoch has failed (R95). -/
def failEpoch (p : Plan) (r : Rephase) (s : State) : State :=
  let issue := (s.seq.campaign.bind Campaign.issue).getD 3
  if issue < 3 then reissue r issue s
  else if p.deselected.all (reportsClosed s) then raiseNoAck p (notAcknowledged s p) s
  else trip .bypassTimeout s

/-- The cycle start finds the epoch of the current issue. -/
def atEpoch (s : State) : Bool :=
  match s.seq.rephase with
  | some r => s.seq.state = .rephase && r.epoch = s.gen.cycle
  | none => false

/-- The check at the epoch (R94, R95). -/
def epochStep (s : State) : State :=
  match s.plans.pending, s.seq.rephase with
  | some p, some r =>
    if r.epoch = s.gen.cycle then (if planConfirmed s p then confirmPlan p s else failEpoch p r s) else s
  | _, _ => s

end Sys2Proof.Machine
end

