-- ==== Sys2Proof/Machine/Ring.lean ====
section
/-! DEFINITION. What a ring controller does at the end of a slot (Chapters 2 and 3): the outcome, the report, enrolment and
link health, the tunnel, the DC window, and the sequencer's reading of the report. -/

namespace Sys2Proof.Machine

open Sys2Proof

/-! ### Slot outcomes (R31) -/

/-- The outcome of a slot (Table 2-4). -/
inductive SlotOutcome where
  | valid (r : Response)
  | invalid
  | overrun
  | missed
  deriving DecidableEq, Repr

/-- Judges what a slot's receiver saw (R31): OVERRUN takes precedence over INVALID. -/
def judgeSlot (seen : SlotSeen) : SlotOutcome :=
  match seen.began with
  | none => if seen.presentAtOpen then .invalid else .missed
  | some g =>
    if g.presentAtEnd then .overrun
    else if seen.presentAtOpen || g.late then .invalid
    else
      match readResponse g.bytes with
      | some r => .valid r
      | none => .invalid

/-- The report a response leaves, stamped at the slot's end (R7, R32). -/
def reportOf (r : Response) (stamp : Stamp) : Report where
  gate := r.gate
  bypass := r.bypass
  classCode := r.classCode
  detail := r.detail
  dc := r.dc
  tag := r.tag
  stamp := stamp

/-! ### Enrolment (section 3.2) -/

/-- The checks of an ABILITY (R47, Table 3-3): the cause of the first that fails. -/
def abilityFault (image : List Byte) (c : CellRef) (a : Ability) : Option RejectCause :=
  if cfgNominalDc image * 8 < ((a.ratedDc.toNat * 100 : Int) - (cfgNominalDc image * 100 : Int)).natAbs then
    some .ratedDc
  else if cfgHalfRate image c ≠ 0 ∧ a.halfRateCapable = false then some .halfRate
  else none

/-- An ABILITY taken in DARK is checked: CONFIRM, or REJECTED with its flag (R47). -/
def takeAbility (c : CellRef) (a : Ability) (s : State) : State :=
  match abilityFault s.store.image c a with
  | none => enterLink .confirm (some a) none c s
  | some cause => setFlag .rejected c (enterLink .rejected (some a) (some cause) c s)

/-- An enrolment attempt fails after the ability was accepted: DARK, or UNSTEADY at the third (R50). -/
def failAttempt (c : CellRef) (s : State) : State :=
  let n := min 3 ((s.cell c).unsteadyCount + 1)
  let t := s.modCell c fun x => { x with unsteadyCount := n }
  if n = 3 then setFlag .unsteady c (enterLink .unsteady none none c t) else enterLink .dark none none c t

/-- The roster's part of a completed enrolment for an AWAITING cell (R10). -/
def admitAwaiting (c : CellRef) (s : State) : State :=
  let x := s.cell c
  if x.service = .awaiting then
    setService (if x.strikes < cfgStrikeLimit s.store.image then .reserve else .lockedOut) c s
  else s

/-- Enrolment completes (R51, R61). -/
def completeEnrolment (c : CellRef) (s : State) : State :=
  let held := (s.cell c).heldAbility
  let t := (enterLink .enrolled none none c s).modCell c fun x => { x with
    unsteadyCount := 0
    ability := held.or x.ability }
  (admitAwaiting c (setFlag .enrolled c t)).modCell c fun x => { x with
    fault := x.fault.map fun f => { f with reenrolled := true } }

/-- A clean response in TRIAL: the run rises, and enrolment completes at 24 (R49). -/
def trialStep (c : CellRef) (s : State) : State :=
  if 24 ≤ (s.cell c).goodRun + 1 then completeEnrolment c s
  else s.modCell c fun x => { x with goodRun := x.goodRun + 1 }

/-! ### Link health (sections 3.3 and 3.4) -/

/-- A VALID response lowers the miss count and may re-arm degraded and clear suspect (R54, R55, R56). -/
def lowerMiss (x : Cell) : Cell :=
  let n := x.missCount - 1
  { x with
    missCount := n
    degradedArmed := x.degradedArmed || n ≤ 40
    suspect := x.suspect && 100 < n }

/-- A VALID response in SEVERED: the relink run rises; at 48 the link goes DARK in AUTO mode or waits in HELD (R59). A run that
already stands at 48 stays there whatever the mode then is (log entry 42). -/
def relinkStep (c : CellRef) (s : State) : State :=
  let n := (s.cell c).goodRun
  if 48 ≤ n then s
  else if n + 1 < 48 then s.modCell c fun x => { x with goodRun := n + 1 }
  else if cfgRelinkHeld s.store.image then
    setFlag .relinkReady c (s.modCell c fun x => { x with goodRun := 48 })
  else enterLink .dark none none c s

/-- Enrolment and link health take a VALID response (R46 to R54, R59). -/
def linkValid (c : CellRef) (r : Response) (s : State) : State :=
  match (s.cell c).link with
  | .dark =>
    match r.message with
    | .ability a => takeAbility c a s
    | _ => s
  | .confirm =>
    match r.message with
    | .accepted serial =>
      if (s.cell c).heldAbility.map Ability.serial = some serial then
        enterLink .trial (s.cell c).heldAbility none c s
      else s
    | _ => s
  | .trial => if r.classCode = 0 then trialStep c s else failAttempt c s
  | .enrolled => s.modCell c lowerMiss
  | .severed => relinkStep c s
  | .rejected => s
  | .unsteady => s

/-- The link is severed (R57). -/
def sever (c : CellRef) (s : State) : State :=
  faultNow .linkLost 0 c (setFlag .severed c (enterLink .severed none none c s))

/-- A rise of the miss count sets the degraded and suspect flags it reaches (R55, R56). -/
def warnMiss (n : Nat) (c : CellRef) (s : State) : State :=
  let t :=
    if 60 ≤ n ∧ (s.cell c).degradedArmed then
      setFlag .degraded c (s.modCell c fun x => { x with degradedArmed := false })
    else s
  if 120 ≤ n ∧ (t.cell c).suspect = false then
    setFlag .suspect c (t.modCell c fun x => { x with suspect := true })
  else t

/-- A miss of an ENROLLED cell (R54 to R57). -/
def raiseMiss (c : CellRef) (s : State) : State :=
  let n := min 240 ((s.cell c).missCount + 6)
  let t := warnMiss n c (s.modCell c fun x => { x with missCount := n })
  if n = 240 then sever c t else t

/-- Enrolment and link health take a miss (R46, R48, R49, R52, R54, R59). -/
def linkMiss (c : CellRef) (s : State) : State :=
  match (s.cell c).link with
  | .dark => s
  | .confirm => s
  | .trial => failAttempt c s
  | .enrolled => raiseMiss c s
  | .severed => s.modCell c fun x => { x with goodRun := 0 }
  | .rejected => s
  | .unsteady => s

/-! ### The tunnel's replies (R41) -/

/-- A TUNNEL chunk meets the ring's mailbox (R41, R179). -/
def takeChunk (c : CellRef) (m : UpMessage) (s : State) : State :=
  match m, s.rings.mail.get (phaseOf c) with
  | .tunnel final seq length data, some x =>
    if x.cell ≠ c ∨ x.collecting = false ∨ 4 < length.toNat ∨ seq.toNat ≠ x.poll then s
    else if 16 < x.reply.length + length.toNat then endExchange (phaseOf c) .malformed s
    else
      let y := { x with reply := x.reply ++ data.take length.toNat, poll := x.poll + 1 }
      let t : State := { s with rings.mail := s.rings.mail.set (phaseOf c) (some y) }
      if final then endExchange (phaseOf c) .ok t
      else if x.poll = 3 then endExchange (phaseOf c) .malformed t
      else t
  | _, _ => s

/-! ### The DC window (R35, R36) -/

/-- The DC window check of a response, judged against the cell as it stood when the response was taken (R35, R64; a debounce
setting that a storage fault has lowered to the count or below: log entry 53). -/
def dcCheck (c : CellRef) (before : Cell) (dc : Nat) (s : State) : State :=
  if before.link = .enrolled ∧ before.service.working then
    if insideWindow s.store.image dc then s.modCell c fun x => { x with dcDebounce := 0 }
    else if cfgDcDebounce s.store.image ≤ before.dcDebounce + 1 then
      faultNow .dcWindow 0 c (s.modCell c fun x => { x with dcDebounce := 0 })
    else
      s.modCell c fun x => { x with
        dcDebounce := if x.link = .enrolled ∧ x.service.working then before.dcDebounce + 1 else 0 }
  else s

/-! ### The sequencer's reading of a response (R87, R89) -/

/-- ISOLATE accepts a linked cell whose response, taken while its bypass timer ran, shows CLOSED (R89). -/
def confirmBypass (c : CellRef) (before : Cell) (r : Response) (s : State) : State :=
  match before.isolation, (s.cell c).isolation with
  | some (.bypass _), some (.bypass _) =>
    if s.seq.state = .isolate ∧ r.bypass = 1 then acceptBypass false c s else s
  | _, _ => s

/-- A gate OFF report in a cycle after the BLOCK entry takes the cell out of the watched set (R87, R179). -/
def confirmGateOff (c : CellRef) (r : Response) (s : State) : State :=
  match s.seq.watch with
  | some w =>
    if 1 ≤ w.starts ∧ r.gate = 0 then { s with seq.watch := some { w with cells := w.cells.filter (· ≠ c) } } else s
  | none => s

/-! ### The end of a slot -/

/-- The fault class of a response goes to the fault intake (R32, R62). -/
def takeReported (c : CellRef) (r : Response) (s : State) : State :=
  if r.classCode = 0 then s
  else faultNow (faultOfCode r.classCode r.detail).1 (faultOfCode r.classCode r.detail).2 c s

/-- A VALID response is taken, all as one step (R32). -/
def takeValid (c : CellRef) (r : Response) (s : State) : State :=
  let before := s.cell c
  let t := s.modCell c fun x => { x with report := some (reportOf r s.now), reportAge := 0 }
  let t := takeChunk c r.message (if t.rings.healthOn then linkValid c r t else t)
  let t := dcCheck c before r.dc (takeReported c r t)
  blockCheck (confirmGateOff c r (confirmBypass c before r t))

/-- A slot without a VALID response (R33): the report age rises and link health takes a miss. -/
def takeMiss (c : CellRef) (s : State) : State :=
  let t := s.modCell c fun x => { x with reportAge := min 255 (x.reportAge + 1) }
  blockCheck (if t.rings.healthOn then linkMiss c t else t)

/-- An expected slot ends (R31 to R33); nothing happens for a slot that is not expected. Whether it is, is decided at its end
(log entry 54). -/
def slotStep (c : CellRef) (seen : SlotSeen) (s : State) : State :=
  if s.expected c then
    match judgeSlot seen with
    | .valid r => takeValid c r s
    | .invalid => takeMiss c s
    | .overrun => takeMiss c (setFlag .overrun c s)
    | .missed => takeMiss c s
  else s

end Sys2Proof.Machine
end

