-- ==== Sys2Proof/Machine/Cycle.lean ====
section
/-! DEFINITION. What a cycle start does (R24 to R29, R40, R41, R48, R87, R93, R133, R149) and the downstream frames the
ring controllers build at it. -/

namespace Sys2Proof.Machine

open Sys2Proof

/-! ### Downstream frames (R27 to R29) -/

/-- The gate enable of a cell (R17, R28, R76). -/
def gateEnable (s : State) (c : CellRef) : Bool :=
  (s.cell c).service = .active && (s.seq.state = .ready || s.seq.state = .ramp) && s.lock.driveRun.level
    && (s.cell c).link ≠ .severed

/-- The bypass command of a cell is CLOSE (R17, R28). -/
def bypassClose (s : State) (c : CellRef) : Bool := baseClose s c || (s.cell c).link = .severed

/-- The PLAN message to a cell; `plans` is false in a cycle whose start made an epoch check (R29, R93, R95). -/
def planMessage (s : State) (plans : Bool) (c : CellRef) : Option DownMessage :=
  match s.plans.pending, s.seq.rephase with
  | some p, some r =>
    if plans ∧ s.seq.state = .rephase then
      match p.offsetOf c with
      | some offset => some (.plan p.tag r.epoch (some offset))
      | none => if c ∈ p.deselected then some (.plan p.tag r.epoch none) else none
    else none
  | _, _ => none

/-- The chunks of an exchange (R40). -/
def chunkCount (x : Exchange) : Nat := (x.out.length + 3) / 4

/-- The TUNNEL message an exchange has to send: its next chunk, or a poll in a cycle that expects the cell's slot (R40,
R41). -/
def tunnelMessage (s : State) (c : CellRef) : Option DownMessage :=
  match s.rings.mail.get (phaseOf c) with
  | none => none
  | some x =>
    if x.cell ≠ c then none
    else if x.collecting then (if s.expected c then some (.tunnel true false x.poll []) else none)
    else if x.sent < chunkCount x then
      some (.tunnel false (x.sent + 1 = chunkCount x) x.sent ((x.out.drop (4 * x.sent)).take 4))
    else none

/-- The enrolment message of a link state (R29, R46, R48). -/
def enrolMessage (x : Cell) : Option DownMessage :=
  match x.link with
  | .dark => some .invite
  | .confirm => x.heldAbility.map fun a => .accept a.serial
  | .trial => none
  | .enrolled => none
  | .severed => none
  | .rejected => none
  | .unsteady => none

/-- The message of highest priority (R29, Table 2-2). -/
def fieldMessage (s : State) (plans : Bool) (c : CellRef) : DownMessage :=
  if (s.cell c).link = .severed then .withdrawn
  else
    ((planMessage s plans c).or ((enrolMessage (s.cell c)).or (tunnelMessage s c))).getD .none

/-- The command field of a position (R28); a VACANT position's field is OFF, CLOSE and nothing else. -/
def commandField (s : State) (plans : Bool) (c : CellRef) : CommandField :=
  if s.installed c then
    { gateOn := gateEnable s c, close := bypassClose s c, respond := s.expected c,
      slotStart := effectiveStart s.store.image c, message := fieldMessage s plans c }
  else { gateOn := false, close := true, respond := false, slotStart := 0, message := .none }

/-- A ring's frame (R27). -/
def buildFrame (s : State) (plans : Bool) (p : Phase) : DownFrame where
  cycle := s.gen.cycle
  scale := s.seq.scale
  fields := (cellsOf p).map (commandField s plans)

/-- An exchange after its cycle's frame: a chunk that went out is counted, the first setting the cycle count to 1 (R40). -/
def chunkSent (s : State) (plans : Bool) (x : Exchange) : Exchange :=
  match fieldMessage s plans x.cell with
  | .tunnel false _ _ _ => { x with sent := x.sent + 1, count := max 1 x.count }
  | _ => x

/-- The lit rings build and send their frames; a dark ring sends nothing (R26, R27). -/
def sendFrames (plans : Bool) (s : State) : State :=
  if s.rings.lit then
    { s with
      rings.frames := some ⟨buildFrame s plans .a, buildFrame s plans .b, buildFrame s plans .c⟩
      rings.mail :=
        ⟨s.rings.mail.a.map (chunkSent s plans), s.rings.mail.b.map (chunkSent s plans),
          s.rings.mail.c.map (chunkSent s plans)⟩ }
  else { s with rings.frames := none }

/-! ### Counts in cycles -/

/-- A cycle of a CONFIRM wait (R48). -/
def confirmCycle (s : State) (c : CellRef) : State :=
  if (s.cell c).link = .confirm then
    if 20 ≤ (s.cell c).goodRun then failAttempt c s
    else s.modCell c fun x => { x with goodRun := x.goodRun + 1 }
  else s

/-- A cycle of an exchange (R40, R42): TIMEOUT past 64; COLLECTING in the cycle after the final chunk. -/
def tunnelCycle (s : State) (p : Phase) : State :=
  match s.rings.mail.get p with
  | none => s
  | some x =>
    if x.count = 0 then s
    else if 64 ≤ x.count then endExchange p .timeout s
    else
      let y :=
        if x.collecting = false ∧ chunkCount x ≤ x.sent then
          { x with count := x.count + 1, collecting := true, poll := 0, reply := [] }
        else { x with count := x.count + 1 }
      { s with rings.mail := s.rings.mail.set p (some y) }

/-! ### The ring self-test's frames (R149) -/

/-- The test frame of a self-test cycle (R149). -/
def testFrame (cycle : CycleNo) : DownFrame where
  cycle := cycle
  scale := 0
  fields := (List.range 8).map fun p =>
    { gateOn := false, close := true, respond := true, slotStart := 20 + 20 * p, message := .none }

/-- A cycle start while the self-test marker is present (R149); `loopback` is what the loopback returns where it is
disturbed. -/
def testCycle (loopback : Option (List Byte)) (s : State) : State :=
  match s.store.selfTest with
  | none => s
  | some t =>
    if 64 ≤ t.cycle then s
    else
      let returned := loopback.getD (testFrame s.gen.cycle).bytes
      { s with store.selfTest := some { t with
          cycle := t.cycle + 1
          slot := 0
          failingFrames := if goodCrc16 returned then t.failingFrames else t.failingFrames + 1 } }

/-! ### The ramp (R133, R134) -/

/-- The output scale of the ramp step after the present one. -/
def nextScale (s : State) : Nat :=
  min 1024 (divFloor ((s.lock.rampCount + 1) * 1024 * s.gen.period) (cfgRampTime s.store.image * 1000))

/-- A ramp step, which at 1024 completes the campaign (R133, R134). -/
def rampStep (s : State) : State :=
  let scale := nextScale s
  let t : State := { s with lock.rampCount := s.lock.rampCount + 1, seq.scale := scale }
  if scale = 1024 then completeCampaign t else t

/-! ### The whole cycle start -/

/-- The cycle generator's part (R24). -/
def startCycle (s : State) : State :=
  { s with
    gen.cycle := s.gen.cycle + 1
    gen.period := cfgCyclePeriod s.store.image
    gen.cycleStart := s.now }

/-- The rings are lit in SERVICE and dark otherwise; link health runs while they are lit by GO (R26, R45). A HALT and a GO
taken between two cycle starts leave them lit, with no dark cycle (log entry 39). -/
def lightRings (s : State) : State :=
  { s with rings.lit := s.store.mode = .service, rings.healthOn := s.store.mode = .service }

/-- The counts that rings keep in cycles, while they are lit. Exchanges that time out at one cycle start are replied in ring
order A, B, C (log entry 40). -/
def ringCycle (s : State) : State :=
  if s.rings.lit then phases.foldl tunnelCycle (allCells.foldl confirmCycle s) else s

/-- The sequencer's part of a cycle start, by the state it meets (R87, R92, R94, R133): the start that enters REPHASE checks no
epoch (log entry 48). -/
def seqCycle (s : State) : State :=
  match s.seq.state with
  | .block => watchCycle s
  | .plan => enterRephase s
  | .rephase => epochStep s
  | .ramp => rampStep s
  | .off => s
  | .ready => s
  | .isolate => s
  | .awaitResume => s
  | .tripped => s
  | .locked => s

/-- A cycle start: its own changes are taken before the frames are built (R27). The rings' counts in cycles come before the
sequencer's part (log entry 43). -/
def cycleStep (loopback : Option (List Byte)) (s : State) : State :=
  let t := testCycle loopback (ringCycle (lightRings (startCycle s)))
  sendFrames (!atEpoch t) (seqCycle t)

end Sys2Proof.Machine
end

