-- ==== Sys2Proof/Machine/Settings.lean ====
section
/-! DEFINITION. The settings requests (sections 8.2 and 8.3): the table of fields with their ranges and handlings, the
writing of the image, the effects on other blocks, and the checks of FREEZE. -/

namespace Sys2Proof.Machine

open Sys2Proof

/-! ### Fields (R140, Table 8-3) -/

/-- What a field does with a carried value. -/
inductive Handling where
  /-- Refused outside the range. -/
  | refuse (lo hi : Nat)
  /-- Replaced by the nearer end outside the range; a held 0 is this with a low end of 1. -/
  | clamp (lo hi : Nat)
  /-- Refused outside the range, rounded down to the step within it. -/
  | round (lo hi step : Nat)
  /-- A slot start of a position (R141). -/
  | slotStart (position : Nat)
  deriving DecidableEq, Repr

/-- A field of a settings request: its place and width in the image (R144), its handling, and the phase and position that a
RANGE reply names (Table 12-4). -/
structure FieldSpec where
  offset : Nat
  width : Nat
  handling : Handling
  phaseCode : Byte := 0
  position : Nat := 0
  deriving DecidableEq, Repr

def deviceSpecs : List FieldSpec :=
  [⟨0, 2, .round 100 1000 10, 0, 0⟩, ⟨77, 2, .refuse 400 2000, 0, 0⟩, ⟨79, 2, .refuse 1000 15000, 0, 0⟩,
    ⟨81, 2, .refuse 500 20000, 0, 0⟩, ⟨120, 1, .refuse 0 1, 0, 0⟩, ⟨122, 1, .refuse 0 1, 0, 0⟩]

/-- Installed count, slot starts 1 to 8, half-rate 1 to 8 of a phase. -/
def ringSpecs (p : Phase) : List FieldSpec :=
  ⟨2 + p.index, 1, .refuse 2 8, Phase.code p, 0⟩
    :: ((List.range 8).map fun k => ⟨5 + 16 * p.index + 2 * k, 2, .slotStart (k + 1), Phase.code p, k + 1⟩)
    ++ (List.range 8).map fun k => ⟨53 + 8 * p.index + k, 1, .refuse 0 2, Phase.code p, k + 1⟩

def planSpecs : List FieldSpec :=
  [⟨83, 1, .refuse 1 8, 0, 0⟩, ⟨84, 2, .refuse 200 2000, 0, 0⟩, ⟨86, 2, .clamp 512 1024, 0, 0⟩,
    ⟨88, 2, .refuse 0 4094, 0, 0⟩, ⟨90, 2, .refuse 0 4094, 0, 0⟩, ⟨92, 1, .clamp 1 16, 0, 0⟩,
    ⟨95, 1, .refuse 1 7, 0, 0⟩, ⟨96, 1, .refuse 1 8, 0, 0⟩, ⟨97, 2, .refuse 10 3600, 0, 0⟩]

def timingSpecs : List FieldSpec :=
  [⟨93, 2, .clamp 20 5000, 0, 0⟩, ⟨99, 1, .clamp 5 200, 0, 0⟩, ⟨100, 1, .clamp 1 20, 0, 0⟩,
    ⟨101, 2, .clamp 20 500, 0, 0⟩, ⟨103, 1, .refuse 0 1, 0, 0⟩, ⟨104, 1, .clamp 2 16, 0, 0⟩,
    ⟨105, 1, .clamp 2 16, 0, 0⟩, ⟨106, 2, .clamp 0 1000, 0, 0⟩, ⟨108, 2, .clamp 0 20000, 0, 0⟩,
    ⟨110, 2, .clamp 10 500, 0, 0⟩, ⟨112, 2, .clamp 100 5000, 0, 0⟩, ⟨114, 2, .clamp 0 10000, 0, 0⟩,
    ⟨116, 2, .clamp 100 10000, 0, 0⟩, ⟨118, 2, .clamp 100 10000, 0, 0⟩]

def reportingSpecs : List FieldSpec :=
  [⟨121, 1, .refuse 0 1, 0, 0⟩, ⟨123, 1, .clamp 1 16, 0, 0⟩, ⟨124, 1, .clamp 1 255, 0, 0⟩]

/-! ### Judging (R139 to R141) -/

/-- The value a slot start is written with: 1 to 19 held as 20. -/
def heldSlotStart (v : Nat) : Nat := if v = 0 then 0 else max 20 v

/-- The value a field is written with; `none` when it is refused. `period` is the cycle period in the image (R141). -/
def judge (period : Nat) (h : Handling) (v : Nat) : Option Nat :=
  match h with
  | .refuse lo hi => if lo ≤ v ∧ v ≤ hi then some v else none
  | .clamp lo hi => some (max lo (min hi v))
  | .round lo hi step => if lo ≤ v ∧ v ≤ hi then some (v / step * step) else none
  | .slotStart position =>
    let start := if v = 0 then 20 + 24 * (position - 1) else heldSlotStart v
    if 990 < v ∨ period < start + 30 then none else some (heldSlotStart v)

/-- The first refused field, with its number (R139). -/
def firstRefused (period : Nat) : Nat → List FieldSpec → List (Option Nat) → Option (Nat × FieldSpec)
  | j, f :: fs, some v :: vs =>
    if (judge period f.handling v).isNone then some (j, f) else firstRefused period (j + 1) fs vs
  | j, _ :: fs, none :: vs => firstRefused period (j + 1) fs vs
  | _, _, _ => none

/-- A field's bytes replaced in the image. -/
def writeImage (image : List Byte) (offset width v : Nat) : List Byte :=
  image.take offset ++ bytesOfNat width v ++ image.drop (offset + width)

/-- Every carried field written in one step (R139). -/
def writeFields (period : Nat) : List FieldSpec → List (Option Nat) → List Byte → List Byte
  | f :: fs, some v :: vs, image =>
    writeFields period fs vs (writeImage image f.offset f.width ((judge period f.handling v).getD v))
  | _ :: fs, none :: vs, image => writeFields period fs vs image
  | _, _, image => image

/-- The adjusted set: bit j for a carried field j written with another value (R139). -/
def adjustedSet (period : Nat) : List FieldSpec → List (Option Nat) → Nat
  | f :: fs, some v :: vs =>
    (if judge period f.handling v = some v then 0 else 1) + 2 * adjustedSet period fs vs
  | _ :: fs, none :: vs => 2 * adjustedSet period fs vs
  | _, _ => 0

/-- The DC window derived from a nominal (R141). -/
def derivedLow (nominal : Nat) : Nat := nominal * 17 / 10
def derivedHigh (nominal : Nat) : Nat := min 4094 (nominal * 23 / 10)

/-! ### Effects on other blocks (R3, R81, R122, R142, R169) -/

/-- One position of a phase whose installed count becomes `n` (R3). -/
def reshapeCell (n : Nat) (s : State) (c : CellRef) : State :=
  if positionOf c ≤ n then
    if s.installed c then s else s.setCell c (Cell.empty .awaiting)
  else if s.installed c then
    let t := s.setCell c (Cell.empty .vacant)
    withdrawNotice c { t with queue := t.queue.filter (·.cell ≠ c) }
  else s

/-- The roster reshapes a phase (R3). -/
def reshape (p : Phase) (n : Nat) (s : State) : State := (cellsOf p).foldl (reshapeCell n) s

/-- A lowered attempt window drops the entries whose age has reached it (R81). -/
def trimWindow (before : Nat) (s : State) : State :=
  let window := cfgAttemptWindow s.store.image
  if window < before then
    { s with seq.attempts := s.seq.attempts.filter fun e => s.age e < window * 1000000 }
  else s

/-- A lowered attempt budget drops the oldest entries (R81). A budget that a request raises or repeats, from one that a storage
fault had lowered below the entries held, drops them too (log entry 52). -/
def trimBudget (s : State) : State :=
  { s with seq.attempts := s.seq.attempts.drop (s.seq.attempts.length - cfgAttemptBudget s.store.image) }

/-- A record as old as the freshness setting becomes stale (R122). -/
def refreshHoist (s : State) : State :=
  { s with lock.hoist := s.lock.hoist.map fun h =>
      { h with fresh := h.fresh && s.age h.stamp < cfgFreshness s.store.image * 1000 } }

/-- A hold-minimum timer that has already reached the setting is met (R142). -/
def recheckHoldMinimum (s : State) : State :=
  match s.lock.holdTimer with
  | some start =>
    if cfgHoldMinimum s.store.image * 1000 ≤ s.age start then
      { s with lock.holdTimer := none, lock.holdMet := true }
    else s
  | none => s

/-- The held notices meet a new batch count and batch timer (R169). Both are asked of whichever setting is carried, also where
it repeats the one in the image (log entry 57). -/
def recheckBatch (s : State) : State :=
  let due : Bool :=
    match s.notices.batchTimer with
    | some start => decide (cfgBatchTimer s.store.image * 1000 ≤ s.age start)
    | none => false
  if (1 ≤ heldCount s.notices ∧ cfgBatchCount s.store.image ≤ heldCount s.notices) ∨ due then releaseNotices s else s

/-! ### A settings request (R139) -/

/-- The RANGE reply of a settings request: refused field number, phase code, position (Table 12-4). -/
def refuseSettings (t tag : Byte) (field : Nat) (phaseCode : Byte) (position : Nat) (s : State) : State :=
  pushReply t tag .range [BitVec.ofNat 8 field, phaseCode, BitVec.ofNat 8 position] s

/-- A settings request over its fields: refused whole, or written with `extra` more bits of the adjusted set and `effects`
taken in the same step (R139). -/
def settingsRequest (t tag : Byte) (specs : List FieldSpec) (fields : List (Option Nat)) (extra : Nat)
    (effects : State → State) (s : State) : State :=
  let period := cfgCyclePeriod s.store.image
  match firstRefused period 0 specs fields with
  | some (j, f) => refuseSettings t tag j f.phaseCode f.position s
  | none =>
    pushReply t tag .ok (bytesOfNat 3 (adjustedSet period specs fields + extra))
      (effects { s with store.image := writeFields period specs fields s.store.image })

/-- A field of a settings request is carried. -/
def carried (fields : List (Option Nat)) (j : Nat) : Bool := (fields.getD j none).isSome

/-- A self-test runs. -/
def testing (s : State) : Bool := s.store.selfTest.isSome

/-- The window fields follow a nominal that was written (R141). -/
def deriveWindow (s : State) : State :=
  let nominal := cfgNominalDc s.store.image
  { s with store.image :=
      writeImage (writeImage s.store.image 88 2 (derivedLow nominal)) 90 2 (derivedHigh nominal) }

def serveSetDevice (tag : Byte) (fields : List (Option Nat)) (s : State) : State :=
  if testing s then pushReply 0x01 tag .busy [] s
  else if carried fields 1 then settingsRequest 0x01 tag deviceSpecs fields 192 deriveWindow s
  else settingsRequest 0x01 tag deviceSpecs fields 0 id s

/-- The effects of SET_RING: a new installed count reshapes the phase (R3). -/
def ringEffects (p : Phase) (fields : List (Option Nat)) (s : State) : State :=
  if carried fields 0 then reshape p (cfgInstalled s.store.image p) s else s

def serveSetRing (tag phaseCode : Byte) (fields : List (Option Nat)) (s : State) : State :=
  if testing s then pushReply 0x02 tag .busy [] s
  else
    match phaseOfCode phaseCode with
    | none => refuseSettings 0x02 tag 0 0 0 s
    | some p => settingsRequest 0x02 tag (ringSpecs p) fields 0 (ringEffects p fields) s

/-- The effects of SET_PLAN: the attempt history drops what the new budget and window no longer admit (R81). -/
def planEffects (window : Nat) (fields : List (Option Nat)) (s : State) : State :=
  let t := if carried fields 8 then trimWindow window s else s
  if carried fields 7 then trimBudget t else t

def serveSetPlan (tag : Byte) (fields : List (Option Nat)) (s : State) : State :=
  if testing s then pushReply 0x03 tag .busy [] s
  else settingsRequest 0x03 tag planSpecs fields 0 (planEffects (cfgAttemptWindow s.store.image) fields) s

/-- The effects of SET_TIMING: hoist status freshness and hold minimum (R142). -/
def timingEffects (fields : List (Option Nat)) (s : State) : State :=
  let t := if carried fields 9 then refreshHoist s else s
  if carried fields 11 then recheckHoldMinimum t else t

def serveSetTiming (tag : Byte) (fields : List (Option Nat)) (s : State) : State :=
  if testing s then pushReply 0x04 tag .busy [] s
  else settingsRequest 0x04 tag timingSpecs fields 0 (timingEffects fields) s

/-- The effects of SET_REPORTING on the held notices (R169). -/
def reportingEffects (fields : List (Option Nat)) (s : State) : State :=
  if carried fields 1 || carried fields 2 then recheckBatch s else s

def serveSetReporting (tag : Byte) (fields : List (Option Nat)) (s : State) : State :=
  if testing s then pushReply 0x05 tag .busy [] s
  else settingsRequest 0x05 tag reportingSpecs fields 0 (reportingEffects fields) s

/-! ### FREEZE (R143) -/

/-- The effective starts of two positions of a phase overlap (check 1 of Table 8-4). -/
def slotsOverlap (image : List Byte) (p q : CellRef) : Bool :=
  let a := effectiveStart image p
  let b := effectiveStart image q
  (a < b + 20 && b < a + 20)
    && !((cfgHalfRate image p = 1 && cfgHalfRate image q = 2) || (cfgHalfRate image p = 2 && cfgHalfRate image q = 1))

/-- The installed pairs p < q of every phase, in the order check 1 scans them. -/
def slotPairs (s : State) : List (CellRef × CellRef) :=
  phases.flatMap fun ph =>
    let cells := (cellsOf ph).filter s.installed
    cells.flatMap fun p => (cells.filter fun q => decide (p.val < q.val)).map fun q => (p, q)

/-- Check 4: a slot does not fit the cycle. -/
def slotTooLate (image : List Byte) (c : CellRef) : Bool := cfgCyclePeriod image < effectiveStart image c + 30

/-- The smallest installed count. -/
def smallestInstalled (image : List Byte) : Nat :=
  min (cfgInstalled image .a) (min (cfgInstalled image .b) (cfgInstalled image .c))

/-- The first failing check of FREEZE, as its RANGE body: check number, phase code, position, second position (Table 8-4,
Table 12-4). -/
def freezeFault (s : State) : Option (List Byte) :=
  let image := s.store.image
  match (slotPairs s).find? fun x => slotsOverlap image x.1 x.2 with
  | some (p, q) => some [1, Phase.code (phaseOf p), BitVec.ofNat 8 (positionOf p), BitVec.ofNat 8 (positionOf q)]
  | none =>
    if cfgDcHigh image ≤ cfgDcLow image then some [2, 0, 0, 0]
    else if smallestInstalled image < cfgMinActive image then some [3, 0, 0, 0]
    else
      match (allCells.filter s.installed).find? (slotTooLate image) with
      | some c => some [4, Phase.code (phaseOf c), BitVec.ofNat 8 (positionOf c), 0]
      | none => none

def serveFreeze (tag : Byte) (s : State) : State :=
  if testing s then pushReply 0x06 tag .busy [] s
  else
    match freezeFault s with
    | some body => pushReply 0x06 tag .range body s
    | none =>
      pushReply 0x06 tag .ok []
        (postMode .freeze { s with
          store.storedCrc := some (settingsCrc s)
          store.frozen := true
          store.mode := .standby })

/-- UNFREEZE (R145). -/
def serveUnfreeze (tag : Byte) (s : State) : State :=
  pushReply 0x08 tag .ok []
    (postMode .unfreeze { s with store.frozen := false, store.storedCrc := none, store.mode := .config })

/-- SELF_TEST (R148). -/
def serveSelfTest (tag ring : Byte) (s : State) : State :=
  match phaseOfCode ring with
  | none => pushReply 0x07 tag .range [] s
  | some p =>
    if testing s then pushReply 0x07 tag .busy [] s
    else if cfgCyclePeriod s.store.image < 190 then pushReply 0x07 tag .range [] s
    else
      pushReply 0x07 tag .accepted [] { s with
        store.selfTest := some { ring := p, cycle := 0, slot := 0, failingSlots := 0, failingFrames := 0 } }

/-- GO (R146). -/
def serveGo (tag : Byte) (s : State) : State :=
  if s.lock.trip then pushReply 0x09 tag .wrongState [] s
  else if s.store.results.a = .fail ∨ s.store.results.b = .fail ∨ s.store.results.c = .fail then
    pushReply 0x09 tag .ringFailed [] s
  else if settingsMatch s then
    pushReply 0x09 tag .ok [] (openCampaign .start (postMode .go { s with store.mode := .service }))
  else
    pushReply 0x09 tag .settingsCorrupt []
      (postMode .goRefused { s with store.frozen := false, store.storedCrc := none, store.mode := .config })

end Sys2Proof.Machine
end

