-- ==== Sys2Proof/Machine/Requests.lean ====
section
/-! DEFINITION. The requests of the sequencer, the roster, the ring controllers, the interlock unit and the notice queue
(Table 9-3), each as its owning block takes it. -/

namespace Sys2Proof.Machine

open Sys2Proof

/-! ### The sequencer's requests -/

/-- HALT (R100): at once in READY, TRIPPED and LOCKED, held otherwise. The exchanges it ends are replied before its own OK (log
entry 41). -/
def serveHalt (tag : Byte) (s : State) : State :=
  if s.seq.state = .ready ∨ s.seq.state = .tripped ∨ s.seq.state = .locked then
    pushReply 0x0A tag .ok []
      (syncLines false (haltDevice .haltAtOnce (postCampaign none (setSeq .off (dropStage s)))))
  else pushReply 0x0A tag .accepted [] { s with seq.heldHalt := true }

/-- TRIP and the trip cause are cleared for a RECOVER campaign. Where the BLOCK entry that follows will find the settings
changed, the line does not change in the step, so it is not cleared in between (R85, R86, R99, R130). -/
def releaseTrip (s : State) : State :=
  if settingsMatch s then clearTrip s else { s with seq.tripCause := none }

/-- ACK_TRIP (R99). -/
def serveAckTrip (tag : Byte) (s : State) : State :=
  if s.store.mode = .standby then pushReply 0x0C tag .ok [] (clearTrip s)
  else if s.seq.state ≠ .tripped then pushReply 0x0C tag .wrongState [] s
  else if s.atRest then pushReply 0x0C tag .ok [] (openCampaign .recover (releaseTrip s))
  else pushReply 0x0C tag .notAtRest [] s

/-- CLEAR_LOCKOUT (R85). -/
def serveClearLockout (tag : Byte) (s : State) : State :=
  if s.store.mode = .standby then pushReply 0x0D tag .ok [] (clearTrip { s with seq.attempts := [] })
  else if s.seq.state ≠ .locked then pushReply 0x0D tag .wrongState [] s
  else if s.atRest then
    pushReply 0x0D tag .ok [] (openCampaign .recover (releaseTrip { s with seq.attempts := [] }))
  else pushReply 0x0D tag .notAtRest [] s

/-- REBALANCE (R80). The exchanges it ends are replied before its own OK (log entry 41). -/
def serveRebalance (tag : Byte) (s : State) : State :=
  if s.seq.state ≠ .ready then pushReply 0x10 tag .campaignActive [] s
  else if s.atRest then pushReply 0x10 tag .ok [] (openCampaign .replan s)
  else pushReply 0x10 tag .notAtRest [] s

/-! ### The interlock unit's requests -/

/-- The speed ceiling of the plan in force; in AWAIT_RESUME there always is one (R114). -/
def ceilingInForce (s : State) : Nat := (s.plans.inForce.map Plan.speed).getD 0

/-- The first failing check of RESUME (R132, Table 7-4). -/
def resumeFault (s : State) : Option ReplyCode :=
  if s.seq.state ≠ .awaitResume then some .wrongState
  else if s.style = some .held ∧ s.lock.brakeSet.level = false then some .notHeld
  else if s.style = some .running then
    match s.lock.hoist with
    | none => some .staleStatus
    | some h =>
      if h.fresh = false then some .staleStatus
      else if ceilingInForce s < h.speed.natAbs then some .aboveCeiling
      else none
  else none

/-- RESUME (R132): RAMP is entered with step count 0 and scale 0. -/
def serveResume (tag : Byte) (s : State) : State :=
  match resumeFault s with
  | some code => pushReply 0x0B tag code [] s
  | none => pushReply 0x0B tag .ok [] (postOpen (setSeq .ramp (dropStage s)))

/-- A hoist speed clamped to ±20,000 mm/s (R121). -/
def clampSpeed (v : BitVec 16) : Int := max (-20000) (min 20000 v.toInt)

/-- HOIST_STATUS (R121). -/
def serveHoistStatus (tag : Byte) (speed : BitVec 16) (zone : Byte) (s : State) : State :=
  match zoneOfCode zone with
  | none => pushReply 0x14 tag .range [] s
  | some z =>
    pushReply 0x14 tag .ok []
      { s with lock.hoist := some { speed := clampSpeed speed, zone := z, stamp := s.now, fresh := true } }

/-! ### The roster's requests -/

/-- CLEAR_CELL (R16). -/
def serveClearCell (tag number : Byte) (s : State) : State :=
  match s.named number with
  | none => pushReply 0x0E tag .range [] s
  | some c =>
    if (s.cell c).service ≠ .lockedOut then pushReply 0x0E tag .wrongState [] s
    else if s.store.mode = .service ∧ s.seq.state ≠ .ready then pushReply 0x0E tag .campaignActive [] s
    else
      pushReply 0x0E tag .ok [] (setService .bypassed c (s.modCell c fun x => { x with strikes := 0 }))

/-- The cell's fault still needs evidence of repair (check 5 of Table 1-4). -/
def needsRepair (x : Cell) : Bool :=
  match x.fault with
  | some f => f.kind = .hard && !f.reenrolled
  | none => false

/-- REINSTATE (R15). -/
def serveReinstate (tag number : Byte) (s : State) : State :=
  match s.named number with
  | none => pushReply 0x0F tag .range [] s
  | some c =>
    let x := s.cell c
    if x.service ≠ .bypassed ∨ cfgStrikeLimit s.store.image ≤ x.strikes then pushReply 0x0F tag .wrongState [] s
    else if s.seq.state ≠ .ready then pushReply 0x0F tag .campaignActive [] s
    else if x.link ≠ .enrolled then pushReply 0x0F tag .notLinked [] s
    else if needsRepair x then pushReply 0x0F tag .notRepaired [] s
    else
      pushReply 0x0F tag .ok [] (setService .reserve c (s.modCell c fun x => { x with fault := none }))

/-! ### The ring controllers' requests -/

/-- RELINK (R60). -/
def serveRelink (tag number : Byte) (s : State) : State :=
  match s.named number with
  | none => pushReply 0x11 tag .range [] s
  | some c =>
    if (s.cell c).link ≠ .severed ∨ (s.cell c).goodRun < 48 then pushReply 0x11 tag .wrongState [] s
    else pushReply 0x11 tag .ok [] (enterLink .dark none none c s)

/-- REENROL (R53). -/
def serveReenrol (tag number : Byte) (s : State) : State :=
  match s.named number with
  | none => pushReply 0x12 tag .range [] s
  | some c =>
    if (s.cell c).link ≠ .rejected ∧ (s.cell c).link ≠ .unsteady then pushReply 0x12 tag .wrongState [] s
    else
      pushReply 0x12 tag .ok []
        (enterLink .dark none none c (s.modCell c fun x => { x with unsteadyCount := 0 }))

/-- A fresh exchange (R39, section 2.7). -/
def newExchange (c : CellRef) (tag : Byte) (bytes : List Byte) : Exchange where
  cell := c
  tag := tag
  out := bytes
  sent := 0
  collecting := false
  reply := []
  poll := 0
  count := 0

/-- TUNNEL (R39): refused, or taken with no reply now. -/
def serveTunnel (tag number : Byte) (bytes : List Byte) (s : State) : State :=
  match s.named number with
  | none => pushReply tunnelType tag .range [] s
  | some c =>
    if !cfgTunnelEnable s.store.image then pushReply tunnelType tag .disabled [] s
    else if (s.cell c).link ≠ .enrolled then pushReply tunnelType tag .notLinked [] s
    else if (s.rings.mail.get (phaseOf c)).isSome then pushReply tunnelType tag .busy [] s
    else if s.seq.state ≠ .ready then pushReply tunnelType tag .campaignActive [] s
    else { s with rings.mail := s.rings.mail.set (phaseOf c) (some (newExchange c tag bytes)) }

/-! ### Readouts (R162, R171 to R174) -/

/-- READ_STATUS (R172). -/
def serveReadStatus (tag : Byte) (s : State) : State :=
  pushReply 0x15 tag .ok (statusBytes s) { s with notices.overrun := false }

/-- READ_CELL (R20, R173). -/
def serveReadCell (tag number : Byte) (s : State) : State :=
  match s.named number with
  | none => pushReply 0x16 tag .range [] s
  | some c => pushReply 0x16 tag .ok (cellRecordBytes s c) (withdrawNotice c (clearFlags c s))

/-- READ_CAMPAIGN (R174). -/
def serveReadCampaign (tag part : Byte) (s : State) : State :=
  match campaignPart s part with
  | some body => pushReply 0x17 tag .ok body s
  | none => pushReply 0x17 tag .range [] s

/-- READ_SETTINGS (R174). -/
def serveReadSettings (tag part : Byte) (s : State) : State :=
  match settingsPart s part with
  | some body => pushReply 0x18 tag .ok body s
  | none => pushReply 0x18 tag .range [] s

/-- The cell numbers in the order a scan from a position examines them (R171). -/
def scanOrder (position : Nat) : List Nat :=
  (List.range 24).map (· + 1) |>.filter (position < ·) |> (· ++ ((List.range 24).map (· + 1)).filter (· ≤ position))

/-- The cell a number names for the scan, if it has report flags set. -/
def flagged (s : State) (number : Nat) : Option CellRef :=
  (s.named (BitVec.ofNat 8 number)).filter fun c => (s.cell c).flags ≠ 0

/-- ATTENTION_SCAN (R171). -/
def serveAttentionScan (tag : Byte) (s : State) : State :=
  match (scanOrder s.notices.scan).findSome? fun n => (flagged s n).map fun c => (n, c) with
  | some (n, c) =>
    pushReply 0x19 tag .ok (BitVec.ofNat 8 n :: bytes16 ((s.cell c).flags.setWidth 16))
      { s with notices.scan := n }
  | none => pushReply 0x19 tag .ok [0, 0, 0] s

/-! ### RESTART (R163) -/

/-- RESTART at its dispatch: ABORTED replies, its OK, and the RESTART-pending marker. -/
def serveRestart (tag : Byte) (s : State) : State :=
  let t := pushReply 0x1A tag .ok [] (abortExchanges s)
  { t with link.restartPending := true }

end Sys2Proof.Machine
end

