-- ==== Sys2Proof/Machine/Link.lean ====
section
/-! DEFINITION. The controller link (Chapter 9): the receive framer, the request buffer, dispatch, the transmit path and the
notices it takes (Chapter 10). -/

namespace Sys2Proof.Machine

open Sys2Proof

/-! ### Dispatch (R157, R161) -/

/-- The requests that only CONFIG, only STANDBY, STANDBY and SERVICE, or only SERVICE take (Table 9-3). -/
def takenIn (op : RequestOp) (m : Mode) : Bool :=
  match op with
  | .setDevice _ => m = .config
  | .setRing _ _ => m = .config
  | .setPlan _ => m = .config
  | .setTiming _ => m = .config
  | .setReporting _ => m = .config
  | .freeze => m = .config
  | .selfTest _ => m = .config
  | .unfreeze => m = .standby
  | .go => m = .standby
  | .ackTrip => m ≠ .config
  | .clearLockout => m ≠ .config
  | .clearCell _ => m ≠ .config
  | .halt => m = .service
  | .resume => m = .service
  | .reinstate _ => m = .service
  | .rebalance => m = .service
  | .relink _ => m = .service
  | .reenrol _ => m = .service
  | .tunnel _ _ => m = .service
  | .hoistStatus _ _ => true
  | .readStatus => true
  | .readCell _ => true
  | .readCampaign _ => true
  | .readSettings _ => true
  | .attentionScan => true
  | .restart => true
  | .unknown _ => true
  | .malformed _ => true

/-- The body after the code of the link's own MALFORMED reply: a TUNNEL's carries its byte count, here 0 (Table 12-4). -/
def malformedBody (t : Byte) : List Byte := if t = tunnelType then [0] else []

/-- A request handed to the block that owns it (Table 9-3); the link itself replies UNKNOWN and MALFORMED (Table 9-1). -/
def serve (r : Request) (s : State) : State :=
  match r.op with
  | .setDevice fields => serveSetDevice r.tag fields s
  | .setRing phaseCode fields => serveSetRing r.tag phaseCode fields s
  | .setPlan fields => serveSetPlan r.tag fields s
  | .setTiming fields => serveSetTiming r.tag fields s
  | .setReporting fields => serveSetReporting r.tag fields s
  | .freeze => serveFreeze r.tag s
  | .selfTest ring => serveSelfTest r.tag ring s
  | .unfreeze => serveUnfreeze r.tag s
  | .go => serveGo r.tag s
  | .halt => serveHalt r.tag s
  | .resume => serveResume r.tag s
  | .ackTrip => serveAckTrip r.tag s
  | .clearLockout => serveClearLockout r.tag s
  | .clearCell cell => serveClearCell r.tag cell s
  | .reinstate cell => serveReinstate r.tag cell s
  | .rebalance => serveRebalance r.tag s
  | .relink cell => serveRelink r.tag cell s
  | .reenrol cell => serveReenrol r.tag cell s
  | .tunnel cell bytes => serveTunnel r.tag cell bytes s
  | .hoistStatus speed zone => serveHoistStatus r.tag speed zone s
  | .readStatus => serveReadStatus r.tag s
  | .readCell cell => serveReadCell r.tag cell s
  | .readCampaign part => serveReadCampaign r.tag part s
  | .readSettings part => serveReadSettings r.tag part s
  | .attentionScan => serveAttentionScan r.tag s
  | .restart => serveRestart r.tag s
  | .unknown t => pushReply t r.tag .unknown [] s
  | .malformed t => pushReply t r.tag .malformed (malformedBody t) s

/-- The checks of Table 9-1, then the owning block. -/
def dispatch (r : Request) (s : State) : State :=
  if takenIn r.op s.store.mode then serve r s else pushReply r.op.recordType r.tag .wrongMode [] s

/-- The head of the buffer is dispatched while R157's conditions hold; `fuel` is the number of requests held. -/
def dispatchLoop : Nat → State → State
  | 0, s => s
  | fuel + 1, s =>
    match s.link.buffer with
    | [] => s
    | r :: rest =>
      if s.link.replies.length < 4 ∧ s.link.restartPending = false then
        dispatchLoop fuel (dispatch r { s with link.buffer := rest })
      else s

def dispatchAll (s : State) : State := dispatchLoop s.link.buffer.length s

/-! ### The transmit path (R159, R165, R166, R169, R170) -/

/-- A record is taken for transmission now. -/
def transmit (r : LinkRecord) (s : State) : State :=
  { s with link.transmitting := some { record := r, since := s.now } }

/-- The transmit path takes the oldest urgent notice, which carries and clears the overrun flag and flushes the held cell
notices (R166, R169). -/
def takeUrgent (n : Urgent) (rest : List Urgent) (s : State) : State :=
  let t := releaseNotices { s with notices.urgent := rest, notices.overrun := false }
  transmit (urgentRecord n s.notices.overrun s.now) t

/-- The transmit path takes a released cell notice, built now, and the cell's flags are cleared (R20, R170). -/
def takeCellNotice (c : CellRef) (s : State) : State :=
  transmit (cellNoticeRecord s c)
    (clearFlags c { s with notices.cells := s.notices.cells.filter (·.cell ≠ c) })

/-- The free transmit path takes its next frame (R159, R165). -/
def pump (s : State) : State :=
  match s.link.transmitting with
  | some _ => s
  | none =>
    match s.link.replies with
    | r :: rest => transmit r { s with link.replies := rest }
    | [] =>
      match s.notices.urgent with
      | n :: rest => takeUrgent n rest s
      | [] =>
        match s.notices.cells.find? (·.released) with
        | some n => takeCellNotice n.cell s
        | none => s

/-- What the link does at the end of every step: it dispatches what it may, gives a free path its next frame, and
dispatches what the shorter reply list then admits (R157, R159). -/
def settle (s : State) : State := dispatchAll (pump (dispatchAll s))

/-! ### The request buffer (R156) -/

/-- A record is handed to the request buffer: held, replied BUSY, or discarded (R156). -/
def arrive (r : Request) (s : State) : State :=
  if s.link.buffer.length < 4 then { s with link.buffer := s.link.buffer ++ [r] }
  else if s.link.replies.length < 8 then pushReply r.op.recordType r.tag .busy [] s
  else countFrameError s

/-! ### The receive framer (R153 to R155) -/

/-- A frame in reception ends as bad (R154). -/
def discardFrame (s : State) : State := countFrameError { s with link.framer := .hunt }

/-- A complete frame is judged by its CRC, and a valid record is handed over and dispatched where it may be (R154, R157). -/
def judgeFrame (payload : List Byte) (high low : Byte) (s : State) : State :=
  let t : State := { s with link.framer := .hunt }
  if crc16 (BitVec.ofNat 8 payload.length :: payload) = high ++ low then
    match readRequest payload with
    | some r => settle (arrive r t)
    | none => t
  else countFrameError t

/-- A gap longer than 2 µs before a character ends a frame in reception (R153). -/
def endAtGap (s : State) : State := if s.link.framer = .hunt then s else discardFrame s

/-- A character in the framer's state (R153). -/
def takeByte (b : Byte) (s : State) : State :=
  match s.link.framer with
  | .hunt => if b = 0xA5 then { s with link.framer := .length } else s
  | .length =>
    if 2 ≤ b.toNat ∧ b.toNat ≤ 60 then { s with link.framer := .payload b.toNat [] } else discardFrame s
  | .payload n got =>
    if got.length + 1 < n then { s with link.framer := .payload n (got ++ [b]) }
    else { s with link.framer := .check (got ++ [b]) none }
  | .check payload none => { s with link.framer := .check payload (some b) }
  | .check payload (some high) => judgeFrame payload high b s

/-- A received character: a gap before it, its stop bit, its value (R153). -/
def takeChar (s : State) (ch : RxChar) : State :=
  let t := if ch.gapBefore then endAtGap s else s
  if ch.stopOk then takeByte ch.value t
  else if t.link.framer = .hunt then t
  else discardFrame t

def takeChars (chars : List RxChar) (s : State) : State := chars.foldl takeChar s

end Sys2Proof.Machine
end

