-- ==== Sys2Proof/Machine/Events.lean ====
section
/-! DEFINITION. The events that no request brings: the resets, the input lines, the second tick, the timers, the ring
self-test's slots and storage faults. Each acts only where the state holds what it ends or times, and a timer's end only
where the timer has run its time (log entry 7); Clock.lean asks the same conditions. -/

namespace Sys2Proof.Machine

open Sys2Proof

/-! ### Resets (R4, R22, R43, R101, R136, R151, R163, R164) -/

/-- The soft reset of RESTART (R22, R43, R101, R136, R151, R163, R165, R171): the open campaign closes ABANDONED, working
cells become AWAITING, links go DARK, HOLD_REQ follows its demand without a notice. -/
def softReset (s : State) : State :=
  let t := dropCampaign (closeCampaign .abandoned s).2
  let u := darkenLinks (retireCells (t.mapCells fun _ x => { x with isolation := none }))
  followDemand { u with
    store.mode := .config
    store.frozen := false
    store.storedCrc := none
    store.selfTest := none
    rings := { lit := false, healthOn := false, mail := ⟨none, none, none⟩, frames := none }
    seq.state := .off
    seq.scale := 0
    seq.heldHalt := false
    seq.watch := none
    seq.rephase := none
    plans := { pending := none, inForce := none }
    lock.hoist := none
    lock.resumeTimer := none
    lock.rampCount := 0
    link :=
      { framer := .hunt, frameErrors := 0, buffer := [], replies := [], transmitting := none, restartPending := false }
    notices := { urgent := [], cells := [], batchTimer := none, overrun := false, scan := 0 } }

/-- An input line after a full reset: deasserted, with a pending change where the pin is asserted (R119). -/
def resetInput (x : Input) : Input :=
  { pin := x.pin, level := false, change := if x.pin then some 0 else none }

/-- The full reset: everything at its reset value but the levels at the pins and the commands that wait. -/
def fullReset (s : State) : State :=
  { State.reset with
    lock.driveRun := resetInput s.lock.driveRun
    lock.brakeSet := resetInput s.lock.brakeSet
    pending := s.pending }

/-- The frame in transmission is RESTART's OK reply (R163). -/
def sendingRestartOk (s : State) : Bool :=
  match s.link.transmitting with
  | some x => s.link.restartPending && x.record.recordType = 0x9A && x.record.body = [ReplyCode.ok.code]
  | none => false

/-- The transmit path has sent its frame: RESTART's OK brings the soft reset, any other frame frees the path (R159,
R163). -/
def frameSent (s : State) : State :=
  match s.link.transmitting with
  | none => s
  | some _ => if sendingRestartOk s then softReset s else { s with link.transmitting := none }

/-! ### What has run its time (log entry 7) -/

/-- A timer that runs from a stamp has run for `us` microseconds. A length that is a setting is read from the image as it
stands (log entry 51). -/
def ranFor (s : State) (start : Option Stamp) (us : Nat) : Bool :=
  match start with
  | some stamp => us ≤ s.age stamp
  | none => false

/-- The pending change of DRIVE_RUN has lasted 1000 µs (R119). -/
def driveRunDue (s : State) : Bool := ranFor s s.lock.driveRun.change 1000

/-- The pending change of BRAKE_SET has lasted 1000 µs (R119). -/
def brakeSetDue (s : State) : Bool := ranFor s s.lock.brakeSet.change 1000

/-- The enrol window holds the open START campaign and has run from its opened stamp (R87, R147; log entry
51). -/
def enrolWindowDue (s : State) : Bool :=
  s.seq.state = .block && enrolWindowHolds s
    && ranFor s (s.seq.campaign.map Campaign.opened) (cfgEnrolWindow s.store.image * 1000)

/-- A cell's bypass timer has run out (R89). Where an enrolment during the isolation replaces the ability record, the timeout
is that of the record's kind as it stands (log entry 44). -/
def bypassTimerDue (s : State) (c : CellRef) : Bool :=
  match (s.cell c).isolation with
  | some (.bypass start) => bypassTimeout s c * 1000 ≤ s.age start
  | _ => false

/-- A cell's blind wait has run (R90; log entry 51). -/
def blindWaitDue (s : State) (c : CellRef) : Bool :=
  match (s.cell c).isolation with
  | some (.blind start) => cfgBlindWait s.store.image * 1000 ≤ s.age start
  | _ => false

/-- The ride-through budget is spent (R125; log entry 51). -/
def rideThroughDue (s : State) : Bool := ranFor s s.lock.rideThrough (cfgRideThrough s.store.image * 1000)

/-- The brake confirm timer has run out (R127; what a storage fault that alters the setting meanwhile does: log entry 51). -/
def brakeConfirmDue (s : State) : Bool := ranFor s s.lock.brakeConfirm (cfgBrakeConfirm s.store.image * 1000)

/-- The resume timer has run out (R131; log entry 51). -/
def resumeTimerDue (s : State) : Bool := ranFor s s.lock.resumeTimer (cfgResumeTimeout s.store.image * 1000)

/-- The hold minimum has passed (R129; log entry 51). -/
def holdMinimumDue (s : State) : Bool := ranFor s s.lock.holdTimer (cfgHoldMinimum s.store.image * 1000)

/-- The age of an attempt entry has reached the attempt window (R81). -/
def attemptDue (s : State) (e : Stamp) : Bool := cfgAttemptWindow s.store.image * 1000000 ≤ s.age e

/-- The age of a fresh hoist status record has reached the freshness setting (R122). -/
def freshnessDue (s : State) : Bool :=
  match s.lock.hoist with
  | some h => h.fresh && cfgFreshness s.store.image * 1000 ≤ s.age h.stamp
  | none => false

/-- The batch timer has run out (R169; log entry 51). -/
def batchTimerDue (s : State) : Bool := ranFor s s.notices.batchTimer (cfgBatchTimer s.store.image * 1000)

/-! ### Input lines (R119, R126, R127) -/

/-- The pin's level changes (R119). -/
def changePin (asserted : Bool) (now : Stamp) (x : Input) : Input :=
  if x.pin = asserted then x
  else { x with pin := asserted, change := if asserted = x.level then none else some now }

/-- A pending change becomes the qualified level. -/
def qualify (x : Input) : Input := { x with level := !x.level, change := none }

/-- A qualified change of DRIVE_RUN acts on the open campaign (R126). -/
def driveRunChanged (s : State) : State :=
  if s.lock.driveRun.level then
    if s.style = some .stopped then convertToHeld s else s
  else if s.style = some .running ∨ s.style = some .held then toStopped s
  else s

/-- A pending change of DRIVE_RUN is qualified (R119, R126, R135). -/
def qualifyDriveRun (s : State) : State :=
  if driveRunDue s then driveRunChanged { s with lock.driveRun := qualify s.lock.driveRun } else s

/-- A qualified change of BRAKE_SET: an assertion confirms the brake and makes a RUNNING campaign HELD (R124, R127). -/
def brakeSetChanged (s : State) : State :=
  if s.lock.brakeSet.level then
    let t : State := { s with lock.brakeConfirm := none }
    if s.style = some .running then convertToHeld t else t
  else s

/-- A pending change of BRAKE_SET is qualified (R119, R127). -/
def qualifyBrakeSet (s : State) : State :=
  if brakeSetDue s then brakeSetChanged { s with lock.brakeSet := qualify s.lock.brakeSet } else s

/-! ### The second tick (R18, R25) -/

/-- The gate enable of a cell in the downstream frame of the cycle in progress is ON. -/
def gatedInFrame (s : State) (c : CellRef) : Bool :=
  match s.rings.frames with
  | none => false
  | some f => (((f.get (phaseOf c)).fields[positionOf c - 1]?).map CommandField.gateOn).getD false

/-- Active time of every gate-enabled cell rises by 1 s, saturating (R18). -/
def secondStep (s : State) : State :=
  s.mapCells fun c x =>
    if gatedInFrame s c then { x with activeTime := min 4294967295 (x.activeTime + 1) } else x

/-! ### Timers -/

/-- The enrol window has run (R87, R147). -/
def enrolWindowRuns (s : State) : State :=
  if enrolWindowDue s then blockCheck { s with seq.enrolRun := true } else s

/-- A linked cell's bypass timer runs out in ISOLATE (R89). -/
def bypassTimerEnds (c : CellRef) (s : State) : State :=
  if bypassTimerDue s c ∧ s.seq.state = .isolate then trip .bypassTimeout s else s

/-- A severed cell's blind wait runs out in ISOLATE (R90). -/
def blindWaitEnds (c : CellRef) (s : State) : State :=
  if blindWaitDue s c ∧ s.seq.state = .isolate then
    if cfgBlindAssume s.store.image then acceptBypass true c s else trip .blindRefused s
  else s

/-- The ride-through budget is spent (R125). -/
def rideThroughEnds (s : State) : State :=
  if rideThroughDue s then
    let t : State := { s with lock.rideThrough := none, lock.budgetSpent := true }
    if s.style = some .running ∧ s.seq.state ≠ .ramp then convertToHeld t else t
  else s

/-- The brake confirm timer runs out (R127). -/
def brakeConfirmEnds (s : State) : State := if brakeConfirmDue s then trip .brakeNoConfirm s else s

/-- The resume timer runs out in AWAIT_RESUME (R131). -/
def resumeTimerEnds (s : State) : State :=
  if resumeTimerDue s ∧ s.seq.state = .awaitResume then trip .resumeTimeout s else s

/-- The hold minimum is met (R129). -/
def holdMinimumEnds (s : State) : State :=
  if holdMinimumDue s then syncLines false { s with lock.holdTimer := none, lock.holdMet := true } else s

/-- The oldest attempt entry expires (R81). -/
def attemptExpires (s : State) : State :=
  if s.seq.attempts.head?.any (attemptDue s) then { s with seq.attempts := s.seq.attempts.drop 1 } else s

/-- The hoist status record becomes stale (R122). A record that has replaced the one whose expiry this was stays fresh. -/
def hoistStales (s : State) : State :=
  if freshnessDue s then { s with lock.hoist := s.lock.hoist.map fun h => { h with fresh := false } } else s

/-- The batch timer expires (R169). -/
def batchTimerEnds (s : State) : State := if batchTimerDue s then releaseNotices s else s

/-! ### Cycle starts that carry a named event (R27) -/

/-- The cycle start to come ends the gate-off watch with cells still watched (R87). -/
def watchTimesOut (s : State) : Bool :=
  match s.seq.watch with
  | some w => s.seq.state = .block && w.cells ≠ [] && cfgBlockConfirm s.store.image < w.starts + 1
  | none => false

/-- The cycle start to come ends a CONFIRM wait (R48). -/
def confirmTimesOut (c : CellRef) (s : State) : Bool :=
  s.store.mode = .service && (s.cell c).link = .confirm && 20 ≤ (s.cell c).goodRun

/-- The cycle start to come would raise an exchange's cycle count above 64 (R42). -/
def tunnelTimesOut (p : Phase) (s : State) : Bool :=
  match s.rings.mail.get p with
  | some x => s.store.mode = .service && 64 ≤ x.count
  | none => false

/-- The cycle start to come is the epoch of the current issue (R94). -/
def epochDue (s : State) : Bool := atEpoch { s with gen.cycle := s.gen.cycle + 1 }

/-- The cycle start to come takes the last ramp step (R134). -/
def rampDue (s : State) : Bool := s.seq.state = .ramp && nextScale (startCycle s) = 1024

/-! ### The ring self-test's slots (R149, R150) -/

/-- The class code a virtual cell presents: entry (c + p − 2) mod 12 of NONE and the eleven classes (Table 8-6). -/
def testClass (c p : Nat) : Nat := (c + p - 2) % 12

/-- The expected answer of virtual cell p in test cycle c (Table 8-6). -/
def expectedAnswer (c p : Nat) : Response where
  gate := 0
  bypass := 1
  classCode := BitVec.ofNat 8 (testClass c p)
  detail := BitVec.ofNat 8 p
  dc := if (c + p) % 2 = 0 then 1365 else 2730
  tag := BitVec.ofNat 8 c
  message := .none

/-- What an undisturbed loopback's slot shows. -/
def undisturbedSlot (c p : Nat) : SlotSeen :=
  { presentAtOpen := false,
    began := some { late := false, presentAtEnd := false, bytes := responseBytes (expectedAnswer c p) } }

/-- A test slot ends, in order of position, and is judged (R149). -/
def testSlotEnds (p : Nat) (seen : SlotSeen) (s : State) : State :=
  match s.store.selfTest with
  | none => s
  | some t =>
    if t.cycle = 0 ∨ p ≠ t.slot + 1 then s
    else
      { s with store.selfTest := some { t with
          slot := p
          failingSlots :=
            if judgeSlot seen = .valid (expectedAnswer t.cycle p) then t.failingSlots else t.failingSlots + 1 } }

/-- The test ends with the eighth slot of test cycle 64 (R150). -/
def testEnds (s : State) : State :=
  match s.store.selfTest with
  | none => s
  | some t =>
    if t.cycle = 64 ∧ t.slot = 8 then
      let result := if t.failingSlots = 0 ∧ t.failingFrames = 0 then TestResult.pass else TestResult.fail
      postUrgent (.mode s.store.mode .selfTest (some (t.ring, result, t.failingSlots, t.failingFrames)))
        { s with store.results := s.store.results.set t.ring result, store.selfTest := none }
    else s

/-! ### Storage faults (R144) -/

/-- A storage fault while the image is frozen (R144). -/
def disturb (target : StorageCell) (value : Byte) (s : State) : State :=
  if s.store.frozen then
    match target with
    | .image offset => { s with store.image := s.store.image.set offset.val value }
    | .storedCrcHigh => { s with store.storedCrc := s.store.storedCrc.map fun v => value ++ low16 v }
    | .storedCrcLow => { s with store.storedCrc := s.store.storedCrc.map fun v => high16 v ++ value }
  else s

end Sys2Proof.Machine
end

