-- ==== Sys2Proof/Machine/Clock.lean ====
section
/-! DEFINITION. The passing of time: one microsecond of the timebase with the events that fall due at it (R23 to R25). The
block does this whenever no command waits. -/

namespace Sys2Proof.Machine

open Sys2Proof

/-- One event where it is due. -/
def whenDue (due : Bool) (event : Instr) : List Instr := if due then [event] else []

/-- The qualified changes due (R119). -/
def dueInputs (s : State) : List Instr :=
  whenDue (driveRunDue s) .driveRunQualified ++ whenDue (brakeSetDue s) .brakeSetQualified

/-- The expiry of a cell's bypass timer or blind wait (R89, R90; which timeout a bypass timer has: log entry 44). -/
def dueIsolation (s : State) (c : CellRef) : List Instr :=
  whenDue (bypassTimerDue s c) (.bypassTimerExpiry c) ++ whenDue (blindWaitDue s c) (.blindWaitExpiry c)

/-- The campaign's and the interlock unit's timers (R125, R127, R129, R131, R147). -/
def dueTimers (s : State) : List Instr :=
  whenDue (enrolWindowDue s) .enrolWindowExpiry ++ allCells.flatMap (dueIsolation s)
    ++ whenDue (rideThroughDue s) .rideThroughExpiry ++ whenDue (brakeConfirmDue s) .brakeConfirmExpiry
    ++ whenDue (resumeTimerDue s) .resumeTimerExpiry ++ whenDue (holdMinimumDue s) .holdMinimumExpiry

/-- The expiries of attempt entries, the hoist status record and the batch timer (R81, R122, R169). -/
def dueRecords (s : State) : List Instr :=
  (s.seq.attempts.filter (attemptDue s)).map (fun _ => .attemptEntryExpiry)
    ++ whenDue (freshnessDue s) .freshnessExpiry ++ whenDue (batchTimerDue s) .batchTimerExpiry

/-- The next test slot of a self-test, undisturbed, and the test's end with its last (R149, R150). -/
def dueSelfTest (s : State) : List Instr :=
  match s.store.selfTest with
  | none => []
  | some t =>
    if h : t.slot < 8 then
      if 1 ≤ t.cycle ∧ 40 + 20 * t.slot ≤ s.age s.gen.cycleStart then
        .selfTestSlotEnd ⟨t.slot, h⟩ (undisturbedSlot t.cycle (t.slot + 1))
          :: whenDue (t.cycle = 64 && t.slot + 1 = 8) .selfTestEnd
      else []
    else whenDue (t.cycle = 64) .selfTestEnd

/-- The second tick and the cycle start (R24, R25). With a cycle period that a storage fault has set to 0, a cycle starts at
every microsecond (log entry 50). -/
def dueClock (s : State) : List Instr :=
  whenDue (s.now.toNat % 1000000 = 0) .secondTick
    ++ whenDue (s.gen.period ≤ s.age s.gen.cycleStart) (.cycleStart none)

/-- The last character of the frame in transmission has been sent: L + 4 characters of 1 µs (R153, R159). -/
def dueTransmit (s : State) : List Instr :=
  match s.link.transmitting with
  | some x => whenDue (x.record.body.length + 6 ≤ s.age x.since) .transmitDone
  | none => []

/-- The events due at the timebase's present value, in the order in which the model takes them (log entry 6). -/
def dueEvents (s : State) : List Instr :=
  dueInputs s ++ dueTimers s ++ dueRecords s ++ dueSelfTest s ++ dueClock s ++ dueTransmit s

/-- One microsecond passes (R23). -/
def tick (s : State) : State :=
  let t : State := { s with gen.timebase := s.gen.timebase + 1 }
  { t with pending := dueEvents t }

end Sys2Proof.Machine
end

