-- ==== Sys2Proof/Machine/ExecRequests.lean ====
section
/-! DEFINITION. The requests as commands: each is a valid record handed to the request buffer, which holds it, replies BUSY
or discards it (R156), and is dispatched as R157 states; the effect of its dispatch is its `serve` in Requests.lean or
Settings.lean. -/

namespace Sys2Proof.Machine

open Sys2Proof

/-- A step whose whole change is `s`, after which the link does what it may (R157, R159). -/
def stepTo (s : State) : Host.Outcome State Fault Refusal := .next (settle s)

/-- A request's record reaches the request buffer (R156). -/
def request (tag : Byte) (op : RequestOp) (s : State) : Host.Outcome State Fault Refusal :=
  stepTo (arrive { tag := tag, op := op } s)

/-- SET_DEVICE (R139 to R142). -/
def execSetDevice (tag : Byte) (fields : List (Option Nat)) (s : State) : Host.Outcome State Fault Refusal :=
  request tag (.setDevice fields) s

/-- SET_RING (R3, R139 to R142). -/
def execSetRing (tag phaseCode : Byte) (fields : List (Option Nat)) (s : State) : Host.Outcome State Fault Refusal :=
  request tag (.setRing phaseCode fields) s

/-- SET_PLAN (R81, R139 to R142). -/
def execSetPlan (tag : Byte) (fields : List (Option Nat)) (s : State) : Host.Outcome State Fault Refusal :=
  request tag (.setPlan fields) s

/-- SET_TIMING (R139 to R142). -/
def execSetTiming (tag : Byte) (fields : List (Option Nat)) (s : State) : Host.Outcome State Fault Refusal :=
  request tag (.setTiming fields) s

/-- SET_REPORTING (R139 to R142, R169). -/
def execSetReporting (tag : Byte) (fields : List (Option Nat)) (s : State) : Host.Outcome State Fault Refusal :=
  request tag (.setReporting fields) s

/-- FREEZE (R143). -/
def execFreeze (tag : Byte) (s : State) : Host.Outcome State Fault Refusal :=
  request tag (.freeze) s

/-- SELF_TEST (R148). -/
def execSelfTest (tag ring : Byte) (s : State) : Host.Outcome State Fault Refusal :=
  request tag (.selfTest ring) s

/-- UNFREEZE (R145). -/
def execUnfreeze (tag : Byte) (s : State) : Host.Outcome State Fault Refusal :=
  request tag (.unfreeze) s

/-- GO (R146). -/
def execGo (tag : Byte) (s : State) : Host.Outcome State Fault Refusal :=
  request tag (.go) s

/-- HALT (R100). -/
def execHalt (tag : Byte) (s : State) : Host.Outcome State Fault Refusal :=
  request tag (.halt) s

/-- RESUME (R132). -/
def execResume (tag : Byte) (s : State) : Host.Outcome State Fault Refusal :=
  request tag (.resume) s

/-- ACK_TRIP (R99). -/
def execAckTrip (tag : Byte) (s : State) : Host.Outcome State Fault Refusal :=
  request tag (.ackTrip) s

/-- CLEAR_LOCKOUT (R85). -/
def execClearLockout (tag : Byte) (s : State) : Host.Outcome State Fault Refusal :=
  request tag (.clearLockout) s

/-- CLEAR_CELL (R16). -/
def execClearCell (tag cell : Byte) (s : State) : Host.Outcome State Fault Refusal :=
  request tag (.clearCell cell) s

/-- REINSTATE (R15). -/
def execReinstate (tag cell : Byte) (s : State) : Host.Outcome State Fault Refusal :=
  request tag (.reinstate cell) s

/-- REBALANCE (R80). -/
def execRebalance (tag : Byte) (s : State) : Host.Outcome State Fault Refusal :=
  request tag (.rebalance) s

/-- RELINK (R60). -/
def execRelink (tag cell : Byte) (s : State) : Host.Outcome State Fault Refusal :=
  request tag (.relink cell) s

/-- REENROL (R53). -/
def execReenrol (tag cell : Byte) (s : State) : Host.Outcome State Fault Refusal :=
  request tag (.reenrol cell) s

/-- TUNNEL (R39); a byte count outside 1 to 16 makes a MALFORMED body (R160). -/
def execTunnel (tag cell : Byte) (bytes : List Byte) (s : State) : Host.Outcome State Fault Refusal :=
  request tag
    (if 1 ≤ bytes.length ∧ bytes.length ≤ 16 then .tunnel cell bytes else .malformed tunnelType) s

/-- HOIST_STATUS (R121). -/
def execHoistStatus (tag : Byte) (speed : BitVec 16) (zone : Byte) (s : State) : Host.Outcome State Fault Refusal :=
  request tag (.hoistStatus speed zone) s

/-- READ_STATUS (R172). -/
def execReadStatus (tag : Byte) (s : State) : Host.Outcome State Fault Refusal :=
  request tag (.readStatus) s

/-- READ_CELL (R173). -/
def execReadCell (tag cell : Byte) (s : State) : Host.Outcome State Fault Refusal :=
  request tag (.readCell cell) s

/-- READ_CAMPAIGN (R174). -/
def execReadCampaign (tag part : Byte) (s : State) : Host.Outcome State Fault Refusal :=
  request tag (.readCampaign part) s

/-- READ_SETTINGS (R174). -/
def execReadSettings (tag part : Byte) (s : State) : Host.Outcome State Fault Refusal :=
  request tag (.readSettings part) s

/-- ATTENTION_SCAN (R171). -/
def execAttentionScan (tag : Byte) (s : State) : Host.Outcome State Fault Refusal :=
  request tag (.attentionScan) s

/-- RESTART (R163). -/
def execRestart (tag : Byte) (s : State) : Host.Outcome State Fault Refusal :=
  request tag (.restart) s

/-- UNKNOWN_RECORD (R157, R178). -/
def execUnknownRecord (tag recordType : Byte) (s : State) : Host.Outcome State Fault Refusal :=
  request tag (.unknown recordType) s

end Sys2Proof.Machine
end

