-- ==== Sys2Proof/Machine/ExecLink.lean ====
section
/-! DEFINITION. The controller link's own events and the resets as commands (R152 to R164). -/

namespace Sys2Proof.Machine

open Sys2Proof

/-- FRAME_RECEIVED: the characters of a frame reach the framer (R153, R154). -/
def execFrameReceived (chars : List RxChar) (s : State) : Host.Outcome State Fault Refusal :=
  stepTo (takeChars chars s)

/-- FRAME_ABORTED: characters reach the framer and a gap follows them (R153, R154). -/
def execFrameAborted (chars : List RxChar) (s : State) : Host.Outcome State Fault Refusal :=
  stepTo (endAtGap (takeChars chars s))

/-- TRANSMIT_DONE: the frame in transmission has been sent (R159, R163). -/
def execTransmitDone (s : State) : Host.Outcome State Fault Refusal :=
  stepTo (frameSent s)

/-- SOFT_RESET: RESTART's OK reply has been sent (R152, R163). -/
def execSoftReset (s : State) : Host.Outcome State Fault Refusal :=
  stepTo (if sendingRestartOk s then softReset s else s)

/-- RESET_N (R4, R101, R119, R152, R164). -/
def execResetN (s : State) : Host.Outcome State Fault Refusal :=
  stepTo (fullReset s)

/-- POWER_ON, as RESET_N (R4, R101, R119, R152, R164). -/
def execPowerOn (s : State) : Host.Outcome State Fault Refusal :=
  stepTo (fullReset s)

end Sys2Proof.Machine
end

