-- ==== Sys2Proof/Machine/ExecRings.lean ====
section
/-! DEFINITION. The events of the cycle generator, the rings and the ring self-test as commands (Chapters 2, 3 and 8). The
five commands that name what a cycle start causes are that cycle start (R27, log entry 8). -/

namespace Sys2Proof.Machine

open Sys2Proof

/-- CYCLE_START (R24, R27). -/
def execCycleStart (loopback : Option (List Byte)) (s : State) : Host.Outcome State Fault Refusal :=
  stepTo (cycleStep loopback s)

/-- SECOND_TICK (R18, R25). -/
def execSecondTick (s : State) : Host.Outcome State Fault Refusal :=
  stepTo (secondStep s)

/-- SLOT_END (R31 to R33). -/
def execSlotEnd (c : CellRef) (seen : SlotSeen) (s : State) : Host.Outcome State Fault Refusal :=
  stepTo (slotStep c seen s)

/-- GATE_OFF_WATCH_TIMEOUT: the cycle start that ends the watch (R27, R87). -/
def execGateOffWatchTimeout (s : State) : Host.Outcome State Fault Refusal :=
  stepTo (if watchTimesOut s then cycleStep none s else s)

/-- CONFIRM_TIMEOUT: the cycle start that ends a CONFIRM wait (R27, R48). -/
def execConfirmTimeout (c : CellRef) (s : State) : Host.Outcome State Fault Refusal :=
  stepTo (if confirmTimesOut c s then cycleStep none s else s)

/-- TUNNEL_TIMEOUT: the cycle start past an exchange's 64 cycles (R27, R42). -/
def execTunnelTimeout (p : Phase) (s : State) : Host.Outcome State Fault Refusal :=
  stepTo (if tunnelTimesOut p s then cycleStep none s else s)

/-- EPOCH_CHECK: the cycle start whose number is the epoch (R27, R94, R95). -/
def execEpochCheck (s : State) : Host.Outcome State Fault Refusal :=
  stepTo (if epochDue s then cycleStep none s else s)

/-- RAMP_COMPLETE: the cycle start of the last ramp step (R27, R134). -/
def execRampComplete (s : State) : Host.Outcome State Fault Refusal :=
  stepTo (if rampDue s then cycleStep none s else s)

/-- SELF_TEST_SLOT_END (R149). -/
def execSelfTestSlotEnd (position : Fin 8) (seen : SlotSeen) (s : State) : Host.Outcome State Fault Refusal :=
  stepTo (testSlotEnds (position.val + 1) seen s)

/-- SELF_TEST_END (R150). -/
def execSelfTestEnd (s : State) : Host.Outcome State Fault Refusal :=
  stepTo (testEnds s)

end Sys2Proof.Machine
end

