-- ==== Sys2Proof/Machine/ExecTimers.lean ====
section
/-! DEFINITION. The input lines, the timers and the storage faults as commands (Chapters 5, 7, 8 and 10). -/

namespace Sys2Proof.Machine

open Sys2Proof

/-- INPUT_PIN_CHANGE (R119). -/
def execInputPinChange (line : InputLine) (asserted : Bool) (s : State) : Host.Outcome State Fault Refusal :=
  stepTo
    (match line with
    | .driveRun => { s with lock.driveRun := changePin asserted s.now s.lock.driveRun }
    | .brakeSet => { s with lock.brakeSet := changePin asserted s.now s.lock.brakeSet })

/-- DRIVE_RUN_QUALIFIED (R119, R126). -/
def execDriveRunQualified (s : State) : Host.Outcome State Fault Refusal :=
  stepTo (qualifyDriveRun s)

/-- BRAKE_SET_QUALIFIED (R119, R124, R127). -/
def execBrakeSetQualified (s : State) : Host.Outcome State Fault Refusal :=
  stepTo (qualifyBrakeSet s)

/-- ENROL_WINDOW_EXPIRY (R87, R147). -/
def execEnrolWindowExpiry (s : State) : Host.Outcome State Fault Refusal :=
  stepTo (enrolWindowRuns s)

/-- BYPASS_TIMER_EXPIRY (R89). -/
def execBypassTimerExpiry (c : CellRef) (s : State) : Host.Outcome State Fault Refusal :=
  stepTo (bypassTimerEnds c s)

/-- BLIND_WAIT_EXPIRY (R90). -/
def execBlindWaitExpiry (c : CellRef) (s : State) : Host.Outcome State Fault Refusal :=
  stepTo (blindWaitEnds c s)

/-- RIDE_THROUGH_EXPIRY (R125). -/
def execRideThroughExpiry (s : State) : Host.Outcome State Fault Refusal :=
  stepTo (rideThroughEnds s)

/-- BRAKE_CONFIRM_EXPIRY (R127). -/
def execBrakeConfirmExpiry (s : State) : Host.Outcome State Fault Refusal :=
  stepTo (brakeConfirmEnds s)

/-- RESUME_TIMER_EXPIRY (R131). -/
def execResumeTimerExpiry (s : State) : Host.Outcome State Fault Refusal :=
  stepTo (resumeTimerEnds s)

/-- HOLD_MINIMUM_EXPIRY (R129). -/
def execHoldMinimumExpiry (s : State) : Host.Outcome State Fault Refusal :=
  stepTo (holdMinimumEnds s)

/-- ATTEMPT_ENTRY_EXPIRY (R81). -/
def execAttemptEntryExpiry (s : State) : Host.Outcome State Fault Refusal :=
  stepTo (attemptExpires s)

/-- FRESHNESS_EXPIRY (R122). -/
def execFreshnessExpiry (s : State) : Host.Outcome State Fault Refusal :=
  stepTo (hoistStales s)

/-- BATCH_TIMER_EXPIRY (R169). -/
def execBatchTimerExpiry (s : State) : Host.Outcome State Fault Refusal :=
  stepTo (batchTimerEnds s)

/-- STORAGE_FAULT (R144). -/
def execStorageFault (target : StorageCell) (value : Byte) (s : State) : Host.Outcome State Fault Refusal :=
  stepTo (disturb target value s)

end Sys2Proof.Machine
end

