-- ==== Sys2Proof/Machine/Dispatch.lean ====
section
/-! DEFINITION. Every command to its meaning, one arm per constructor of `Instr`. -/

namespace Sys2Proof.Machine

open Sys2Proof

def exec (i : Instr) (s : State) : Host.Outcome State Fault Refusal :=
  match i with
  | .setDevice tag fields => Sys2Proof.Machine.execSetDevice tag fields s
  | .setRing tag phaseCode fields => Sys2Proof.Machine.execSetRing tag phaseCode fields s
  | .setPlan tag fields => Sys2Proof.Machine.execSetPlan tag fields s
  | .setTiming tag fields => Sys2Proof.Machine.execSetTiming tag fields s
  | .setReporting tag fields => Sys2Proof.Machine.execSetReporting tag fields s
  | .freeze tag => Sys2Proof.Machine.execFreeze tag s
  | .selfTest tag ring => Sys2Proof.Machine.execSelfTest tag ring s
  | .unfreeze tag => Sys2Proof.Machine.execUnfreeze tag s
  | .go tag => Sys2Proof.Machine.execGo tag s
  | .halt tag => Sys2Proof.Machine.execHalt tag s
  | .resume tag => Sys2Proof.Machine.execResume tag s
  | .ackTrip tag => Sys2Proof.Machine.execAckTrip tag s
  | .clearLockout tag => Sys2Proof.Machine.execClearLockout tag s
  | .clearCell tag cell => Sys2Proof.Machine.execClearCell tag cell s
  | .reinstate tag cell => Sys2Proof.Machine.execReinstate tag cell s
  | .rebalance tag => Sys2Proof.Machine.execRebalance tag s
  | .relink tag cell => Sys2Proof.Machine.execRelink tag cell s
  | .reenrol tag cell => Sys2Proof.Machine.execReenrol tag cell s
  | .tunnel tag cell bytes => Sys2Proof.Machine.execTunnel tag cell bytes s
  | .hoistStatus tag speed zone => Sys2Proof.Machine.execHoistStatus tag speed zone s
  | .readStatus tag => Sys2Proof.Machine.execReadStatus tag s
  | .readCell tag cell => Sys2Proof.Machine.execReadCell tag cell s
  | .readCampaign tag part => Sys2Proof.Machine.execReadCampaign tag part s
  | .readSettings tag part => Sys2Proof.Machine.execReadSettings tag part s
  | .attentionScan tag => Sys2Proof.Machine.execAttentionScan tag s
  | .restart tag => Sys2Proof.Machine.execRestart tag s
  | .unknownRecord tag recordType => Sys2Proof.Machine.execUnknownRecord tag recordType s
  | .frameReceived chars => Sys2Proof.Machine.execFrameReceived chars s
  | .frameAborted chars => Sys2Proof.Machine.execFrameAborted chars s
  | .transmitDone => Sys2Proof.Machine.execTransmitDone s
  | .softReset => Sys2Proof.Machine.execSoftReset s
  | .resetN => Sys2Proof.Machine.execResetN s
  | .powerOn => Sys2Proof.Machine.execPowerOn s
  | .inputPinChange line asserted => Sys2Proof.Machine.execInputPinChange line asserted s
  | .driveRunQualified => Sys2Proof.Machine.execDriveRunQualified s
  | .brakeSetQualified => Sys2Proof.Machine.execBrakeSetQualified s
  | .cycleStart loopback => Sys2Proof.Machine.execCycleStart loopback s
  | .secondTick => Sys2Proof.Machine.execSecondTick s
  | .slotEnd c seen => Sys2Proof.Machine.execSlotEnd c seen s
  | .gateOffWatchTimeout => Sys2Proof.Machine.execGateOffWatchTimeout s
  | .confirmTimeout c => Sys2Proof.Machine.execConfirmTimeout c s
  | .tunnelTimeout p => Sys2Proof.Machine.execTunnelTimeout p s
  | .epochCheck => Sys2Proof.Machine.execEpochCheck s
  | .rampComplete => Sys2Proof.Machine.execRampComplete s
  | .enrolWindowExpiry => Sys2Proof.Machine.execEnrolWindowExpiry s
  | .bypassTimerExpiry c => Sys2Proof.Machine.execBypassTimerExpiry c s
  | .blindWaitExpiry c => Sys2Proof.Machine.execBlindWaitExpiry c s
  | .rideThroughExpiry => Sys2Proof.Machine.execRideThroughExpiry s
  | .brakeConfirmExpiry => Sys2Proof.Machine.execBrakeConfirmExpiry s
  | .resumeTimerExpiry => Sys2Proof.Machine.execResumeTimerExpiry s
  | .holdMinimumExpiry => Sys2Proof.Machine.execHoldMinimumExpiry s
  | .attemptEntryExpiry => Sys2Proof.Machine.execAttemptEntryExpiry s
  | .freshnessExpiry => Sys2Proof.Machine.execFreshnessExpiry s
  | .batchTimerExpiry => Sys2Proof.Machine.execBatchTimerExpiry s
  | .selfTestSlotEnd position seen => Sys2Proof.Machine.execSelfTestSlotEnd position seen s
  | .selfTestEnd => Sys2Proof.Machine.execSelfTestEnd s
  | .storageFault target value => Sys2Proof.Machine.execStorageFault target value s

end Sys2Proof.Machine
end

