-- ==== Sys2Proof/WellFormed.lean ====
section
/-! DEFINITION. Which commands the outside can send: the values of a request fit the record that carries them (R160,
R178, Table 8-3's widths), and what a slot or the loopback returns has the size the manual gives it. -/

namespace Sys2Proof

/-- A settings request carries one entry for each field of its presence set, each value within its field's width. -/
def fieldsFit (widths : List Nat) (fields : List (Option Nat)) : Bool :=
  fields.length == widths.length
    && (widths.zip fields).all fun (w, f) =>
      match f with
      | some v => v < 256 ^ w
      | none => true

/-- A record type that names no request (R178). -/
def namesNoRequest (t : Byte) : Bool := t = 0x00 || 0x1B ≤ t.toNat

/-- A request that one record can carry. -/
def RequestOp.wellFormed : RequestOp → Bool
  | .setDevice fs => fieldsFit deviceWidths fs
  | .setRing _ fs => fieldsFit ringWidths fs
  | .setPlan fs => fieldsFit planWidths fs
  | .setTiming fs => fieldsFit timingWidths fs
  | .setReporting fs => fieldsFit reportingWidths fs
  | .tunnel _ bytes => 1 ≤ bytes.length && bytes.length ≤ 16
  | .unknown t => namesNoRequest t
  | .malformed t => !namesNoRequest t
  | _ => true

/-- A signal of a slot: 20 µs hold at most 20 bytes at 8 Mbit/s (section 12.3, R30). -/
def SlotSeen.wellFormed (x : SlotSeen) : Bool :=
  match x.began with
  | some g => g.bytes.length ≤ 20
  | none => true

/-- A command that the outside can send. -/
def Instr.wellFormed : Instr → Bool
  | .setDevice _ fs => fieldsFit deviceWidths fs
  | .setRing _ _ fs => fieldsFit ringWidths fs
  | .setPlan _ fs => fieldsFit planWidths fs
  | .setTiming _ fs => fieldsFit timingWidths fs
  | .setReporting _ fs => fieldsFit reportingWidths fs
  | .tunnel _ _ bytes => 1 ≤ bytes.length && bytes.length ≤ 16
  | .unknownRecord _ t => namesNoRequest t
  | .cycleStart (some bytes) => bytes.length == 86
  | .slotEnd _ seen => seen.wellFormed
  | .selfTestSlotEnd _ seen => seen.wellFormed
  | _ => true

end Sys2Proof
end

