-- ==== Sys2Proof/Safety.lean ====
section
/-! DEFINITION. The conditions that statements about the CR318 rest on: when a request is dispatched at once, how a field's
value stands in its bytes, what a cell answers, and the invariants that every step keeps. -/

namespace Sys2Proof.Machine

open Sys2Proof

/-- A request that arrives now is dispatched at once (R157): the buffer is empty, fewer than four replies wait and no
RESTART is pending. -/
abbrev Ready (s : State) : Prop :=
  s.link.buffer = [] ∧ s.link.replies.length < 4 ∧ s.link.restartPending = false

/-- The controller link does nothing at the end of a step (R157, R159): no request waits, and the transmit path is sending a
frame. Under it a step's next state is its event's own effect alone. -/
abbrev Quiet (s : State) : Prop := s.link.buffer = [] ∧ s.link.transmitting.isSome = true

/-- The state after a reply and nothing else, with the link's next frame taken (R158, R159). -/
abbrev replyOnly (recordType tag : Byte) (code : ReplyCode) (body : List Byte) (s : State) : State :=
  pump { s with link.replies := s.link.replies ++ [replyRecord recordType tag code body] }

/-- The campaign history after one more record: the 8 most recent (R78). -/
abbrev historyWith (s : State) (r : CampaignRecord) : List CampaignRecord :=
  (s.seq.history ++ [r]).drop (s.seq.history.length + 1 - 8)

/-- The open campaign's record as it closes with an outcome (R78). -/
abbrev closedWith (s : State) (k : Campaign) (outcome : CampaignOutcome) : CampaignRecord :=
  { openRecord s k with pendingTag := none, issue := none, outcome := some outcome }

/-- The record of an open campaign as a CAMPAIGN notice carries it at the entry into a state (R75, R175). -/
abbrev recordAt (s : State) (k : Campaign) (st : SeqState) : CampaignRecord where
  number := k.number
  kind := k.kind
  style := k.style
  iteration := k.iteration
  set := k.set.map (numberOf s.store.image)
  opened := k.opened
  state := st
  pendingTag := k.pendingTag
  issue := k.issue
  outcome := none

/-- A step has posted these urgent notices, in order, and no other: those that find fewer than 8 in the list join its tail, and
each of the rest is lost and sets the overrun flag (R166). -/
abbrev Posts (s t : State) (notices : List Urgent) : Prop :=
  t.notices.urgent = s.notices.urgent ++ notices.take (8 - s.notices.urgent.length)
    ∧ t.notices.overrun
      = (s.notices.overrun || decide (notices ≠ [] ∧ 8 < s.notices.urgent.length + notices.length))

/-- The LINES notice of a step, where HOLD_REQ or TRIP has changed its level (R129, R130). -/
abbrev lineChange (s t : State) : List Urgent :=
  if t.lock.holdReq = s.lock.holdReq ∧ t.lock.trip = s.lock.trip then []
  else [.lines t.lock.holdReq t.lock.trip t.lock.driveRun.level t.lock.brakeSet.level]

/-- A step has produced these replies, in order, and no other: they join the tail of the reply list, whose oldest the transmit
path takes in the same step where it was free (R158, R159). -/
abbrev Replies (s t : State) (replies : List LinkRecord) : Prop :=
  (s.link.transmitting.isSome = true →
    t.link.transmitting = s.link.transmitting ∧ t.link.replies = s.link.replies ++ replies)
  ∧ ∀ (r : LinkRecord) (rest : List LinkRecord), s.link.transmitting = none → s.link.replies ++ replies = r :: rest →
    t.link.transmitting = some ⟨r, s.gen.timebase⟩ ∧ t.link.replies = rest

/-- The ABORTED replies of the exchanges in flight, in ring order (R42, log entry 40). -/
abbrev abortedReplies (s : State) : List LinkRecord :=
  (phases.filterMap fun p => s.rings.mail.get p).map fun x => replyRecord 0x13 x.tag .aborted []

/-- The number of the next campaign (R77). -/
abbrev numberAfter (n : Nat) : Nat := if 65535 ≤ n then 1 else n + 1

/-- The HOLD_REQ level when the hold demand ends (R129). -/
abbrev holdAfterDemand (s : State) : Bool := s.lock.holdReq && !s.lock.holdMet

/-- The fields a settings request names, with its fields' places and handlings (Table 8-3); `none` for a SET_RING that names
no phase, and for every other request. -/
def settingsFields : RequestOp → Option (List FieldSpec × List (Option Nat))
  | .setDevice fields => some (deviceSpecs, fields)
  | .setRing code fields => (phaseOfCode code).map fun p => (ringSpecs p, fields)
  | .setPlan fields => some (planSpecs, fields)
  | .setTiming fields => some (timingSpecs, fields)
  | .setReporting fields => some (reportingSpecs, fields)
  | _ => none

/-- The settings image after a write of the fields a request carries (R139). -/
abbrev imageAfter (s : State) (specs : List FieldSpec) (fields : List (Option Nat)) : List Byte :=
  writeFields (cfgCyclePeriod s.store.image) specs fields s.store.image

/-- The body of a settings request's OK reply: the adjusted set, with `extra` further bits (R139, R178). -/
abbrev adjustedBody (s : State) (specs : List FieldSpec) (fields : List (Option Nat)) (extra : Nat) : List Byte :=
  bytesOfNat 3 (adjustedSet (cfgCyclePeriod s.store.image) specs fields + extra)

/-- The value of the field of `width` bytes that begins at byte `offset` of a body or a frame (Chapter 12). -/
def byteField (bytes : List Byte) (offset width : Nat) : Nat := natOfBytes ((bytes.drop offset).take width)

/-- The slot of an expected cell shows a VALID response while link health takes outcomes (R30, R31, R45). -/
abbrev Answers (c : CellRef) (seen : SlotSeen) (r : Response) (s : State) : Prop :=
  s.expected c = true ∧ s.rings.healthOn = true ∧ judgeSlot seen = .valid r

/-- The command field of a cell in the frames of the cycle in progress (R27, R28). -/
def fieldSent (s : State) (c : CellRef) : Option CommandField :=
  s.rings.frames.bind fun f => (f.get (phaseOf c)).fields[positionOf c - 1]?

/-- Row 2 of Table 7-2, DRIVE_RUN apart: a FAULT campaign may be RUNNING (R123). -/
abbrev RunningAllowed (s : State) : Prop :=
  0 < cfgRideThrough s.store.image ∧ s.lock.brakeSet.level = false
    ∧ ∃ h, s.lock.hoist = some h ∧ h.fresh = true ∧ h.zone = .midShaft
      ∧ h.speed.natAbs ≤ cfgRunningSpeed s.store.image

/-- A cell that a plan names is unconfirmed at the epoch: one of an active list does not report the plan's tag and bypass
OPEN, a deselected one does not report the tag (R95). -/
abbrev Unacknowledged (s : State) (p : Plan) (c : CellRef) : Prop :=
  ((p.offsetOf c).isSome = true ∧ ¬∃ r, (s.cell c).report = some r ∧ r.tag = p.tag ∧ r.bypass = 0)
    ∨ (c ∈ p.deselected ∧ ¬∃ r, (s.cell c).report = some r ∧ r.tag = p.tag)

/-- The characters of a frame in reception, LENGTH, PAYLOAD and CHECK included: the start byte alone, or the start byte, a
length in 2 to 60 and fewer than the payload's bytes and two CRC bytes (R153). -/
abbrev InsideFrame (part : List Byte) : Prop :=
  part = [0xA5]
    ∨ ∃ (n : Nat) (got : List Byte), 2 ≤ n ∧ n ≤ 60 ∧ got.length < n + 2 ∧ part = 0xA5 :: BitVec.ofNat 8 n :: got

/-- A settings body after its phase code, if any, is not one that its 3-byte presence set implies: a bit at or above the field
count is 1, or the length is not the presence set's and that of the fields it names, at the widths of Table 8-3 (R160,
R178). -/
abbrev SettingsBodyNotAdmitted (widths : List Nat) (body : List Byte) : Prop :=
  body.length < 3 ∨ (∃ j, widths.length ≤ j ∧ (byteField body 0 3).testBit j = true)
    ∨ body.length
      ≠ 3 + ((List.range widths.length).map fun j => if (byteField body 0 3).testBit j then widths.getD j 0 else 0).sum

/-- The record type names a request that does not admit this body (check 2 of Table 9-1: R160, Table 12-3, R178). -/
abbrev BodyNotAdmitted (t : Byte) (body : List Byte) : Prop :=
  (t ∈ [0x06, 0x08, 0x09, 0x0A, 0x0B, 0x0C, 0x0D, 0x10, 0x15, 0x19, 0x1A] ∧ body ≠ [])
    ∨ (t ∈ [0x07, 0x0E, 0x0F, 0x11, 0x12, 0x16, 0x17, 0x18] ∧ body.length ≠ 1)
    ∨ (t = 0x14 ∧ body.length ≠ 3)
    ∨ (t = 0x13 ∧ (body.length < 2 ∨ byteField body 1 1 < 1 ∨ 16 < byteField body 1 1
        ∨ body.length ≠ 2 + byteField body 1 1))
    ∨ (t = 0x01 ∧ SettingsBodyNotAdmitted [2, 2, 2, 2, 1, 1] body)
    ∨ (t = 0x02 ∧ (body = []
        ∨ SettingsBodyNotAdmitted ([1] ++ List.replicate 8 2 ++ List.replicate 8 1) (body.drop 1)))
    ∨ (t = 0x03 ∧ SettingsBodyNotAdmitted [1, 2, 2, 2, 2, 1, 1, 1, 2] body)
    ∨ (t = 0x04 ∧ SettingsBodyNotAdmitted [2, 1, 1, 2, 1, 1, 1, 2, 2, 2, 2, 2, 2, 2] body)
    ∨ (t = 0x05 ∧ SettingsBodyNotAdmitted [1, 1, 1] body)

/-- The slots of two installed positions p < q of one phase overlap (check 1 of Table 8-4, R143). -/
abbrev SlotsClash (s : State) (p q : CellRef) : Prop :=
  s.installed p = true ∧ s.installed q = true ∧ phaseOf p = phaseOf q ∧ positionOf p < positionOf q
    ∧ effectiveStart s.store.image p < effectiveStart s.store.image q + 20
    ∧ effectiveStart s.store.image q < effectiveStart s.store.image p + 20
    ∧ ¬(cfgHalfRate s.store.image p = 1 ∧ cfgHalfRate s.store.image q = 2)
    ∧ ¬(cfgHalfRate s.store.image p = 2 ∧ cfgHalfRate s.store.image q = 1)

/-- A BLOCK entry has found the settings CRC changed: the sequencer is TRIPPED by SETTINGS_CORRUPT, and the campaign's record,
as it entered BLOCK, is closed (R86, R98). -/
abbrev CorruptTrip (s t : State) (kind : CampaignKind) (iteration : Nat) (style : Option Style) (set : List CellRef)
    (number : Nat) (opened : Stamp) : Prop :=
  t.seq.state = .tripped ∧ t.seq.tripCause = some .settingsCorrupt ∧ t.seq.scale = 0 ∧ t.seq.campaign = none
    ∧ t.seq.history = historyWith s {
        number := number, kind := kind, style := style, iteration := iteration,
        set := set.map (numberOf s.store.image), opened := opened, state := .block, pendingTag := none, issue := none,
        outcome := some (.tripped .settingsCorrupt) }
    ∧ t.seq.watch = none ∧ t.plans = { pending := none, inForce := s.plans.inForce }
    ∧ t.lock.trip = true ∧ t.lock.holdReq = true ∧ t.lock.holdMark = false ∧ t.lock.rideThrough = none
    ∧ t.lock.brakeConfirm = none ∧ t.lock.resumeTimer = none ∧ t.lock.rampCount = 0
    ∧ t.store = s.store ∧ t.gen = s.gen

/-- The sequencer has left ISOLATE, with nothing else open: PLAN with the plan computed, or the trip TOO_FEW_CELLS where there
is none (R91, R92, R115). -/
abbrev PlansOrTrips (s t : State) (k : Campaign) : Prop :=
  (computePlan t (decide (k.kind ≠ .replan)) (s.seq.lastTag + 1) = none →
      t.seq.state = .tripped ∧ t.seq.tripCause = some .tooFewCells ∧ t.plans.pending = none)
    ∧ ∀ p, computePlan t (decide (k.kind ≠ .replan)) (s.seq.lastTag + 1) = some p →
      t.seq.state = .plan ∧ t.plans.pending = some p ∧ t.seq.lastTag = s.seq.lastTag + 1

/-- The number of tunnel exchanges in flight. -/
def openMailboxes (s : State) : Nat :=
  (if s.rings.mail.a.isSome then 1 else 0) + (if s.rings.mail.b.isSome then 1 else 0)
    + (if s.rings.mail.c.isSome then 1 else 0)

/-- The bounds of the device's lists (R78, R156, R159, R166): four requests, eleven replies with those still owed to
exchanges in flight, eight urgent notices and eight closed records. -/
abbrev ListsBounded (s : State) : Prop :=
  s.link.buffer.length ≤ 4 ∧ s.link.replies.length + openMailboxes s ≤ 11 ∧ s.notices.urgent.length ≤ 8
    ∧ s.seq.history.length ≤ 8

/-- What the device mode fixes (R75, R137, R144): the restart sequencer is OFF in CONFIG and STANDBY, the frozen flag is set
in STANDBY and SERVICE and clear in CONFIG, and the stored CRC is present while it is set. -/
abbrev ModeAgrees (s : State) : Prop :=
  (s.store.mode ≠ .service → s.seq.state = .off) ∧ (s.store.frozen = true ↔ s.store.mode ≠ .config)
    ∧ (s.store.storedCrc.isSome = true ↔ s.store.frozen = true)

/-- A cell holds a carrier offset only while it is ACTIVE (R11, Table 1-2). -/
abbrev OffsetOnlyWhileActive (s : State) : Prop :=
  ∀ c : CellRef, (s.cell c).offset.isSome = true → (s.cell c).service = .active

/-- A cell's miss count lies between 0 and 240, and equals 240 exactly while its link is SEVERED (R54, R58). -/
abbrev MissCountMarksSevered (s : State) : Prop :=
  ∀ c : CellRef, (s.cell c).missCount ≤ 240 ∧ ((s.cell c).missCount = 240 ↔ (s.cell c).link = .severed)

end Sys2Proof.Machine
end

