-- ==== Sys2Proof/Certificates/Slice0/Obligations.lean ====
section
/-! DEFINITION. The statements about the CR318 for the provers. Each says what the manual's rules say of a command, of the
machine or of its arithmetic; where a clause rests on a choice of the model, its docstring names the log entry. -/

open Sys2Proof Sys2Proof.Machine

/-! ### One step, and the controller link -/

/-- A step takes the command at the front of the queue and runs it with the queue's rest; with no command waiting, one
microsecond passes and the events that fall due at it are queued (log entry 6; R23, R24, R25). -/
def Obligations.StepRunsTheFrontCommandOrPassesTime : Prop :=
  (∀ (c : Instr) (rest : List Instr) (s : State), s.pending = c :: rest → step s = exec c { s with pending := rest })
    ∧ ∀ s : State, s.pending = [] →
        step s = .next { s with
          gen.timebase := s.gen.timebase + 1
          pending := dueEvents { s with gen.timebase := s.gen.timebase + 1 } }

/-- Every command answers a next state, in every state, and leaves the waiting commands as they are: section 4 of
00_scope.md names no event that stops the device. The queue is the model's own (log entry 33), and it is kept at RESET_N and
POWER_ON too (log entry 35). -/
def Obligations.EveryCommandAnswersAndKeepsTheQueue : Prop :=
  ∀ (c : Instr) (s : State), ∃ t : State, exec c s = .next t ∧ t.pending = s.pending

/-- A request's frame, received clean while the framer is in HUNT, does exactly what the request's own command does (R153,
R154, R156): start byte, length, payload, CRC-16. FRAME_RECEIVED with it completes: its next state is that of the request
handed to the request buffer, with the link's part at the end of the step. It rests on the model's reading in log entries 4,
5 and 30. -/
def Obligations.ReceivedFrameActsAsItsRequest : Prop :=
  ∀ (c : Instr) (r : Request) (s : State), requestOf c = some r → c.wellFormed = true → s.link.framer = .hunt →
    exec (.frameReceived (cleanChars (linkFrame (writeRequest r)))) s = .next (settle (arrive r s))
    ∧ exec (.frameReceived (cleanChars (linkFrame (writeRequest r)))) s = exec c s

/-- The payload that a well-formed request is written as reads back as that request: every record type, every presence set
and every value that its field's width holds (R160, R178). -/
def Obligations.RequestRecordsReadBack : Prop :=
  ∀ r : Request, r.op.wellFormed = true → (∀ t : Byte, r.op ≠ .malformed t) → readRequest (writeRequest r) = some r

/-- The discards of R154, which reach no block: a frame whose CRC differs; a length byte outside 2 to 60; a character with a
bad stop bit, and a gap of more than 2 µs, in LENGTH, PAYLOAD and CHECK. Each raises the frame error count by 1, held at
65,535, and the framer is in HUNT again, where the character after a gap is judged (R153, R154, R155). In HUNT a character
other than 0xA5, a bad stop bit and a gap are ignored and not counted (R153). The CRC-16 has the polynomial 0x1021 and the
initial value 0xFFFF, each byte fed most significant bit first (R154). It rests on the model's reading in log entries 5 and
30. -/
def Obligations.BadFramesAreCounted : Prop :=
  (crc16 [] = 0xFFFF ∧ ∀ (l : List Byte) (b : Byte), crc16 (l ++ [b])
      = (List.range 8).foldl (fun (v : BitVec 16) (_ : Nat) => if v.msb = true then (v <<< 1) ^^^ 0x1021 else v <<< 1)
          (crc16 l ^^^ (b ++ (0 : Byte))))
  ∧ (∀ (payload : List Byte) (high low : Byte) (s : State), s.link.framer = .hunt →
    2 ≤ payload.length → payload.length ≤ 60 →
    high ++ low ≠ crc16 (BitVec.ofNat 8 payload.length :: payload) →
    exec (.frameReceived (cleanChars (0xA5 :: BitVec.ofNat 8 payload.length :: (payload ++ [high, low])))) s
      = .next (settle { s with link.frameErrors := min 65535 (s.link.frameErrors + 1) }))
  ∧ (∀ (n : Byte) (s : State), s.link.framer = .hunt → (n.toNat < 2 ∨ 60 < n.toNat) →
    exec (.frameReceived (cleanChars [0xA5, n])) s
      = .next (settle { s with link.frameErrors := min 65535 (s.link.frameErrors + 1) }))
  ∧ (∀ (part : List Byte) (s : State), s.link.framer = .hunt → InsideFrame part →
    exec (.frameAborted (cleanChars part)) s
      = .next (settle { s with link.frameErrors := min 65535 (s.link.frameErrors + 1) })
    ∧ ∀ (v : Byte) (gap : Bool),
      exec (.frameReceived (cleanChars part ++ [⟨v, false, gap⟩])) s
        = .next (settle { s with link.frameErrors := min 65535 (s.link.frameErrors + 1) })
      ∧ (v ≠ 0xA5 → exec (.frameReceived (cleanChars part ++ [⟨v, true, true⟩])) s
        = .next (settle { s with link.frameErrors := min 65535 (s.link.frameErrors + 1) }))
      ∧ exec (.frameReceived (cleanChars part ++ [⟨0xA5, true, true⟩])) s
        = .next (settle { s with
            link.frameErrors := min 65535 (s.link.frameErrors + 1)
            link.framer := .length }))
  ∧ ∀ (chars : List RxChar) (s : State), s.link.framer = .hunt →
    (∀ ch ∈ chars, ch.stopOk = false ∨ ch.value ≠ 0xA5) →
    exec (.frameReceived chars) s = .next (settle s) ∧ exec (.frameAborted chars) s = .next (settle s)

/-- A request that cannot be dispatched yet is held, replied BUSY or discarded by how full the buffer and the reply list are,
and nothing else changes (R156, R157). It rests on the model's reading in log entries 4 and 5. -/
def Obligations.RequestIsHeldBusyOrDiscarded : Prop :=
  ∀ (c : Instr) (r : Request) (s : State), requestOf c = some r → s.link.transmitting.isSome = true →
    4 ≤ s.link.replies.length ∨ s.link.restartPending = true →
    exec c s = .next
      (if s.link.buffer.length < 4 then { s with link.buffer := s.link.buffer ++ [r] }
       else if s.link.replies.length < 8 then
        { s with link.replies := s.link.replies ++ [replyRecord r.op.recordType r.tag .busy []] }
       else { s with link.frameErrors := min 65535 (s.link.frameErrors + 1) })

/-- The checks of Table 9-1: a record that names no request is UNKNOWN, and a request whose body length R160 and Table 12-3
do not admit, whose presence set has a bit at or above its field count (R178), or whose TUNNEL byte count lies outside 1 to
16, is MALFORMED, a TUNNEL's with the byte count 0 of Table 12-4, each in every mode, by its own command and by a received
frame, and a request that the mode in force does not take is WRONG_MODE; none has another effect (R157, R158, R160, R178).
And the modes that take each request, row by row of Table 9-3 (R161). It rests on the model's reading in log entries 4, 5 and
30. -/
def Obligations.LinkChecksDecideTheReply : Prop :=
  (∀ (tag t : Byte) (s : State), Ready s →
    exec (.unknownRecord tag t) s = .next (replyOnly t tag .unknown [] s))
    ∧ (∀ (tag cell : Byte) (bytes : List Byte) (s : State), Ready s → (bytes.length = 0 ∨ 16 < bytes.length) →
        exec (.tunnel tag cell bytes) s = .next (replyOnly 0x13 tag .malformed [0] s))
    ∧ (∀ (t tag : Byte) (body : List Byte) (s : State), Ready s → s.link.framer = .hunt → body.length ≤ 58 →
        (BodyNotAdmitted t body →
          exec (.frameReceived (cleanChars (linkFrame (t :: tag :: body)))) s
            = .next (replyOnly t tag .malformed (if t = 0x13 then [0] else []) s))
        ∧ ((t = 0x00 ∨ 0x1B ≤ t.toNat) →
          exec (.frameReceived (cleanChars (linkFrame (t :: tag :: body)))) s
            = .next (replyOnly t tag .unknown [] s)))
    ∧ (∀ (c : Instr) (r : Request) (s : State), requestOf c = some r → Ready s →
        takenIn r.op s.store.mode = false →
        exec c s = .next (replyOnly r.op.recordType r.tag .wrongMode [] s))
    ∧ ∀ (fields : List (Option Nat)) (code : Byte) (bytes : List Byte) (speed : BitVec 16),
      (∀ op ∈ [RequestOp.setDevice fields, .setRing code fields, .setPlan fields, .setTiming fields,
          .setReporting fields, .freeze, .selfTest code],
        [Mode.config, .standby, .service].map (takenIn op) = [true, false, false])
      ∧ (∀ op ∈ [RequestOp.unfreeze, .go], [Mode.config, .standby, .service].map (takenIn op) = [false, true, false])
      ∧ (∀ op ∈ [RequestOp.ackTrip, .clearLockout, .clearCell code],
        [Mode.config, .standby, .service].map (takenIn op) = [false, true, true])
      ∧ (∀ op ∈ [RequestOp.halt, .resume, .reinstate code, .rebalance, .relink code, .reenrol code, .tunnel code bytes],
        [Mode.config, .standby, .service].map (takenIn op) = [false, false, true])
      ∧ ∀ op ∈ [RequestOp.hoistStatus speed code, .readStatus, .readCell code, .readCampaign code, .readSettings code,
          .attentionScan, .restart],
        [Mode.config, .standby, .service].map (takenIn op) = [true, true, true]

/-- What the free transmit path takes (R159, R165, R166, R169, R170): the oldest reply; else the oldest urgent notice, which
carries and clears the overrun flag and releases every held cell notice; else the oldest released cell notice, whose cell's
flags are cleared; else nothing. The record it takes has the type of Table 12-3, the overrun flag in byte 3, and the stamp and
contents of Table 12-4 (R167, R178). -/
def Obligations.FreePathTakesReplyThenNotice : Prop :=
  (∀ s : State, s.link.transmitting = none →
    (∀ r rest, s.link.replies = r :: rest →
      pump s = { s with link.replies := rest, link.transmitting := some ⟨r, s.gen.timebase⟩ })
    ∧ (∀ n rest, s.link.replies = [] → s.notices.urgent = n :: rest →
      pump s = { s with
        notices.urgent := rest
        notices.overrun := false
        notices.cells := s.notices.cells.map fun q => { q with released := true }
        notices.batchTimer := none
        link.transmitting := some ⟨urgentRecord n s.notices.overrun s.gen.timebase, s.gen.timebase⟩ })
    ∧ (∀ q, s.link.replies = [] → s.notices.urgent = [] → s.notices.cells.find? (·.released) = some q →
      pump s = { s with
        cells := s.cells.set q.cell { s.cell q.cell with flags := 0 }
        notices.cells := s.notices.cells.filter (·.cell ≠ q.cell)
        link.transmitting := some ⟨cellNoticeRecord s q.cell, s.gen.timebase⟩ })
    ∧ (s.link.replies = [] → s.notices.urgent = [] → s.notices.cells.find? (·.released) = none → pump s = s))
  ∧ (∀ (overrun : Bool) (v : Stamp),
    (∀ (m : Mode) (cause : ModeCause), urgentRecord (.mode m cause none) overrun v
      = ⟨0x40, if overrun then 1 else 0, bytes32 v ++ [m.code, cause.code, 0, 0, 0, 0, 0]⟩)
    ∧ (∀ (m : Mode) (cause : ModeCause) (ring : Phase) (result : TestResult) (slots frames : Nat),
      slots < 65536 → frames < 256 →
      urgentRecord (.mode m cause (some (ring, result, slots, frames))) overrun v
        = ⟨0x40, if overrun then 1 else 0, bytes32 v ++ [m.code, cause.code, Phase.code ring, result.code,
            BitVec.ofNat 8 (slots / 256), BitVec.ofNat 8 slots, BitVec.ofNat 8 frames]⟩)
    ∧ (∀ (st : SeqState) (cause : Option TripCause) (record : Option CampaignRecord),
      urgentRecord (.campaign st cause record) overrun v
        = ⟨0x41, if overrun then 1 else 0, bytes32 v
            ++ [st.code, (cause.map TripCause.code).getD 0, if record.isSome then 1 else 0]
            ++ campaignBytes record⟩)
    ∧ (∀ (tag : Byte) (m voltage speed : Nat), m < 256 → voltage < 65536 → speed < 65536 →
      urgentRecord (.plan tag m voltage speed) overrun v
        = ⟨0x42, if overrun then 1 else 0, bytes32 v ++ [tag, BitVec.ofNat 8 m, BitVec.ofNat 8 (voltage / 256),
            BitVec.ofNat 8 voltage, BitVec.ofNat 8 (speed / 256), BitVec.ofNat 8 speed]⟩)
    ∧ (∀ holdReq trip driveRun brakeSet : Bool, urgentRecord (.lines holdReq trip driveRun brakeSet) overrun v
      = ⟨0x43, if overrun then 1 else 0, bytes32 v ++ [BitVec.ofNat 8 (holdReq.toNat + 2 * trip.toNat
          + 4 * driveRun.toNat + 8 * brakeSet.toNat)]⟩)
    ∧ bytes32 v = [v.extractLsb' 24 8, v.extractLsb' 16 8, v.extractLsb' 8 8, v.extractLsb' 0 8])
  ∧ ∀ (s : State) (c : CellRef), cellNoticeRecord s c = ⟨0x44, 0, bytes32 s.gen.timebase ++ cellRecordBytes s c⟩

/-- A sent frame frees the transmit path, which takes its next frame at once (R159). A reply that so leaves the reply list
admits the request at the head of the buffer once fewer than four replies wait (R157, Table 9-4): it then does exactly what
its command does in the state in which it is dispatched, and the requests behind it follow while the same condition holds.
While four or more wait, no request leaves the buffer. It rests on the model's reading in log entries 4 and 5. -/
def Obligations.TransmitDoneFreesThePath : Prop :=
  (∀ (x : Transmission) (s : State), s.link.transmitting = some x → s.link.restartPending = false →
    s.link.buffer = [] → exec .transmitDone s = .next (pump { s with link.transmitting := none }))
  ∧ (∀ (x : Transmission) (q : LinkRecord) (qs : List LinkRecord) (s : State), s.link.transmitting = some x →
    s.link.restartPending = false → s.link.replies = q :: qs →
    (4 ≤ qs.length →
      exec .transmitDone s
        = .next { s with link.replies := qs, link.transmitting := some ⟨q, s.gen.timebase⟩ })
    ∧ (qs.length ≤ 3 →
      (∀ (c : Instr) (r : Request), requestOf c = some r → s.link.buffer = [r] →
        exec .transmitDone s = exec c { s with
          link.buffer := [], link.replies := qs, link.transmitting := some ⟨q, s.gen.timebase⟩ })
      ∧ ∀ (r : Request) (rest : List Request), s.link.buffer = r :: rest →
        exec .transmitDone s = .next (dispatchAll (dispatch r { s with
          link.buffer := rest, link.replies := qs, link.transmitting := some ⟨q, s.gen.timebase⟩ }))))
  ∧ ∀ s : State, (s.link.buffer = [] ∨ 4 ≤ s.link.replies.length ∨ s.link.restartPending = true) → dispatchAll s = s

/-! ### Resets -/

/-- The soft reset, when the last character of RESTART's OK has been sent (R22, R43, R44, R101, R136, R151, R163): what every
block keeps and what it loses. The stage timers and the campaign's timers, ramp step count and hold mark are dropped (Table
7-6); the hold-minimum timer starts where HOLD_REQ was deasserted, and otherwise runs on; every link has the items that Table
3-2 gives DARK. It rests on the model's reading in log entries 9 and 12. -/
def Obligations.RestartOkSentResetsSoftly : Prop :=
  ∀ (x : Transmission) (s : State) (c : Instr), s.link.transmitting = some x → s.link.restartPending = true →
    x.record.recordType = 0x9A → x.record.body = [ReplyCode.ok.code] → (c = .transmitDone ∨ c = .softReset) →
    ∃ t : State, exec c s = .next t
      ∧ t.store = { s.store with mode := .config, frozen := false, storedCrc := none, selfTest := none }
      ∧ t.gen = s.gen
      ∧ t.rings = { lit := false, healthOn := false, mail := ⟨none, none, none⟩, frames := none }
      ∧ t.link = State.reset.link ∧ t.notices = State.reset.notices
      ∧ t.plans = { pending := none, inForce := none } ∧ t.queue = s.queue ∧ t.pending = s.pending
      ∧ t.seq.state = .off ∧ t.seq.scale = 0 ∧ t.seq.campaign = none ∧ t.seq.heldHalt = false
      ∧ t.seq.history = (match s.seq.campaign with
          | some k => historyWith s (closedWith s k .abandoned)
          | none => s.seq.history)
      ∧ t.seq.attempts = s.seq.attempts ∧ t.seq.lastTag = s.seq.lastTag ∧ t.seq.lastNumber = s.seq.lastNumber
      ∧ t.seq.tripCause = s.seq.tripCause
      ∧ t.lock.driveRun = s.lock.driveRun ∧ t.lock.brakeSet = s.lock.brakeSet ∧ t.lock.hoist = none
      ∧ t.lock.trip = s.lock.trip ∧ t.lock.holdReq = true
      ∧ t.seq.watch = none ∧ t.seq.rephase = none ∧ t.seq.enrolRun = false
      ∧ t.lock.rideThrough = none ∧ t.lock.brakeConfirm = none ∧ t.lock.resumeTimer = none ∧ t.lock.rampCount = 0
      ∧ t.lock.holdMark = false ∧ t.lock.budgetSpent = false
      ∧ (s.lock.holdReq = true → t.lock.holdTimer = s.lock.holdTimer ∧ t.lock.holdMet = s.lock.holdMet)
      ∧ (s.lock.holdReq = false → 0 < cfgHoldMinimum s.store.image →
        t.lock.holdTimer = some s.gen.timebase ∧ t.lock.holdMet = false)
      ∧ (s.lock.holdReq = false → cfgHoldMinimum s.store.image = 0 → t.lock.holdTimer = none ∧ t.lock.holdMet = true)
      ∧ ∀ d : CellRef,
        (t.cell d).service = (if (s.cell d).service.working then .awaiting else (s.cell d).service)
        ∧ (t.cell d).degradedArmed = true ∧ (t.cell d).suspect = false ∧ (t.cell d).severStamp = none
        ∧ (t.cell d).rejectCause = none ∧ (t.cell d).isolation = none
        ∧ (t.cell d).faultedClose = (s.cell d).faultedClose
        ∧ ((s.cell d).service.working = false → (t.cell d).offset = (s.cell d).offset)
        ∧ (t.cell d).flags
          = (if (s.cell d).service.working then (s.cell d).flags ||| ReportFlag.stateChanged.mask else (s.cell d).flags)
        ∧ ((s.cell d).service.working = true → (t.cell d).offset = none)
        ∧ (t.cell d).ability = (s.cell d).ability ∧ (t.cell d).report = (s.cell d).report
        ∧ (t.cell d).fault = (s.cell d).fault ∧ (t.cell d).strikes = (s.cell d).strikes
        ∧ (t.cell d).activeTime = (s.cell d).activeTime ∧ (t.cell d).reportAge = (s.cell d).reportAge
        ∧ (t.cell d).link = .dark ∧ (t.cell d).missCount = 0 ∧ (t.cell d).goodRun = 0
        ∧ (t.cell d).unsteadyCount = 0 ∧ (t.cell d).dcDebounce = 0 ∧ (t.cell d).heldAbility = none

/-- R4: RESET_N and power-on set the roster to its initial state. -/
def Obligations.ResetSetsTheRoster : Prop :=
  ∀ (s : State) (c : Instr), (c = .resetN ∨ c = .powerOn) →
    ∃ t : State, exec c s = .next t
      ∧ (∀ p : Phase, cfgInstalled t.store.image p = 6)
      ∧ ∀ d : CellRef,
        (t.cell d).service = (if positionOf d ≤ 6 then .awaiting else .vacant)
        ∧ (positionOf d ≤ 6 → numberOf t.store.image d = 6 * (phaseOf d).index + positionOf d)
        ∧ (t.cell d).ability = none ∧ (t.cell d).report = none ∧ (t.cell d).fault = none ∧ (t.cell d).offset = none
        ∧ (t.cell d).strikes = 0 ∧ (t.cell d).activeTime = 0 ∧ (t.cell d).flags = 0 ∧ (t.cell d).link = .dark

/-- RESET_N and power-on return the whole device to its reset state, but for the levels at the two pins, each of which starts
a pending change where it is asserted (R119, R152), and the commands that wait. The reset state has CONFIG, HOLD_REQ
asserted, TRIP clear, timebase 0 and cycle 0. It rests on the model's reading in log entries 10, 11 and 35. -/
def Obligations.FullResetRestoresTheResetState : Prop :=
  (∀ (s : State) (c : Instr), (c = .resetN ∨ c = .powerOn) →
    exec c s = .next { State.reset with
      lock.driveRun :=
        { pin := s.lock.driveRun.pin, level := false, change := if s.lock.driveRun.pin then some 0 else none }
      lock.brakeSet :=
        { pin := s.lock.brakeSet.pin, level := false, change := if s.lock.brakeSet.pin then some 0 else none }
      pending := s.pending })
    ∧ State.reset.store.mode = .config ∧ State.reset.store.frozen = false ∧ State.reset.store.image.length = 125
    ∧ State.reset.lock.holdReq = true ∧ State.reset.lock.trip = false ∧ State.reset.gen.timebase = 0
    ∧ State.reset.gen.cycle = 0 ∧ State.reset.seq.state = .off ∧ State.reset.seq.scale = 0
    ∧ State.reset.rings.lit = false ∧ State.reset.queue = []

/-! ### The settings store -/

/-- The write of a settings request (R139, R140, R144): each carried field then holds, in its bytes of the image, the value
that its handling gives, and every byte of no carried field is as it was. What each handling of Table 8-3 does with a value
(R140, R141): refused outside its range; replaced by the nearer end; refused outside it and rounded down to the step within
it; a slot start, with 0 kept, 1 to 19 held as 20, and refused above 990 or where the effective start and 30 µs exceed the
cycle period. And every field of Table 8-3, with its place in the image (R144), its width and its handling. The refused field
that a RANGE reply names is the first one that is refused, and bit j of the adjusted set says that field j was carried and
written with another value than the one carried (R139); three bytes carry it, most significant first. -/
def Obligations.SettingsWriteTheirFields : Prop :=
  (∀ specs ∈ [deviceSpecs, ringSpecs .a, ringSpecs .b, ringSpecs .c, planSpecs, timingSpecs, reportingSpecs],
    ∀ (period : Nat) (fields : List (Option Nat)) (image : List Byte),
      image.length = 125 → fields.length = specs.length → firstRefused period 0 specs fields = none →
      (writeFields period specs fields image).length = 125
      ∧ (∀ (j : Nat) (f : FieldSpec) (v : Nat), specs[j]? = some f → fields[j]? = some (some v) →
          ∃ w : Nat, judge period f.handling v = some w
            ∧ natOfBytes (((writeFields period specs fields image).drop f.offset).take f.width) = w)
      ∧ ∀ i : Nat,
          (∀ (j : Nat) (f : FieldSpec) (v : Nat), specs[j]? = some f → fields[j]? = some (some v) →
            i < f.offset ∨ f.offset + f.width ≤ i) →
          (writeFields period specs fields image)[i]? = image[i]?)
  ∧ (∀ period v lo hi step position : Nat,
    judge period (.refuse lo hi) v = (if lo ≤ v ∧ v ≤ hi then some v else none)
    ∧ (lo ≤ hi → judge period (.clamp lo hi) v = some (if v < lo then lo else if hi < v then hi else v))
    ∧ judge period (.round lo hi step) v = (if lo ≤ v ∧ v ≤ hi then some (v - v % step) else none)
    ∧ judge period (.slotStart position) v
      = (if 990 < v ∨ period < (if v = 0 then 20 + 24 * (position - 1) else max 20 v) + 30 then none
         else some (if v = 0 then 0 else max 20 v)))
  ∧ deviceSpecs.map (fun f => (f.offset, f.width, f.handling))
      = [(0, 2, .round 100 1000 10), (77, 2, .refuse 400 2000), (79, 2, .refuse 1000 15000),
         (81, 2, .refuse 500 20000), (120, 1, .refuse 0 1), (122, 1, .refuse 0 1)]
  ∧ planSpecs.map (fun f => (f.offset, f.width, f.handling))
      = [(83, 1, .refuse 1 8), (84, 2, .refuse 200 2000), (86, 2, .clamp 512 1024), (88, 2, .refuse 0 4094),
         (90, 2, .refuse 0 4094), (92, 1, .clamp 1 16), (95, 1, .refuse 1 7), (96, 1, .refuse 1 8),
         (97, 2, .refuse 10 3600)]
  ∧ timingSpecs.map (fun f => (f.offset, f.width, f.handling))
      = [(93, 2, .clamp 20 5000), (99, 1, .clamp 5 200), (100, 1, .clamp 1 20), (101, 2, .clamp 20 500),
         (103, 1, .refuse 0 1), (104, 1, .clamp 2 16), (105, 1, .clamp 2 16), (106, 2, .clamp 0 1000),
         (108, 2, .clamp 0 20000), (110, 2, .clamp 10 500), (112, 2, .clamp 100 5000), (114, 2, .clamp 0 10000),
         (116, 2, .clamp 100 10000), (118, 2, .clamp 100 10000)]
  ∧ reportingSpecs.map (fun f => (f.offset, f.width, f.handling))
      = [(121, 1, .refuse 0 1), (123, 1, .clamp 1 16), (124, 1, .clamp 1 255)]
  ∧ (∀ (period : Nat) (specs : List FieldSpec) (fields : List (Option Nat)) (j : Nat),
    (∀ f : FieldSpec, firstRefused period 0 specs fields = some (j, f) ↔
      specs[j]? = some f ∧ (∃ v : Nat, fields[j]? = some (some v) ∧ judge period f.handling v = none)
      ∧ ∀ (i : Nat) (g : FieldSpec) (w : Nat), i < j → specs[i]? = some g → fields[i]? = some (some w) →
        (judge period g.handling w).isSome = true)
    ∧ ((adjustedSet period specs fields).testBit j = true ↔
      ∃ (f : FieldSpec) (v : Nat), specs[j]? = some f ∧ fields[j]? = some (some v)
        ∧ judge period f.handling v ≠ some v))
  ∧ (∀ n : Nat, bytesOfNat 3 n = [BitVec.ofNat 8 (n / 65536), BitVec.ofNat 8 (n / 256), BitVec.ofNat 8 n])
  ∧ ∀ p : Phase,
    (ringSpecs p).length = 17
    ∧ (ringSpecs p)[0]? = some ⟨2 + p.index, 1, .refuse 2 8, Phase.code p, 0⟩
    ∧ ∀ k : Nat, k < 8 →
      (ringSpecs p)[1 + k]? = some ⟨5 + 16 * p.index + 2 * k, 2, .slotStart (k + 1), Phase.code p, k + 1⟩
      ∧ (ringSpecs p)[9 + k]? = some ⟨53 + 8 * p.index + k, 1, .refuse 0 2, Phase.code p, k + 1⟩

/-- The five settings requests in CONFIG (R139 to R142, R81, R122, R169): BUSY while a self-test runs; RANGE for a phase code
that names no phase; RANGE with the first refused field, and nothing written; otherwise every carried field written in one
step, with the derived DC window, the reshaped phase, the trimmed attempt history and the rechecked records and timers of the
same step, and OK with the adjusted set. What those effects are: a lowered attempt window drops every attempt entry whose age
has reached it, and a new budget keeps its number of the newest entries (R81); a hoist status record as old as the new
freshness is stale (R122); a hold-minimum timer that has reached the new minimum is met (R142); a batch count at or below the
number of held notices, or a batch timer that has reached its new value, releases every held notice (R169). That a carried
count reshapes the phase also where a storage fault has made the image and the roster disagree is the model's choice (log
entry 23), and so is what a budget does that lies above one a storage fault had lowered (log entry 52), and that the held
notices are rechecked also where the carried settings repeat theirs (log entry 57). It rests on the model's reading in log
entries 22, 23, 52 and 57. -/
def Obligations.SettingsRequestsWriteOrRefuse : Prop :=
  (∀ (tag : Byte) (s : State), Ready s → s.store.mode = .config →
    (∀ (c : Instr) (r : Request), requestOf c = some r → takenIn r.op .standby = false → takenIn r.op .service = false →
      (∀ ring, r.op ≠ .selfTest ring) → s.store.selfTest.isSome = true →
      exec c s = .next (replyOnly r.op.recordType r.tag .busy [] s))
    ∧ (s.store.selfTest = none →
      (∀ (code : Byte) (fields : List (Option Nat)), phaseOfCode code = none →
        exec (.setRing tag code fields) s = .next (replyOnly 0x02 tag .range [0, 0, 0] s))
      ∧ (∀ (c : Instr) (r : Request) (specs : List FieldSpec) (fields : List (Option Nat)) (j : Nat) (f : FieldSpec),
        requestOf c = some r → settingsFields r.op = some (specs, fields) →
        firstRefused (cfgCyclePeriod s.store.image) 0 specs fields = some (j, f) →
        exec c s = .next
          (replyOnly r.op.recordType r.tag .range [BitVec.ofNat 8 j, f.phaseCode, BitVec.ofNat 8 f.position] s))
      ∧ (∀ fields : List (Option Nat), firstRefused (cfgCyclePeriod s.store.image) 0 deviceSpecs fields = none →
        exec (.setDevice tag fields) s = .next (pump
          (if carried fields 1 then
            pushReply 0x01 tag .ok (adjustedBody s deviceSpecs fields 192) { s with
              store.image := writeImage
                (writeImage (imageAfter s deviceSpecs fields) 88 2
                  (cfgNominalDc (imageAfter s deviceSpecs fields) * 17 / 10)) 90 2
                (min 4094 (cfgNominalDc (imageAfter s deviceSpecs fields) * 23 / 10)) }
          else
            pushReply 0x01 tag .ok (adjustedBody s deviceSpecs fields 0)
              { s with store.image := imageAfter s deviceSpecs fields })))
      ∧ (∀ (p : Phase) (fields : List (Option Nat)),
        firstRefused (cfgCyclePeriod s.store.image) 0 (ringSpecs p) fields = none →
        exec (.setRing tag (Phase.code p) fields) s = .next (pump (pushReply 0x02 tag .ok
          (adjustedBody s (ringSpecs p) fields 0)
          (if carried fields 0 then
            reshape p (cfgInstalled (imageAfter s (ringSpecs p) fields) p)
              { s with store.image := imageAfter s (ringSpecs p) fields }
          else { s with store.image := imageAfter s (ringSpecs p) fields }))))
      ∧ (∀ fields : List (Option Nat), firstRefused (cfgCyclePeriod s.store.image) 0 planSpecs fields = none →
        exec (.setPlan tag fields) s = .next (pump (pushReply 0x03 tag .ok (adjustedBody s planSpecs fields 0)
          (planEffects (cfgAttemptWindow s.store.image) fields
            { s with store.image := imageAfter s planSpecs fields }))))
      ∧ (∀ fields : List (Option Nat), firstRefused (cfgCyclePeriod s.store.image) 0 timingSpecs fields = none →
        exec (.setTiming tag fields) s = .next (pump (pushReply 0x04 tag .ok (adjustedBody s timingSpecs fields 0)
          (timingEffects fields { s with store.image := imageAfter s timingSpecs fields }))))
      ∧ (∀ fields : List (Option Nat), firstRefused (cfgCyclePeriod s.store.image) 0 reportingSpecs fields = none →
        exec (.setReporting tag fields) s = .next (pump (pushReply 0x05 tag .ok
          (adjustedBody s reportingSpecs fields 0)
          (reportingEffects fields { s with store.image := imageAfter s reportingSpecs fields }))))))
  ∧ (∀ (before : Nat) (fields : List (Option Nat)) (s : State),
    ∃ kept : List Stamp,
      kept = (if carried fields 8 ∧ cfgAttemptWindow s.store.image < before then
          s.seq.attempts.filter fun e => (s.gen.timebase - e).toNat < cfgAttemptWindow s.store.image * 1000000
        else s.seq.attempts)
      ∧ planEffects before fields s = { s with
          seq.attempts :=
            if carried fields 7 then kept.drop (kept.length - cfgAttemptBudget s.store.image) else kept })
  ∧ (∀ (fields : List (Option Nat)) (s : State),
    ((timingEffects fields s).lock.hoist
      = s.lock.hoist.map fun h => { h with
          fresh := h.fresh && (!carried fields 9
            || decide ((s.gen.timebase - h.stamp).toNat < cfgFreshness s.store.image * 1000)) })
    ∧ (∀ b : Stamp, carried fields 11 = true → s.lock.holdTimer = some b →
      cfgHoldMinimum s.store.image * 1000 ≤ (s.gen.timebase - b).toNat →
      (timingEffects fields s).lock.holdTimer = none ∧ (timingEffects fields s).lock.holdMet = true)
    ∧ ((carried fields 11 = false ∨ ∀ b : Stamp, s.lock.holdTimer = some b →
        (s.gen.timebase - b).toNat < cfgHoldMinimum s.store.image * 1000) →
      (timingEffects fields s).lock.holdTimer = s.lock.holdTimer
        ∧ (timingEffects fields s).lock.holdMet = s.lock.holdMet)
    ∧ timingEffects fields s = { s with
        lock.hoist := (timingEffects fields s).lock.hoist
        lock.holdTimer := (timingEffects fields s).lock.holdTimer
        lock.holdMet := (timingEffects fields s).lock.holdMet })
  ∧ ∀ (fields : List (Option Nat)) (s : State),
    ((carried fields 1 = true ∨ carried fields 2 = true) →
      ((1 ≤ s.notices.cells.countP (!·.released)
          ∧ cfgBatchCount s.store.image ≤ s.notices.cells.countP (!·.released))
        ∨ ∃ b : Stamp, s.notices.batchTimer = some b
          ∧ cfgBatchTimer s.store.image * 1000 ≤ (s.gen.timebase - b).toNat) →
      reportingEffects fields s = { s with
        notices.cells := s.notices.cells.map fun n => { n with released := true }
        notices.batchTimer := none })
    ∧ (((carried fields 1 = false ∧ carried fields 2 = false)
        ∨ ((s.notices.cells.countP (!·.released) = 0
            ∨ s.notices.cells.countP (!·.released) < cfgBatchCount s.store.image)
          ∧ ∀ b : Stamp, s.notices.batchTimer = some b →
            (s.gen.timebase - b).toNat < cfgBatchTimer s.store.image * 1000)) →
      reportingEffects fields s = s)

/-- A new installed count reshapes its phase and no other (R3): a position that enters the range is AWAITING with an empty
record, one that leaves it is VACANT with an empty record, its queue entry and its cell notice gone; a record that stays
installed, a VACANT one that stays VACANT, and every record of another phase, keep all their fields. -/
def Obligations.InstalledCountReshapesThePhase : Prop :=
  ∀ (p : Phase) (n : Nat) (s : State),
    (∀ d : CellRef, phaseOf d ≠ p → (reshape p n s).cell d = s.cell d)
    ∧ (∀ d : CellRef, phaseOf d = p →
      (reshape p n s).cell d
        = (if positionOf d ≤ n then (if s.installed d then s.cell d else Cell.empty .awaiting)
           else if s.installed d then Cell.empty .vacant else s.cell d))
    ∧ (∀ e : QueueEntry, e ∈ (reshape p n s).queue
        ↔ e ∈ s.queue ∧ ¬(phaseOf e.cell = p ∧ n < positionOf e.cell ∧ s.installed e.cell = true))
    ∧ (∀ q : CellNotice, q ∈ (reshape p n s).notices.cells
        ↔ q ∈ s.notices.cells ∧ ¬(phaseOf q.cell = p ∧ n < positionOf q.cell ∧ s.installed q.cell = true))
    ∧ (reshape p n s).store = s.store ∧ (reshape p n s).seq = s.seq ∧ (reshape p n s).link = s.link

/-- FREEZE in CONFIG (R143): BUSY while a self-test runs; RANGE with the first failing check and no other effect; otherwise
the settings CRC stored, the frozen flag set, STANDBY with its MODE notice, and OK. And the RANGE body of each check of Table
8-4, taken in order: for check 1 the phase and both positions of the first pair whose slots overlap, in ascending record
order; for check 4 the phase and position of the first slot that does not fit; the check number and zeros for checks 2 and 3
(R143, Table 12-4). It rests on the model's reading in log entry 55. -/
def Obligations.FreezeSealsTheSettings : Prop :=
  ∀ (tag : Byte) (s : State), Ready s → s.store.mode = .config →
    (s.store.selfTest.isSome = true → exec (.freeze tag) s = .next (replyOnly 0x06 tag .busy [] s))
    ∧ (s.store.selfTest = none → ∀ body, freezeFault s = some body →
      exec (.freeze tag) s = .next (replyOnly 0x06 tag .range body s))
    ∧ (s.store.selfTest = none → freezeFault s = none →
      exec (.freeze tag) s = .next (pump (pushReply 0x06 tag .ok [] (postUrgent (.mode .standby .freeze none)
        { s with
          store.storedCrc := some (crc16 s.store.image)
          store.frozen := true
          store.mode := .standby }))))
    ∧ (∀ p q : CellRef, SlotsClash s p q →
      (∀ p' q' : CellRef, (p' < p ∨ (p' = p ∧ q' < q)) → ¬SlotsClash s p' q') →
      freezeFault s
        = some [1, Phase.code (phaseOf p), BitVec.ofNat 8 (positionOf p), BitVec.ofNat 8 (positionOf q)])
    ∧ ((∀ p q : CellRef, ¬SlotsClash s p q) →
      (cfgDcHigh s.store.image ≤ cfgDcLow s.store.image → freezeFault s = some [2, 0, 0, 0])
      ∧ (cfgDcLow s.store.image < cfgDcHigh s.store.image →
        ((∃ p : Phase, cfgInstalled s.store.image p < cfgMinActive s.store.image) →
          freezeFault s = some [3, 0, 0, 0])
        ∧ ((∀ p : Phase, cfgMinActive s.store.image ≤ cfgInstalled s.store.image p) →
          ∀ c : CellRef, s.installed c = true → cfgCyclePeriod s.store.image < effectiveStart s.store.image c + 30 →
          (∀ d : CellRef, d < c → s.installed d = true →
            effectiveStart s.store.image d + 30 ≤ cfgCyclePeriod s.store.image) →
          freezeFault s = some [4, Phase.code (phaseOf c), BitVec.ofNat 8 (positionOf c), 0])))

/-- FREEZE passes exactly when the four checks of Table 8-4 hold over the image (R143). It rests on the model's reading in
log entry 55. -/
def Obligations.FreezeChecksDecide : Prop :=
  ∀ s : State, freezeFault s = none ↔
    (∀ p q : CellRef, s.installed p = true → s.installed q = true → phaseOf p = phaseOf q → positionOf p < positionOf q →
      effectiveStart s.store.image p + 20 ≤ effectiveStart s.store.image q
      ∨ effectiveStart s.store.image q + 20 ≤ effectiveStart s.store.image p
      ∨ (cfgHalfRate s.store.image p = 1 ∧ cfgHalfRate s.store.image q = 2)
      ∨ (cfgHalfRate s.store.image p = 2 ∧ cfgHalfRate s.store.image q = 1))
    ∧ cfgDcLow s.store.image < cfgDcHigh s.store.image
    ∧ (∀ p : Phase, cfgMinActive s.store.image ≤ cfgInstalled s.store.image p)
    ∧ ∀ p : CellRef, s.installed p = true →
        effectiveStart s.store.image p + 20 + 10 ≤ cfgCyclePeriod s.store.image

/-- R145: UNFREEZE in STANDBY clears the frozen flag, discards the stored CRC and returns to CONFIG with a MODE notice and the
reply OK; every other block's state is kept. In other modes it is WRONG_MODE. -/
def Obligations.UnfreezeReturnsToConfig : Prop :=
  ∀ (tag : Byte) (s : State), Ready s →
    (s.store.mode = .standby →
      exec (.unfreeze tag) s = .next (pump (pushReply 0x08 tag .ok [] (postUrgent (.mode .config .unfreeze none)
        { s with store.frozen := false, store.storedCrc := none, store.mode := .config }))))
    ∧ (s.store.mode ≠ .standby → exec (.unfreeze tag) s = .next (replyOnly 0x08 tag .wrongMode [] s))

/-- The ring self-test (R148, R149, R150): SELF_TEST's checks in order and its marker; a cycle start of the test, which begins
the next test cycle and counts a loopback frame whose CRC-16 differs as failing; each slot judged against Table 8-6, whose
answers are written out; the result at the end of the eighth slot of test cycle 64, with its MODE notice. It rests on the
model's reading in log entry 27. -/
def Obligations.SelfTestRunsToItsResult : Prop :=
  (∀ (tag ring : Byte) (s : State), Ready s → s.store.mode = .config →
    (phaseOfCode ring = none → exec (.selfTest tag ring) s = .next (replyOnly 0x07 tag .range [] s))
    ∧ ∀ p : Phase, phaseOfCode ring = some p →
      (s.store.selfTest.isSome = true → exec (.selfTest tag ring) s = .next (replyOnly 0x07 tag .busy [] s))
      ∧ (s.store.selfTest = none → cfgCyclePeriod s.store.image < 190 →
        exec (.selfTest tag ring) s = .next (replyOnly 0x07 tag .range [] s))
      ∧ (s.store.selfTest = none → 190 ≤ cfgCyclePeriod s.store.image →
        exec (.selfTest tag ring) s = .next (pump (pushReply 0x07 tag .accepted [] { s with
          store.selfTest := some { ring := p, cycle := 0, slot := 0, failingSlots := 0, failingFrames := 0 } }))))
  ∧ (∀ (pos : Fin 8) (seen : SlotSeen) (m : SelfTest) (s : State), s.store.selfTest = some m → 1 ≤ m.cycle →
    m.slot = pos.val →
    exec (.selfTestSlotEnd pos seen) s = .next (settle { s with
      store.selfTest := some { m with
        slot := pos.val + 1
        failingSlots :=
          if judgeSlot seen = .valid (expectedAnswer m.cycle (pos.val + 1)) then m.failingSlots
          else m.failingSlots + 1 } }))
  ∧ (∀ (m : SelfTest) (s : State), s.store.selfTest = some m → m.cycle = 64 → m.slot = 8 →
    exec .selfTestEnd s = .next (settle (postUrgent
      (.mode s.store.mode .selfTest (some (m.ring,
        if m.failingSlots = 0 ∧ m.failingFrames = 0 then .pass else .fail, m.failingSlots, m.failingFrames)))
      { s with
        store.results := s.store.results.set m.ring
          (if m.failingSlots = 0 ∧ m.failingFrames = 0 then .pass else .fail)
        store.selfTest := none })))
  ∧ (∀ (loopback : Option (List Byte)) (m : SelfTest) (s : State), Quiet s → s.store.selfTest = some m →
    ∃ t : State, exec (.cycleStart loopback) s = .next t
      ∧ (64 ≤ m.cycle → t.store.selfTest = some m)
      ∧ (m.cycle < 64 →
        (loopback = none → t.store.selfTest = some { m with cycle := m.cycle + 1, slot := 0 })
        ∧ ∀ (bytes : List Byte) (high low : Byte), loopback = some (bytes ++ [high, low]) →
          t.store.selfTest = some { m with
            cycle := m.cycle + 1
            slot := 0
            failingFrames := if high ++ low = crc16 bytes then m.failingFrames else m.failingFrames + 1 }))
  ∧ ∀ c p : Nat, expectedAnswer c p = {
      gate := 0, bypass := 1, classCode := BitVec.ofNat 8 ((c + p - 2) % 12), detail := BitVec.ofNat 8 p,
      dc := if (c + p) % 2 = 0 then 1365 else 2730, tag := BitVec.ofNat 8 c, message := .none }

/-- GO with every check passed (R146, R77, R79, R86, R128): SERVICE, the START campaign open in BLOCK with the fault queue as
its set, the style STOPPED, or HELD where DRIVE_RUN is asserted, and every cell's record as it was. It is replied OK, and
posts a MODE notice and then the CAMPAIGN notice of BLOCK (R75, R166). It rests on the model's reading in log entries 4, 5
and 15. -/
def Obligations.GoOpensTheStartCampaign : Prop :=
  ∀ (tag : Byte) (s : State), Ready s → s.store.mode = .standby → s.seq.state = .off → s.lock.trip = false →
    s.store.results.a ≠ .fail → s.store.results.b ≠ .fail → s.store.results.c ≠ .fail →
    s.store.storedCrc = some (crc16 s.store.image) →
    ∃ t : State, exec (.go tag) s = .next t
      ∧ t.store = { s.store with mode := .service }
      ∧ t.seq.state = .block ∧ t.seq.scale = 0
      ∧ t.seq.campaign = some {
          number := numberAfter s.seq.lastNumber, kind := .start,
          style := some (if s.lock.driveRun.level then .held else .stopped), iteration := 1,
          set := s.queue.map QueueEntry.cell, opened := s.gen.timebase, pendingTag := none, issue := none }
      ∧ t.seq.lastNumber = numberAfter s.seq.lastNumber
      ∧ t.seq.watch = some { cells := watchedCells s, starts := 0 } ∧ t.seq.enrolRun = false
      ∧ t.seq.history = s.seq.history ∧ t.seq.attempts = s.seq.attempts ∧ t.seq.lastTag = s.seq.lastTag
      ∧ t.lock.holdMark = true ∧ t.lock.holdReq = true ∧ t.lock.trip = false
      ∧ t.lock.driveRun = s.lock.driveRun ∧ t.lock.brakeSet = s.lock.brakeSet ∧ t.lock.hoist = s.lock.hoist
      ∧ (∀ d : CellRef, t.cell d = { s.cell d with isolation := none })
      ∧ Replies s t [replyRecord 0x09 tag .ok []]
      ∧ (∀ k : Campaign, t.seq.campaign = some k →
        Posts s t ([.mode .service .go none, .campaign .block s.seq.tripCause (some (recordAt s k .block))]
          ++ lineChange s t))
      ∧ t.queue = s.queue ∧ t.plans = s.plans ∧ t.rings = s.rings ∧ t.gen = s.gen ∧ t.pending = s.pending

/-- GO refused, by the first failing check of Table 8-5 (R146): WRONG_STATE, RING_FAILED, or SETTINGS_CORRUPT with the frozen
flag clear, the stored CRC discarded, CONFIG and a MODE notice. -/
def Obligations.GoIsRefusedInOrder : Prop :=
  ∀ (tag : Byte) (s : State), Ready s → s.store.mode = .standby →
    (s.lock.trip = true → exec (.go tag) s = .next (replyOnly 0x09 tag .wrongState [] s))
    ∧ (s.lock.trip = false →
      ((∃ p : Phase, s.store.results.get p = .fail) →
        exec (.go tag) s = .next (replyOnly 0x09 tag .ringFailed [] s))
      ∧ ((∀ p : Phase, s.store.results.get p ≠ .fail) → s.store.storedCrc ≠ some (crc16 s.store.image) →
        exec (.go tag) s = .next (pump (pushReply 0x09 tag .settingsCorrupt []
          (postUrgent (.mode .config .goRefused none)
            { s with store.frozen := false, store.storedCrc := none, store.mode := .config })))))

/-- A storage fault while the image is frozen alters the byte it names, of the image or of the stored CRC, and nothing else;
at another time it alters nothing (R144). It rests on the model's reading in log entry 28. -/
def Obligations.StorageFaultAltersOneByte : Prop :=
  ∀ (value : Byte) (s : State),
    (s.store.frozen = true →
      (∀ i : Fin 125, exec (.storageFault (.image i) value) s
        = .next (settle { s with store.image := s.store.image.set i.val value }))
      ∧ ∀ v : BitVec 16, s.store.storedCrc = some v →
        exec (.storageFault .storedCrcHigh value) s
          = .next (settle { s with store.storedCrc := some (value ++ v.extractLsb' 0 8) })
        ∧ exec (.storageFault .storedCrcLow value) s
          = .next (settle { s with store.storedCrc := some (v.extractLsb' 8 8 ++ value) }))
    ∧ (s.store.frozen = false → ∀ target : StorageCell, exec (.storageFault target value) s = .next (settle s))

/-! ### The roster's, the ring controllers' and the readout requests -/

/-- R2: a request that names the cell number 0, or one above the sum of the installed counts, is RANGE and leaves the roster
unchanged; a number that names a record names an installed one, by the numbering of R1, so a VACANT record is never named. -/
def Obligations.BadCellNumberIsRange : Prop :=
  (∀ (tag number : Byte) (bytes : List Byte) (c : Instr) (r : Request) (s : State),
    c ∈ [Instr.readCell tag number, .reinstate tag number, .clearCell tag number, .relink tag number,
      .reenrol tag number, .tunnel tag number bytes] →
    requestOf c = some r → r.op.wellFormed = true → (∀ t, r.op ≠ .malformed t) → Ready s →
    takenIn r.op s.store.mode = true →
    (number = 0 ∨ cfgInstalled s.store.image .a + cfgInstalled s.store.image .b + cfgInstalled s.store.image .c
      < number.toNat) →
    exec c s = .next (replyOnly r.op.recordType tag .range [] s))
  ∧ ∀ (number : Byte) (c : CellRef) (s : State), s.named number = some c →
      (s.cell c).service ≠ .vacant ∧ numberOf s.store.image c = number.toNat

/-- CLEAR_CELL and REINSTATE (R15, R16): the checks in their order, and the cell's move, with its strike count or its fault
record, state_changed and the reply OK. -/
def Obligations.ClearCellAndReinstateMoveTheCell : Prop :=
  ∀ (tag number : Byte) (c : CellRef) (s : State), Ready s → s.named number = some c →
    ((s.store.mode = .standby ∨ s.store.mode = .service) →
      ((s.cell c).service ≠ .lockedOut →
        exec (.clearCell tag number) s = .next (replyOnly 0x0E tag .wrongState [] s))
      ∧ ((s.cell c).service = .lockedOut → s.store.mode = .service → s.seq.state ≠ .ready →
        exec (.clearCell tag number) s = .next (replyOnly 0x0E tag .campaignActive [] s))
      ∧ ((s.cell c).service = .lockedOut → (s.store.mode = .standby ∨ s.seq.state = .ready) →
        exec (.clearCell tag number) s = .next (pump (pushReply 0x0E tag .ok [] (setFlag .stateChanged c
          (s.modCell c fun x => { x with service := .bypassed, strikes := 0, offset := none, dcDebounce := 0 }))))))
    ∧ (s.store.mode = .service →
      (((s.cell c).service ≠ .bypassed ∨ cfgStrikeLimit s.store.image ≤ (s.cell c).strikes) →
        exec (.reinstate tag number) s = .next (replyOnly 0x0F tag .wrongState [] s))
      ∧ ((s.cell c).service = .bypassed → (s.cell c).strikes < cfgStrikeLimit s.store.image →
        (s.seq.state ≠ .ready → exec (.reinstate tag number) s = .next (replyOnly 0x0F tag .campaignActive [] s))
        ∧ (s.seq.state = .ready →
          ((s.cell c).link ≠ .enrolled →
            exec (.reinstate tag number) s = .next (replyOnly 0x0F tag .notLinked [] s))
          ∧ ((s.cell c).link = .enrolled →
            (∀ f, (s.cell c).fault = some f → f.kind = .hard → f.reenrolled = false →
              exec (.reinstate tag number) s = .next (replyOnly 0x0F tag .notRepaired [] s))
            ∧ ((∀ f, (s.cell c).fault = some f → f.kind = .hard → f.reenrolled = true) →
              exec (.reinstate tag number) s = .next (pump (pushReply 0x0F tag .ok [] (setFlag .stateChanged c
                (s.modCell c fun x => { x with service := .reserve, fault := none, offset := none })))))))))

/-- RELINK of a relink-ready SEVERED link, and REENROL of a REJECTED or UNSTEADY one, set the link DARK with the items of
Table 3-2 and reply OK; RELINK turns a blind wait in ISOLATE into a bypass timer from that moment; any other link state is
WRONG_STATE (R53, R60, R90). -/
def Obligations.RelinkAndReenrolReinvite : Prop :=
  ∀ (tag number : Byte) (c : CellRef) (s : State), Ready s → s.store.mode = .service → s.named number = some c →
    (((s.cell c).link ≠ .severed ∨ (s.cell c).goodRun < 48) →
      exec (.relink tag number) s = .next (replyOnly 0x11 tag .wrongState [] s))
    ∧ ((s.cell c).link = .severed → 48 ≤ (s.cell c).goodRun →
      exec (.relink tag number) s = .next (pump (pushReply 0x11 tag .ok [] (s.modCell c fun x => { x with
        link := .dark, missCount := 0, goodRun := 0, degradedArmed := true, suspect := false, severStamp := none,
        rejectCause := none, heldAbility := none,
        isolation := x.isolation.map fun _ => .bypass s.gen.timebase }))))
    ∧ (((s.cell c).link ≠ .rejected ∧ (s.cell c).link ≠ .unsteady) →
      exec (.reenrol tag number) s = .next (replyOnly 0x12 tag .wrongState [] s))
    ∧ (((s.cell c).link = .rejected ∨ (s.cell c).link = .unsteady) →
      exec (.reenrol tag number) s = .next (pump (pushReply 0x12 tag .ok [] (s.modCell c fun x => { x with
        link := .dark, missCount := 0, goodRun := 0, unsteadyCount := 0, degradedArmed := true, suspect := false,
        severStamp := none, rejectCause := none, heldAbility := none }))))

/-- TUNNEL in SERVICE (R39, Table 2-8): the checks in order, and an exchange taken into the ring's mailbox with no chunk sent
and no reply now. Then, in READY: a cycle start sends the next chunk of up to 4 bytes, the last one marked final, counting
from 1 with the first (R40); the one after the last chunk makes the exchange COLLECTING, and while it is, each cycle start in
which the cell's slot is expected polls it (R41). A TUNNEL chunk in the cell's response is discarded while the exchange is
SENDING, where its length is above 4, or where its number is not the one polled; else it is taken: the exchange ends OK with
the reply bytes at a final chunk, MALFORMED where the reply would pass 16 bytes or chunk 3 is not final, and goes on
otherwise (R41, Table 12-4). It rests on the model's reading in log entry 54. -/
def Obligations.TunnelOpensAnExchange : Prop :=
  (∀ (tag number : Byte) (bytes : List Byte) (c : CellRef) (s : State), Ready s → s.store.mode = .service →
    1 ≤ bytes.length → bytes.length ≤ 16 → s.named number = some c →
    (cfgTunnelEnable s.store.image = false →
      exec (.tunnel tag number bytes) s = .next (replyOnly 0x13 tag .disabled [] s))
    ∧ (cfgTunnelEnable s.store.image = true →
      ((s.cell c).link ≠ .enrolled → exec (.tunnel tag number bytes) s = .next (replyOnly 0x13 tag .notLinked [] s))
      ∧ ((s.cell c).link = .enrolled →
        ((s.rings.mail.get (phaseOf c)).isSome = true →
          exec (.tunnel tag number bytes) s = .next (replyOnly 0x13 tag .busy [] s))
        ∧ (s.rings.mail.get (phaseOf c) = none →
          (s.seq.state ≠ .ready →
            exec (.tunnel tag number bytes) s = .next (replyOnly 0x13 tag .campaignActive [] s))
          ∧ (s.seq.state = .ready →
            exec (.tunnel tag number bytes) s = .next (pump { s with
              rings.mail := s.rings.mail.set (phaseOf c) (some {
                cell := c, tag := tag, out := bytes, sent := 0, collecting := false, reply := [], poll := 0,
                count := 0 }) }))))))
  ∧ (∀ (p : Phase) (x : Exchange) (s : State), Quiet s → s.store.mode = .service → s.seq.state = .ready →
    s.rings.mail.get p = some x → phaseOf x.cell = p → s.installed x.cell = true → (s.cell x.cell).link = .enrolled →
    x.count < 64 →
    ∃ (t : State) (y : CommandField), exec (.cycleStart none) s = .next t ∧ fieldSent t x.cell = some y
      ∧ (x.collecting = false → x.sent < (x.out.length + 3) / 4 →
        t.rings.mail.get p = some { x with sent := x.sent + 1, count := x.count + 1 }
        ∧ y.message = .tunnel false (decide (x.sent + 1 = (x.out.length + 3) / 4)) x.sent
            ((x.out.drop (4 * x.sent)).take 4))
      ∧ (x.collecting = false → (x.out.length + 3) / 4 ≤ x.sent → 1 ≤ x.count →
        t.rings.mail.get p = some { x with count := x.count + 1, collecting := true, poll := 0, reply := [] }
        ∧ y.message = (if t.expected x.cell then .tunnel true false 0 [] else .none))
      ∧ (x.collecting = true → 1 ≤ x.count →
        t.rings.mail.get p = some { x with count := x.count + 1 }
        ∧ y.message = (if t.expected x.cell then .tunnel true false x.poll [] else .none)))
  ∧ ∀ (seen : SlotSeen) (r : Response) (x : Exchange) (final : Bool) (seq : BitVec 2) (length : BitVec 3)
      (data : List Byte) (s : State),
    Quiet s → s.seq.state = .ready → Answers x.cell seen r s → (s.cell x.cell).link = .enrolled →
    r.message = .tunnel final seq length data → r.classCode = 0 → insideWindow s.store.image r.dc = true →
    s.rings.mail.get (phaseOf x.cell) = some x →
    ∃ t : State, exec (.slotEnd x.cell seen) s = .next t
      ∧ ((x.collecting = false ∨ 4 < length.toNat ∨ seq.toNat ≠ x.poll) →
        t.rings = s.rings ∧ t.link = s.link)
      ∧ (x.collecting = true → length.toNat ≤ 4 → seq.toNat = x.poll →
        (16 < x.reply.length + length.toNat →
          t.rings.mail.get (phaseOf x.cell) = none
          ∧ t.link.replies = s.link.replies
            ++ [replyRecord 0x13 x.tag .malformed (BitVec.ofNat 8 x.reply.length :: x.reply)])
        ∧ ∀ taken : List Byte, taken = x.reply ++ data.take length.toNat → x.reply.length + length.toNat ≤ 16 →
          (final = true →
            t.rings.mail.get (phaseOf x.cell) = none
            ∧ t.link.replies = s.link.replies
              ++ [replyRecord 0x13 x.tag .ok (BitVec.ofNat 8 taken.length :: taken)])
          ∧ (final = false → x.poll = 3 →
            t.rings.mail.get (phaseOf x.cell) = none
            ∧ t.link.replies = s.link.replies
              ++ [replyRecord 0x13 x.tag .malformed (BitVec.ofNat 8 taken.length :: taken)])
          ∧ (final = false → x.poll ≠ 3 →
            t.rings.mail.get (phaseOf x.cell) = some { x with reply := taken, poll := x.poll + 1 }
            ∧ t.link = s.link))

/-- The readouts, taken in every mode (R162, R172, R173, R174): READ_STATUS clears the overrun flag; READ_CELL clears the
cell's flags and withdraws its notice, with the record as it stood; READ_CAMPAIGN and READ_SETTINGS change nothing. Their
bodies (R177, R178): the 30 bytes of a READ_STATUS reply, the 40 of a campaign record, the 54 of a cell record and the parts
of Table 10-3, each field in the bytes that Tables 12-4 to 12-6 give it where its value fits them, with an absent part in
zeros; the codes that number each list of names from 1; and the bits that number the report flags by the rows of Table 1-6
and the fault classes by their codes. Of an attempt history longer than 8, which only a storage fault brings about, part 9
keeps its 36 bytes and a count of at most 8, whatever the free values of log entry 47. -/
def Obligations.ReadoutsReport : Prop :=
  (∀ (tag : Byte) (s : State), Ready s →
    exec (.readStatus tag) s
      = .next (pump (pushReply 0x15 tag .ok (statusBytes s) { s with notices.overrun := false }))
    ∧ (∀ (number : Byte) (c : CellRef), s.named number = some c →
      exec (.readCell tag number) s = .next (pump (pushReply 0x16 tag .ok (cellRecordBytes s c)
        (withdrawNotice c (s.modCell c fun x => { x with flags := 0 })))))
    ∧ (∀ part : Byte,
      (∀ body, campaignPart s part = some body →
        exec (.readCampaign tag part) s = .next (replyOnly 0x17 tag .ok body s))
      ∧ (campaignPart s part = none ↔ 9 < part.toNat)
      ∧ (9 < part.toNat → exec (.readCampaign tag part) s = .next (replyOnly 0x17 tag .range [] s)))
    ∧ ∀ part : Byte,
      (∀ body, settingsPart s part = some body →
        exec (.readSettings tag part) s = .next (replyOnly 0x18 tag .ok body s))
      ∧ (settingsPart s part = none ↔ 2 < part.toNat)
      ∧ (2 < part.toNat → exec (.readSettings tag part) s = .next (replyOnly 0x18 tag .range [] s)))
  ∧ (∀ s : State, (statusBytes s).length = 30
    ∧ ∀ f ∈ ([(0, 1, s.store.mode.code.toNat),
        (1, 1, (s.store.selfTest.map fun m => (Phase.code m.ring).toNat).getD 0),
        (2, 1, s.seq.state.code.toNat), (3, 1, (s.seq.tripCause.map fun c => c.code.toNat).getD 0),
        (4, 1, s.seq.heldHalt.toNat), (5, 2, (s.seq.campaign.map Campaign.number).getD 0),
        (7, 1, (s.seq.campaign.map fun k => k.kind.code.toNat).getD 0),
        (8, 1, ((s.seq.campaign.bind Campaign.style).map fun x => x.code.toNat).getD 0),
        (9, 1, (s.seq.campaign.map Campaign.iteration).getD 0),
        (10, 1, (s.seq.campaign.map fun _ => s.seq.state.code.toNat).getD 0),
        (11, 1, (s.seq.campaign.map fun k => k.set.length).getD 0),
        (12, 1, (s.plans.inForce.map fun p => p.tag.toNat).getD 0), (13, 1, (s.plans.inForce.map Plan.m).getD 0),
        (14, 2, (s.plans.inForce.map Plan.voltage).getD 0), (16, 2, (s.plans.inForce.map Plan.speed).getD 0),
        (18, 2, s.seq.scale),
        (20, 1, s.lock.holdReq.toNat + 2 * s.lock.trip.toNat + 4 * s.lock.driveRun.level.toNat
          + 8 * s.lock.brakeSet.level.toNat),
        (21, 1, s.seq.attempts.length), (22, 1, s.store.results.a.code.toNat), (23, 1, s.store.results.b.code.toNat),
        (24, 1, s.store.results.c.code.toNat), (25, 2, s.link.frameErrors), (27, 1, s.notices.urgent.length),
        (28, 1, s.notices.cells.length), (29, 1, s.notices.overrun.toNat)] : List (Nat × Nat × Nat)),
      f.2.2 < 256 ^ f.2.1 → byteField (statusBytes s) f.1 f.2.1 = f.2.2)
  ∧ (campaignBytes none = List.replicate 40 0
    ∧ ∀ r : CampaignRecord, r.set.length ≤ 24 → (campaignBytes (some r)).length = 40
      ∧ (∀ f ∈ ([(0, 2, r.number), (2, 1, r.kind.code.toNat), (3, 1, (r.style.map fun x => x.code.toNat).getD 0),
          (4, 1, r.iteration), (5, 1, r.set.length), (30, 4, r.opened.toNat), (34, 1, r.state.code.toNat),
          (35, 1, r.pendingTag.isSome.toNat), (36, 1, (r.pendingTag.map BitVec.toNat).getD 0),
          (37, 1, r.issue.getD 0), (38, 1, (r.outcome.map fun o => o.code.toNat).getD 0),
          (39, 1, ((r.outcome.bind CampaignOutcome.cause).map fun c => c.code.toNat).getD 0)]
            : List (Nat × Nat × Nat)),
        f.2.2 < 256 ^ f.2.1 → byteField (campaignBytes (some r)) f.1 f.2.1 = f.2.2)
      ∧ ∀ j : Nat, j < 24 → r.set.getD j 0 < 256 → byteField (campaignBytes (some r)) (6 + j) 1 = r.set.getD j 0)
  ∧ (∀ (s : State) (c : CellRef) (x : Cell), x = s.cell c → (cellRecordBytes s c).length = 54
    ∧ (∀ f ∈ ([(0, 1, numberOf s.store.image c), (1, 1, 16 * ((phaseOf c).index + 1) + positionOf c),
        (2, 1, x.service.code.toNat), (3, 1, x.link.code.toNat),
        (4, 1, 128 * x.ability.isSome.toNat + 64 * x.report.isSome.toNat + 32 * x.fault.isSome.toNat
          + 16 * x.offset.isSome.toNat + 8 * x.severStamp.isSome.toNat + 4 * x.rejectCause.isSome.toNat
          + 2 * x.degradedArmed.toNat + x.suspect.toNat),
        (5, 2, x.flags.toNat), (7, 1, x.strikes), (8, 4, x.activeTime), (12, 3, x.offset.getD 0),
        (15, 1, x.reportAge), (16, 1, x.missCount), (17, 1, x.goodRun), (18, 1, x.unsteadyCount),
        (19, 8, (x.ability.map fun a => natOfBytes (abilityBytes a)).getD 0),
        (27, 1, (x.report.map fun r => 16 * r.gate.toNat + r.bypass.toNat).getD 0),
        (28, 1, (x.report.map fun r => r.classCode.toNat).getD 0),
        (29, 1, (x.report.map fun r => r.detail.toNat).getD 0), (30, 2, (x.report.map Report.dc).getD 0),
        (32, 1, (x.report.map fun r => r.tag.toNat).getD 0), (33, 4, (x.report.map fun r => r.stamp.toNat).getD 0),
        (37, 1, (x.fault.map fun f => f.first.code).getD 0), (38, 1, (x.fault.map fun f => f.detail.toNat).getD 0),
        (39, 4, (x.fault.map fun f => f.stamp.toNat).getD 0),
        (43, 2, (x.fault.map fun f => f.further.toNat + 8192 * f.reenrolled.toNat + 16384 * f.blind.toNat
          + 32768 * (decide (f.kind = .hard)).toNat).getD 0)] : List (Nat × Nat × Nat)),
      f.2.2 < 256 ^ f.2.1 → byteField (cellRecordBytes s c) f.1 f.2.1 = f.2.2)
    ∧ (∀ v : Stamp, x.severStamp = some v → byteField (cellRecordBytes s c) 45 4 = v.toNat
      ∧ byteField (cellRecordBytes s c) 49 5 = 0)
    ∧ (∀ cause : RejectCause, x.severStamp = none → x.rejectCause = some cause →
      byteField (cellRecordBytes s c) 45 1 = cause.code.toNat
      ∧ byteField (cellRecordBytes s c) 46 8 = (x.heldAbility.map fun a => natOfBytes (abilityBytes a)).getD 0)
    ∧ (x.severStamp = none → x.rejectCause = none → byteField (cellRecordBytes s c) 45 9 = 0))
  ∧ (∀ a : Ability, abilityBytes a = bytes32 a.serial ++ bytes16 a.ratedDc
      ++ [BitVec.ofNat 8 (16 * a.cellClass.toNat + 2 * (decide (a.bypassKind = .thyristor)).toNat
            + a.halfRateCapable.toNat),
          BitVec.ofNat 8 (16 * a.firmwareMajor.toNat + a.firmwareMinor.toNat)])
  ∧ (∀ s : State, s.seq.history.length < 256 →
    campaignPart s 0 = some ((if s.seq.campaign.isSome then 1 else 0)
      :: campaignBytes (s.seq.campaign.map fun k => {
          number := k.number, kind := k.kind, style := k.style, iteration := k.iteration,
          set := k.set.map (numberOf s.store.image), opened := k.opened, state := s.seq.state,
          pendingTag := k.pendingTag, issue := k.issue, outcome := none })
      ++ [BitVec.ofNat 8 s.seq.history.length])
    ∧ ∀ k : Nat, 1 ≤ k → k ≤ 8 →
      campaignPart s (BitVec.ofNat 8 k) = some ((if k ≤ s.seq.history.length then 1 else 0)
        :: campaignBytes (if k ≤ s.seq.history.length then s.seq.history[s.seq.history.length - k]? else none)
        ++ [BitVec.ofNat 8 s.seq.history.length]))
  ∧ (∀ s : State, ∃ body, campaignPart s 9 = some body ∧ body.length = 36 ∧ byteField body 0 1 ≤ 8
    ∧ (s.seq.attempts.length ≤ 8 →
      byteField body 0 1 = s.seq.attempts.length
      ∧ ∀ j : Nat, j < 8 → byteField body (1 + 4 * j) 4 = ((s.seq.attempts[j]?).map BitVec.toNat).getD 0)
    ∧ byteField body 33 1 = cfgAttemptBudget s.store.image ∧ byteField body 34 2 = cfgAttemptWindow s.store.image)
  ∧ (∀ s : State,
    settingsPart s 0 = some (s.store.image.take 48
      ++ (if s.store.frozen then 1 else 0) :: bytes16 (s.store.storedCrc.getD 0))
    ∧ settingsPart s 1 = some ((s.store.image.drop 48).take 48
      ++ (if s.store.frozen then 1 else 0) :: bytes16 (s.store.storedCrc.getD 0))
    ∧ settingsPart s 2 = some ((s.store.image.drop 96).take 29
      ++ (if s.store.frozen then 1 else 0) :: bytes16 (s.store.storedCrc.getD 0)))
  ∧ [ReportFlag.stateChanged, .faultSeen, .degraded, .suspect, .severed, .relinkReady, .overrun, .enrolled, .rejected,
      .unsteady].map ReportFlag.mask = [1, 2, 4, 8, 16, 32, 64, 128, 256, 512]
  ∧ [FaultClass.overcurrent, .dcOvervolt, .dcUndervolt, .overtemp, .gateDriver, .internal, .bypassFail, .linkLost,
      .dcWindow, .noGateOff, .planNoAck].map FaultClass.mask = [1, 2, 4, 8, 16, 32, 64, 128, 256, 512, 1024]
  ∧ [Mode.config, .standby, .service].map Mode.code = [1, 2, 3]
  ∧ [SeqState.off, .ready, .block, .isolate, .plan, .rephase, .awaitResume, .ramp, .tripped, .locked].map SeqState.code
    = [1, 2, 3, 4, 5, 6, 7, 8, 9, 10]
  ∧ [Service.vacant, .awaiting, .reserve, .active, .faulted, .bypassed, .lockedOut].map Service.code
    = [1, 2, 3, 4, 5, 6, 7]
  ∧ [LinkState.dark, .confirm, .trial, .enrolled, .severed, .rejected, .unsteady].map LinkState.code
    = [1, 2, 3, 4, 5, 6, 7]
  ∧ [FaultClass.overcurrent, .dcOvervolt, .dcUndervolt, .overtemp, .gateDriver, .internal, .bypassFail, .linkLost,
      .dcWindow, .noGateOff, .planNoAck].map FaultClass.code = [1, 2, 3, 4, 5, 6, 7, 8, 9, 10, 11]
  ∧ [TripCause.settingsCorrupt, .bypassFail, .bypassTimeout, .blindRefused, .tooFewCells, .iterationLimit,
      .brakeNoConfirm, .resumeTimeout].map TripCause.code = [1, 2, 3, 4, 5, 6, 7, 8]
  ∧ [CampaignKind.start, .fault, .replan, .recover].map CampaignKind.code = [1, 2, 3, 4]
  ∧ [Style.stopped, .running, .held].map Style.code = [1, 2, 3]
  ∧ ([CampaignOutcome.completed, .abandoned, .refused].map CampaignOutcome.code = [1, 3, 4]
    ∧ ∀ c, (CampaignOutcome.tripped c).code = 2)
  ∧ [RejectCause.ratedDc, .halfRate].map RejectCause.code = [1, 2]
  ∧ [TestResult.untested, .pass, .fail].map TestResult.code = [1, 2, 3]
  ∧ [ModeCause.freeze, .unfreeze, .go, .goRefused, .haltAtOnce, .haltHeld, .selfTest].map ModeCause.code
    = [1, 2, 3, 4, 5, 6, 7]
  ∧ [Phase.a, .b, .c].map Phase.code = [1, 2, 3]
  ∧ [ReplyCode.ok, .accepted, .wrongMode, .wrongState, .busy, .range, .unknown, .malformed, .notAtRest, .notLinked,
      .notRepaired, .campaignActive, .notHeld, .staleStatus, .aboveCeiling, .disabled, .timeout, .aborted, .ringFailed,
      .settingsCorrupt].map ReplyCode.code = [1, 2, 3, 4, 5, 6, 7, 8, 9, 10, 11, 12, 13, 14, 15, 16, 17, 18, 19, 20]

/-- ATTENTION_SCAN (R171): of the cells with report flags, the one that comes first when the numbers are examined from the scan
position plus 1 up to 24 and then from 1; its number becomes the position and nothing is cleared; with no such cell the
result is NONE and nothing changes. -/
def Obligations.AttentionScanFindsTheNextCell : Prop :=
  ∀ (tag : Byte) (s : State), Ready s → s.notices.scan ≤ 24 →
    ((∀ (n : Nat) (c : CellRef), s.named (BitVec.ofNat 8 n) = some c → (s.cell c).flags = 0) →
      exec (.attentionScan tag) s = .next (replyOnly 0x19 tag .ok [0, 0, 0] s))
    ∧ ∀ (n : Nat) (c : CellRef), 1 ≤ n → n ≤ 24 → s.named (BitVec.ofNat 8 n) = some c → (s.cell c).flags ≠ 0 →
      (∀ (m : Nat) (d : CellRef), 1 ≤ m → m ≤ 24 → s.named (BitVec.ofNat 8 m) = some d → (s.cell d).flags ≠ 0 →
        (n + 23 - s.notices.scan) % 24 ≤ (m + 23 - s.notices.scan) % 24) →
      exec (.attentionScan tag) s = .next (pump (pushReply 0x19 tag .ok
        (BitVec.ofNat 8 n :: bytes16 ((s.cell c).flags.setWidth 16)) { s with notices.scan := n }))

/-- HOIST_STATUS in every mode (R121): a zone code that names no zone is RANGE and the record is kept; otherwise the whole
record is replaced, its speed clamped, stamped now and fresh. The zone codes 1 to 4 are STATION, CREEP, APPROACH and
MID_SHAFT, and every other code names none (Table 12-1). -/
def Obligations.HoistStatusReplacesTheRecord : Prop :=
  (∀ code : Byte, zoneOfCode code = if code = 1 then some .station else if code = 2 then some .creep
    else if code = 3 then some .approach else if code = 4 then some .midShaft else none)
  ∧ ∀ (tag : Byte) (speed : BitVec 16) (zone : Byte) (s : State), Ready s →
    (zoneOfCode zone = none → exec (.hoistStatus tag speed zone) s = .next (replyOnly 0x14 tag .range [] s))
    ∧ ∀ z : Zone, zoneOfCode zone = some z →
      exec (.hoistStatus tag speed zone) s = .next (pump (pushReply 0x14 tag .ok [] { s with
        lock.hoist := some {
          speed := max (-20000) (min 20000 speed.toInt), zone := z, stamp := s.gen.timebase, fresh := true } }))

/-- RESTART at its dispatch, in every mode (R163): the exchanges in flight end ABORTED in ring order, then OK, then the
RESTART-pending marker; everything else runs on unchanged. -/
def Obligations.RestartAnswersAndPends : Prop :=
  ∀ (tag : Byte) (s : State), Ready s →
    exec (.restart tag) s = .next (pump { s with
      rings.mail := ⟨none, none, none⟩
      link.replies := s.link.replies
        ++ (phases.filterMap fun p => s.rings.mail.get p).map (fun x => replyRecord 0x13 x.tag .aborted [])
        ++ [replyRecord 0x1A tag .ok []]
      link.restartPending := true })

/-! ### The restart sequencer -/

/-- HALT (R100, R21, R43, R45): held, with ACCEPTED, while a campaign is in one of its stages; otherwise it takes effect at
once: OFF, STANDBY, no plan, links DARK, working cells AWAITING, HOLD_REQ asserted, and the histories, the trip cause, the
TRIP latch, the settings and the fault queue kept. A held HALT takes effect in the same way at the close of the campaign, in
place of the state the close would have entered: at a trip, which leaves TRIP asserted and its cause kept; at the last ramp
step; where DRIVE_RUN is withdrawn in AWAIT_RESUME or RAMP; and at the confirmation of a STOPPED campaign's plan. At once it
is replied OK after the ABORTED replies of the exchanges it ends (R42), and posts the CAMPAIGN notice of OFF and then a MODE
notice (R166). It rests on the model's reading in log entries 4, 5, 7, 8, 12, 15, 40, 41 and 51. -/
def Obligations.HaltIsHeldOrTakesEffect : Prop :=
  (∀ (tag : Byte) (s : State), Ready s → s.store.mode = .service →
    ((s.seq.state ≠ .ready ∧ s.seq.state ≠ .tripped ∧ s.seq.state ≠ .locked) →
      exec (.halt tag) s = .next (pump (pushReply 0x0A tag .accepted [] { s with seq.heldHalt := true })))
    ∧ ((s.seq.state = .ready ∨ s.seq.state = .tripped ∨ s.seq.state = .locked) →
      ∃ t : State, exec (.halt tag) s = .next t
        ∧ t.store = { s.store with mode := .standby }
        ∧ t.seq.state = .off ∧ t.seq.scale = 0 ∧ t.seq.heldHalt = false
        ∧ t.seq.history = s.seq.history ∧ t.seq.attempts = s.seq.attempts ∧ t.seq.lastTag = s.seq.lastTag
        ∧ t.seq.lastNumber = s.seq.lastNumber ∧ t.seq.tripCause = s.seq.tripCause
        ∧ t.plans = { pending := none, inForce := none } ∧ t.queue = s.queue
        ∧ t.rings.lit = s.rings.lit ∧ t.rings.healthOn = false ∧ t.gen = s.gen ∧ t.pending = s.pending
        ∧ (s.seq.state = .ready → t.rings.mail = ⟨none, none, none⟩
          ∧ Replies s t (abortedReplies s ++ [replyRecord 0x0A tag .ok []]))
        ∧ (s.rings.mail = ⟨none, none, none⟩ → Replies s t [replyRecord 0x0A tag .ok []])
        ∧ Posts s t ([.campaign .off s.seq.tripCause none, .mode .standby .haltAtOnce none] ++ lineChange s t)
        ∧ t.lock.trip = s.lock.trip ∧ t.lock.holdReq = true ∧ t.lock.hoist = s.lock.hoist
        ∧ t.lock.driveRun = s.lock.driveRun ∧ t.lock.brakeSet = s.lock.brakeSet
        ∧ ∀ d : CellRef,
          (t.cell d).service = (if (s.cell d).service.working then .awaiting else (s.cell d).service)
          ∧ (t.cell d).flags = (if (s.cell d).service.working then (s.cell d).flags ||| ReportFlag.stateChanged.mask
              else (s.cell d).flags)
          ∧ ((s.cell d).service.working = true → (t.cell d).offset = none)
          ∧ (t.cell d).link = .dark ∧ (t.cell d).missCount = 0 ∧ (t.cell d).goodRun = 0
          ∧ (t.cell d).unsteadyCount = 0 ∧ (t.cell d).dcDebounce = 0
          ∧ (t.cell d).ability = (s.cell d).ability ∧ (t.cell d).report = (s.cell d).report
          ∧ (t.cell d).fault = (s.cell d).fault ∧ (t.cell d).strikes = (s.cell d).strikes
          ∧ (t.cell d).activeTime = (s.cell d).activeTime ∧ (t.cell d).reportAge = (s.cell d).reportAge))
  ∧ ∀ (s : State) (k : Campaign) (c : Instr) (style : Option Style) (outcome : CampaignOutcome) (confirmed : Bool),
    Quiet s → s.seq.heldHalt = true → s.seq.campaign = some k →
    ((∃ b, c = .resumeTimerExpiry ∧ style = k.style ∧ outcome = .tripped .resumeTimeout ∧ s.seq.state = .awaitResume
        ∧ s.lock.resumeTimer = some b ∧ cfgResumeTimeout s.store.image * 1000 ≤ (s.gen.timebase - b).toNat
        ∧ confirmed = false)
      ∨ (∃ b, c = .brakeConfirmExpiry ∧ style = k.style ∧ outcome = .tripped .brakeNoConfirm
        ∧ s.seq.state ∈ [SeqState.block, .isolate, .plan, .rephase, .awaitResume, .ramp]
        ∧ s.lock.brakeConfirm = some b ∧ cfgBrakeConfirm s.store.image * 1000 ≤ (s.gen.timebase - b).toNat
        ∧ confirmed = false)
      ∨ (∃ b, c = .driveRunQualified ∧ style = some .stopped ∧ outcome = .completed
        ∧ (k.style = some .running ∨ k.style = some .held) ∧ (s.seq.state = .awaitResume ∨ s.seq.state = .ramp)
        ∧ s.lock.driveRun.change = some b ∧ 1000 ≤ (s.gen.timebase - b).toNat ∧ s.lock.driveRun.level = true
        ∧ confirmed = false)
      ∨ ((c = .cycleStart none ∨ c = .rampComplete) ∧ style = k.style ∧ outcome = .completed ∧ s.seq.state = .ramp
        ∧ 0 < cfgRampTime s.store.image
        ∧ 1024 ≤ (s.lock.rampCount + 1) * 1024 * cfgCyclePeriod s.store.image / (cfgRampTime s.store.image * 1000)
        ∧ confirmed = false)
      ∨ (∃ p r, (c = .cycleStart none ∨ c = .epochCheck) ∧ style = k.style ∧ outcome = .completed
        ∧ s.seq.state = .rephase ∧ k.style = some .stopped ∧ s.plans.pending = some p ∧ s.seq.rephase = some r
        ∧ r.epoch = s.gen.cycle + 1 ∧ planConfirmed s p = true ∧ confirmed = true)) →
    ∃ t : State, exec c s = .next t
      ∧ t.store = { s.store with mode := .standby, selfTest := t.store.selfTest }
      ∧ t.seq.state = .off ∧ t.seq.scale = 0 ∧ t.seq.heldHalt = false ∧ t.seq.campaign = none
      ∧ t.seq.history = historyWith s (closedWith s { k with style := style } outcome)
      ∧ t.seq.attempts = s.seq.attempts ∧ t.seq.lastTag = s.seq.lastTag ∧ t.seq.lastNumber = s.seq.lastNumber
      ∧ (∀ cause, outcome = .tripped cause → t.seq.tripCause = some cause ∧ t.lock.trip = true)
      ∧ (outcome = .completed → t.seq.tripCause = s.seq.tripCause ∧ t.lock.trip = s.lock.trip)
      ∧ t.plans = { pending := none, inForce := none } ∧ t.queue = s.queue ∧ t.rings.healthOn = false
      ∧ t.lock.holdReq = true ∧ t.lock.holdMark = false ∧ t.lock.resumeTimer = none ∧ t.lock.brakeConfirm = none
      ∧ t.lock.rideThrough = none ∧ t.lock.rampCount = 0 ∧ t.lock.hoist = s.lock.hoist ∧ t.pending = s.pending
      ∧ ∀ d : CellRef,
        (t.cell d).link = .dark ∧ (t.cell d).missCount = 0 ∧ (t.cell d).goodRun = 0 ∧ (t.cell d).unsteadyCount = 0
        ∧ (t.cell d).dcDebounce = 0 ∧ (t.cell d).service.working = false
        ∧ (confirmed = false →
          (t.cell d).service = (if (s.cell d).service.working then .awaiting else (s.cell d).service))
        ∧ (t.cell d).fault = (s.cell d).fault ∧ (t.cell d).strikes = (s.cell d).strikes
        ∧ (t.cell d).ability = (s.cell d).ability ∧ (t.cell d).report = (s.cell d).report

/-- ACK_TRIP and CLEAR_LOCKOUT in STANDBY clear TRIP and the trip cause, with a LINES notice where the line changes;
CLEAR_LOCKOUT also empties the attempt history; nothing else changes (R85, R99, R130). -/
def Obligations.TripIsClearedInStandby : Prop :=
  ∀ (tag : Byte) (s : State), Ready s → s.store.mode = .standby →
    (s.lock.trip = false →
      exec (.ackTrip tag) s = .next (pump (pushReply 0x0C tag .ok [] { s with seq.tripCause := none }))
      ∧ exec (.clearLockout tag) s
        = .next (pump (pushReply 0x0D tag .ok [] { s with seq.tripCause := none, seq.attempts := [] })))
    ∧ (s.lock.trip = true →
      exec (.ackTrip tag) s = .next (pump (pushReply 0x0C tag .ok []
        (postUrgent (.lines s.lock.holdReq false s.lock.driveRun.level s.lock.brakeSet.level)
          { s with seq.tripCause := none, lock.trip := false })))
      ∧ exec (.clearLockout tag) s = .next (pump (pushReply 0x0D tag .ok []
        (postUrgent (.lines s.lock.holdReq false s.lock.driveRun.level s.lock.brakeSet.level)
          { s with seq.tripCause := none, seq.attempts := [], lock.trip := false }))))

/-- ACK_TRIP in TRIPPED and CLEAR_LOCKOUT in LOCKED, in SERVICE (R85, R99, R73, R79, R86): in another state WRONG_STATE, not
at rest NOT_AT_REST; at rest TRIP and its cause are cleared and a RECOVER campaign opens in BLOCK with the fault queue as its
set, style STOPPED, its hold mark set. Where the settings CRC differs from the stored one, the BLOCK entry trips
SETTINGS_CORRUPT: the record closes TRIPPED with no style decided, and the sequencer is TRIPPED again (R86). Either is
replied OK; the clearing of TRIP posts a LINES notice, and the CAMPAIGN notice of BLOCK follows it (R75, R175). It rests on
the model's reading in log entries 4, 5, 12, 13, 14 and 15. -/
def Obligations.RecoverCampaignOpens : Prop :=
  ∀ (tag : Byte) (s : State) (c : Instr) (code : Byte) (st : SeqState), Ready s → s.store.mode = .service →
    ((c = .ackTrip tag ∧ code = 0x0C ∧ st = .tripped) ∨ (c = .clearLockout tag ∧ code = 0x0D ∧ st = .locked)) →
    (s.seq.state ≠ st → exec c s = .next (replyOnly code tag .wrongState [] s))
    ∧ (s.seq.state = st → (s.lock.driveRun.level = true ∨ s.lock.brakeSet.level = false) →
      exec c s = .next (replyOnly code tag .notAtRest [] s))
    ∧ (s.seq.state = st → s.lock.driveRun.level = false → s.lock.brakeSet.level = true →
      s.store.storedCrc = some (crc16 s.store.image) →
      ∃ t : State, exec c s = .next t
        ∧ t.seq.state = .block ∧ t.seq.scale = 0 ∧ t.seq.tripCause = none
        ∧ t.seq.campaign = some {
            number := numberAfter s.seq.lastNumber, kind := .recover, style := some .stopped, iteration := 1,
            set := s.queue.map QueueEntry.cell, opened := s.gen.timebase, pendingTag := none, issue := none }
        ∧ t.seq.lastNumber = numberAfter s.seq.lastNumber
        ∧ t.seq.watch = some { cells := watchedCells s, starts := 0 }
        ∧ t.seq.attempts = (if st = .locked then [] else s.seq.attempts) ∧ t.seq.history = s.seq.history
        ∧ t.lock.trip = false ∧ t.lock.holdMark = true ∧ t.lock.holdReq = true
        ∧ Replies s t [replyRecord code tag .ok []]
        ∧ (∀ k : Campaign, t.seq.campaign = some k →
          Posts s t ((if s.lock.trip = true then
              [.lines s.lock.holdReq false s.lock.driveRun.level s.lock.brakeSet.level] else [])
            ++ [.campaign .block none (some (recordAt s k .block))]
            ++ if s.lock.holdReq = true then [] else
              [.lines true false s.lock.driveRun.level s.lock.brakeSet.level]))
        ∧ (∀ d : CellRef, t.cell d = { s.cell d with isolation := none })
        ∧ t.queue = s.queue ∧ t.plans = s.plans ∧ t.store = s.store ∧ t.rings = s.rings ∧ t.gen = s.gen
        ∧ t.pending = s.pending)
    ∧ (s.seq.state = st → s.lock.driveRun.level = false → s.lock.brakeSet.level = true → s.seq.heldHalt = false →
      s.store.storedCrc ≠ some (crc16 s.store.image) →
      ∃ t : State, exec c s = .next t
        ∧ CorruptTrip s t .recover 1 none (s.queue.map QueueEntry.cell) (numberAfter s.seq.lastNumber) s.gen.timebase
        ∧ t.seq.lastNumber = numberAfter s.seq.lastNumber
        ∧ t.seq.attempts = (if st = .locked then [] else s.seq.attempts) ∧ t.queue = s.queue
        ∧ (∀ d : CellRef, t.cell d = { s.cell d with isolation := none })
        ∧ Replies s t [replyRecord code tag .ok []] ∧ t.rings = s.rings ∧ t.pending = s.pending)

/-- REBALANCE in SERVICE (R80): CAMPAIGN_ACTIVE where the sequencer is not READY, NOT_AT_REST where the drive is not;
otherwise a REPLAN campaign opens in BLOCK, the exchanges in flight end, and the attempt history is not charged (R42, R79).
Where the settings CRC differs from the stored one, the BLOCK entry trips SETTINGS_CORRUPT and the record closes TRIPPED with
no style decided (R86). It is replied OK after the ABORTED replies of the exchanges it ends (R42), and posts the CAMPAIGN
notice of BLOCK (R75). It rests on the model's reading in log entries 4, 5, 12, 13, 15, 40 and 41. -/
def Obligations.RebalanceOpensAReplan : Prop :=
  ∀ (tag : Byte) (s : State), Ready s → s.store.mode = .service →
    (s.seq.state ≠ .ready → exec (.rebalance tag) s = .next (replyOnly 0x10 tag .campaignActive [] s))
    ∧ (s.seq.state = .ready → (s.lock.driveRun.level = true ∨ s.lock.brakeSet.level = false) →
      exec (.rebalance tag) s = .next (replyOnly 0x10 tag .notAtRest [] s))
    ∧ (s.seq.state = .ready → s.lock.driveRun.level = false → s.lock.brakeSet.level = true →
      s.store.storedCrc = some (crc16 s.store.image) →
      ∃ t : State, exec (.rebalance tag) s = .next t
        ∧ t.seq.state = .block ∧ t.seq.scale = 0
        ∧ t.seq.campaign = some {
            number := numberAfter s.seq.lastNumber, kind := .replan, style := some .stopped, iteration := 1,
            set := s.queue.map QueueEntry.cell, opened := s.gen.timebase, pendingTag := none, issue := none }
        ∧ t.seq.lastNumber = numberAfter s.seq.lastNumber
        ∧ t.seq.watch = some { cells := watchedCells s, starts := 0 }
        ∧ t.seq.attempts = s.seq.attempts ∧ t.seq.history = s.seq.history
        ∧ t.lock.holdMark = false ∧ t.lock.trip = s.lock.trip ∧ t.lock.holdReq = holdAfterDemand s
        ∧ t.rings.mail = ⟨none, none, none⟩
        ∧ Replies s t (abortedReplies s ++ [replyRecord 0x10 tag .ok []])
        ∧ (∀ k : Campaign, t.seq.campaign = some k →
          Posts s t ([.campaign .block s.seq.tripCause (some (recordAt s k .block))] ++ lineChange s t))
        ∧ (∀ d : CellRef, t.cell d = { s.cell d with isolation := none })
        ∧ t.queue = s.queue ∧ t.plans = s.plans ∧ t.store = s.store ∧ t.gen = s.gen ∧ t.pending = s.pending)
    ∧ (s.seq.state = .ready → s.lock.driveRun.level = false → s.lock.brakeSet.level = true → s.seq.heldHalt = false →
      s.store.storedCrc ≠ some (crc16 s.store.image) →
      ∃ t : State, exec (.rebalance tag) s = .next t
        ∧ CorruptTrip s t .replan 1 none (s.queue.map QueueEntry.cell) (numberAfter s.seq.lastNumber) s.gen.timebase
        ∧ t.seq.lastNumber = numberAfter s.seq.lastNumber ∧ t.seq.attempts = s.seq.attempts ∧ t.queue = s.queue
        ∧ (∀ d : CellRef, t.cell d = { s.cell d with isolation := none })
        ∧ Replies s t (abortedReplies s ++ [replyRecord 0x10 tag .ok []])
        ∧ t.rings.mail = ⟨none, none, none⟩ ∧ t.pending = s.pending)

/-- The four timers whose expiry trips the sequencer (R89, R90, R98, R127, R131): TRIPPED with the timer's cause, output
scale 0, the pending plan and every timer of the campaign dropped, the campaign closed TRIPPED into the history, TRIP and
HOLD_REQ asserted; the plan in force, the ACTIVE cells, the fault queue and the attempt history kept. That a bypass timer has
the timeout of the ability record as it stands is the model's choice (log entry 44). A BYPASS_FAIL reported in any state but
OFF, TRIPPED and LOCKED trips in the same way (R68): a working cell becomes FAULTED with its queue entry, and an AWAITING
cell's fault is not recorded, whatever its link state; it ends a trial of enrolment (R49, R50, R70). Each of these trips
posts its CAMPAIGN notice and, where a line changes, a LINES notice after it. It rests on the model's reading in log entries
7, 12, 15, 44, 51 and 54. -/
def Obligations.StageTimersTrip : Prop :=
  (∀ (s : State) (k : Campaign) (c : Instr) (cause : TripCause), Quiet s → s.seq.heldHalt = false →
    s.seq.campaign = some k →
    ((∃ d st a, c = .bypassTimerExpiry d ∧ cause = .bypassTimeout ∧ s.seq.state = .isolate
        ∧ (s.cell d).isolation = some (.bypass st) ∧ (s.cell d).ability = some a
        ∧ cfgBypassTimeout s.store.image a.bypassKind * 1000 ≤ (s.gen.timebase - st).toNat)
      ∨ (∃ d st, c = .blindWaitExpiry d ∧ cause = .blindRefused ∧ s.seq.state = .isolate
        ∧ (s.cell d).isolation = some (.blind st) ∧ cfgBlindWait s.store.image * 1000 ≤ (s.gen.timebase - st).toNat
        ∧ cfgBlindAssume s.store.image = false)
      ∨ (∃ st, c = .brakeConfirmExpiry ∧ cause = .brakeNoConfirm ∧ s.lock.brakeConfirm = some st
        ∧ cfgBrakeConfirm s.store.image * 1000 ≤ (s.gen.timebase - st).toNat
        ∧ s.seq.state ∈ [SeqState.block, .isolate, .plan, .rephase, .awaitResume, .ramp])
      ∨ (∃ st, c = .resumeTimerExpiry ∧ cause = .resumeTimeout ∧ s.lock.resumeTimer = some st
        ∧ cfgResumeTimeout s.store.image * 1000 ≤ (s.gen.timebase - st).toNat
        ∧ s.seq.state = .awaitResume)) →
    ∃ t : State, exec c s = .next t
      ∧ t.seq.state = .tripped ∧ t.seq.tripCause = some cause ∧ t.seq.scale = 0 ∧ t.seq.campaign = none
      ∧ t.seq.history = historyWith s (closedWith s k (.tripped cause))
      ∧ Posts s t ([.campaign .tripped (some cause) (some (closedWith s k (.tripped cause)))] ++ lineChange s t)
      ∧ t.seq.attempts = s.seq.attempts ∧ t.seq.lastTag = s.seq.lastTag ∧ t.seq.lastNumber = s.seq.lastNumber
      ∧ t.plans = { pending := none, inForce := s.plans.inForce }
      ∧ t.lock.trip = true ∧ t.lock.holdReq = true ∧ t.lock.holdMark = false
      ∧ t.lock.rideThrough = none ∧ t.lock.brakeConfirm = none ∧ t.lock.resumeTimer = none ∧ t.lock.rampCount = 0
      ∧ t.lock.driveRun = s.lock.driveRun ∧ t.lock.brakeSet = s.lock.brakeSet ∧ t.lock.hoist = s.lock.hoist
      ∧ (∀ d : CellRef, t.cell d = { s.cell d with isolation := none })
      ∧ t.queue = s.queue ∧ t.store = s.store ∧ t.rings = s.rings ∧ t.gen = s.gen ∧ t.pending = s.pending)
  ∧ ∀ (c : CellRef) (seen : SlotSeen) (r : Response) (s : State), Quiet s → s.seq.heldHalt = false →
    Answers c seen r s → r.classCode = 7 → r.message = .none →
    ((s.cell c).link = .enrolled ∨ (s.cell c).service = .awaiting) →
    (s.seq.state ≠ .off ∧ s.seq.state ≠ .tripped ∧ s.seq.state ≠ .locked) →
    ∃ t : State, exec (.slotEnd c seen) s = .next t
      ∧ t.seq.state = .tripped ∧ t.seq.tripCause = some .bypassFail ∧ t.seq.scale = 0 ∧ t.seq.campaign = none
      ∧ (∀ k, s.seq.campaign = some k → t.seq.history = historyWith s (closedWith s k (.tripped .bypassFail)))
      ∧ (s.seq.campaign = none → t.seq.history = s.seq.history)
      ∧ t.seq.attempts = s.seq.attempts ∧ t.plans = { pending := none, inForce := s.plans.inForce }
      ∧ t.lock.trip = true ∧ t.lock.holdReq = true ∧ t.store = s.store ∧ t.gen = s.gen ∧ t.pending = s.pending
      ∧ (t.cell c).report = some (reportOf r s.gen.timebase) ∧ (t.cell c).reportAge = 0
      ∧ (∀ d : CellRef, d ≠ c → t.cell d = { s.cell d with isolation := none })
      ∧ ((s.cell c).service.working = true → insideWindow s.store.image r.dc = true →
        (t.cell c).service = .faulted ∧ (t.cell c).offset = none
        ∧ (t.cell c).fault = some {
            first := .bypassFail, detail := 0, stamp := s.gen.timebase, further := 0, kind := .hard, blind := false,
            reenrolled := false }
        ∧ t.queue = s.queue
          ++ [{ cell := c, first := .bypassFail, detail := 0, stamp := s.gen.timebase, further := 0 }])
      ∧ ((s.cell c).service = .awaiting →
        (t.cell c).service = .awaiting ∧ (t.cell c).fault = (s.cell c).fault ∧ t.queue = s.queue
        ∧ (t.cell c).strikes = (s.cell c).strikes
        ∧ ((s.cell c).link ≠ .trial → (s.cell c).link ≠ .severed →
          (t.cell c).link = (s.cell c).link ∧ (t.cell c).flags = (s.cell c).flags)
        ∧ ((s.cell c).link = .trial →
          (t.cell c).unsteadyCount = min 3 ((s.cell c).unsteadyCount + 1)
          ∧ (t.cell c).link = (if 2 ≤ (s.cell c).unsteadyCount then .unsteady else .dark)
          ∧ (t.cell c).flags = (if 2 ≤ (s.cell c).unsteadyCount then (s.cell c).flags ||| ReportFlag.unsteady.mask
              else (s.cell c).flags)))

/-- ISOLATE accepts a bypass (R13, R14, R71, R89, R90): one more strike, BYPASSED or LOCKED_OUT by the strike limit, the
queue entry gone; by the blind wait's expiry with blind assume on, with the blind flag set, and by a response of a linked
cell that shows CLOSED while its bypass timer runs, with no blind flag. While another cell of the set is still FAULTED,
ISOLATE goes on and no other cell changes; with the last one accepted, the sequencer goes on to PLAN, or trips TOO_FEW_CELLS
(R91, R92, R115). It rests on the model's reading in log entries 7, 18, 51 and 54. -/
def Obligations.BlindWaitAcceptsTheBypass : Prop :=
  (∀ (s : State) (k : Campaign) (c d : CellRef) (st : Stamp), Quiet s → s.seq.state = .isolate →
    s.seq.campaign = some k → (s.cell c).isolation = some (.blind st) →
    cfgBlindWait s.store.image * 1000 ≤ (s.gen.timebase - st).toNat → cfgBlindAssume s.store.image = true →
    d ≠ c → d ∈ k.set → (s.cell d).service = .faulted →
    ∃ t : State, exec (.blindWaitExpiry c) s = .next t
      ∧ (t.cell c).strikes = min 7 ((s.cell c).strikes + 1)
      ∧ (t.cell c).service
        = (if cfgStrikeLimit s.store.image ≤ min 7 ((s.cell c).strikes + 1) then .lockedOut else .bypassed)
      ∧ (t.cell c).fault = (s.cell c).fault.map (fun f => { f with blind := true })
      ∧ (t.cell c).isolation = none ∧ (t.cell c).offset = none
      ∧ t.queue = s.queue.filter (·.cell ≠ c)
      ∧ (∀ e : CellRef, e ≠ c → t.cell e = s.cell e)
      ∧ t.seq = s.seq ∧ t.lock = s.lock ∧ t.plans = s.plans ∧ t.store = s.store ∧ t.rings = s.rings ∧ t.gen = s.gen
      ∧ t.pending = s.pending)
  ∧ (∀ (s : State) (k : Campaign) (c d : CellRef) (st : Stamp) (seen : SlotSeen) (r : Response), Quiet s →
    s.seq.state = .isolate → s.seq.campaign = some k → s.seq.watch = none → (s.cell c).isolation = some (.bypass st) →
    (s.cell c).service = .faulted → (s.cell c).link = .enrolled → Answers c seen r s → r.classCode = 0 →
    r.message = .none → r.bypass = 1 → d ≠ c → d ∈ k.set → (s.cell d).service = .faulted →
    ∃ t : State, exec (.slotEnd c seen) s = .next t
      ∧ (t.cell c).strikes = min 7 ((s.cell c).strikes + 1)
      ∧ (t.cell c).service
        = (if cfgStrikeLimit s.store.image ≤ min 7 ((s.cell c).strikes + 1) then .lockedOut else .bypassed)
      ∧ (t.cell c).fault = (s.cell c).fault ∧ (t.cell c).isolation = none ∧ (t.cell c).offset = none
      ∧ (t.cell c).report = some (reportOf r s.gen.timebase) ∧ (t.cell c).reportAge = 0
      ∧ t.queue = s.queue.filter (·.cell ≠ c)
      ∧ (∀ e : CellRef, e ≠ c → t.cell e = s.cell e)
      ∧ t.seq = s.seq ∧ t.lock = s.lock ∧ t.plans = s.plans ∧ t.store = s.store ∧ t.rings = s.rings ∧ t.gen = s.gen
      ∧ t.pending = s.pending)
  ∧ ∀ (s : State) (k : Campaign) (c : CellRef) (st : Stamp) (e : Instr), Quiet s → s.seq.state = .isolate →
    s.seq.campaign = some k → s.seq.heldHalt = false → (∀ d ∈ k.set, d ≠ c → (s.cell d).service ≠ .faulted) →
    ((e = .blindWaitExpiry c ∧ (s.cell c).isolation = some (.blind st)
        ∧ cfgBlindWait s.store.image * 1000 ≤ (s.gen.timebase - st).toNat ∧ cfgBlindAssume s.store.image = true)
      ∨ (∃ seen r, e = .slotEnd c seen ∧ (s.cell c).isolation = some (.bypass st) ∧ (s.cell c).service = .faulted
        ∧ (s.cell c).link = .enrolled ∧ Answers c seen r s ∧ r.classCode = 0 ∧ r.message = .none ∧ r.bypass = 1)) →
    ∃ t : State, exec e s = .next t ∧ t.queue = s.queue.filter (·.cell ≠ c) ∧ PlansOrTrips s t k
      ∧ ((t.cell c).service = .bypassed ∨ (t.cell c).service = .lockedOut)

/-- The enrol window's expiry in the first iteration of a START campaign (R87, R91, R147): the window has run; with the watch
not ended BLOCK goes on; with it ended, ISOLATE begins where a cell of the set is FAULTED, and otherwise the sequencer passes
through ISOLATE to PLAN with the plan computed. One CAMPAIGN notice is posted for each state entered, in order (R175). It
rests on the model's reading in log entries 7 and 51. -/
def Obligations.EnrolWindowLetsBlockEnd : Prop :=
  ∀ (s : State) (k : Campaign) (w : Watch), s.seq.state = .block → s.seq.campaign = some k → k.kind = .start →
    k.iteration = 1 → s.seq.enrolRun = false → s.seq.watch = some w →
    cfgEnrolWindow s.store.image * 1000 ≤ (s.gen.timebase - k.opened).toNat →
    ((w.starts = 0 ∨ ∃ c ∈ w.cells, (s.cell c).service = .active ∧ (s.cell c).link ≠ .severed) →
      exec .enrolWindowExpiry s = .next (settle { s with
        seq.enrolRun := true
        seq.watch := some {
          cells := w.cells.filter fun c => decide ((s.cell c).service = .active) && decide ((s.cell c).link ≠ .severed)
          starts := w.starts } }))
    ∧ (Quiet s → 1 ≤ w.starts → (∀ c ∈ w.cells, (s.cell c).service ≠ .active ∨ (s.cell c).link = .severed) →
      ((∃ d ∈ k.set, (s.cell d).service = .faulted) →
        ∃ t : State, exec .enrolWindowExpiry s = .next t ∧ t.seq.state = .isolate ∧ t.seq.watch = none
          ∧ t.seq.campaign = some { k with issue := none }
          ∧ Posts s t [.campaign .isolate s.seq.tripCause (some (recordAt s { k with issue := none } .isolate))]
          ∧ t.queue = s.queue ∧ t.plans = s.plans
          ∧ (∀ d ∈ k.set, (s.cell d).service = .faulted →
            t.cell d = { s.cell d with
              faultedClose := true
              isolation :=
                some (if (s.cell d).link = .severed then .blind s.gen.timebase else .bypass s.gen.timebase) })
          ∧ ∀ d : CellRef, (d ∉ k.set ∨ (s.cell d).service ≠ .faulted) →
            t.cell d = { s.cell d with isolation := none })
      ∧ ((∀ d ∈ k.set, (s.cell d).service ≠ .faulted) → ∀ p, computePlan s true (s.seq.lastTag + 1) = some p →
        ∃ t : State, exec .enrolWindowExpiry s = .next t ∧ t.seq.state = .plan ∧ t.seq.scale = 0
          ∧ t.plans = { pending := some p, inForce := s.plans.inForce } ∧ t.seq.lastTag = s.seq.lastTag + 1
          ∧ t.seq.campaign = some { k with issue := none, pendingTag := some (s.seq.lastTag + 1) }
          ∧ Posts s t [.campaign .isolate s.seq.tripCause (some (recordAt s { k with issue := none } .isolate)),
              .campaign .plan s.seq.tripCause
                (some (recordAt s { k with issue := none, pendingTag := some (s.seq.lastTag + 1) } .plan))]
          ∧ (∀ d : CellRef, t.cell d = { s.cell d with isolation := none }) ∧ t.queue = s.queue))

/-- The expiries that mark or drop one record (R81, R122, R129, R169): the oldest attempt entry; the hoist status record's
freshness; the batch timer, which releases every held cell notice; the hold minimum, which lets HOLD_REQ fall with a LINES
notice where the demand has ended. Each acts once its time has run, and does nothing before: a record that has replaced the
one whose expiry it was stays fresh (R122). And how cell notices are held and released at their posting (R19, R168, R169): a
flag on a cell that has flags posts nothing; the first flag posts a held notice, which at the batch count releases every held
notice, and otherwise starts the batch timer where it is the only one held. It rests on the model's reading in log entries 7,
46 and 51. -/
def Obligations.RecordTimersExpire : Prop :=
  (∀ (s : State) (e : Stamp) (rest : List Stamp), s.seq.attempts = e :: rest →
    (cfgAttemptWindow s.store.image * 1000000 ≤ (s.gen.timebase - e).toNat →
      exec .attemptEntryExpiry s = .next (settle { s with seq.attempts := rest }))
    ∧ ((s.gen.timebase - e).toNat < cfgAttemptWindow s.store.image * 1000000 →
      exec .attemptEntryExpiry s = .next (settle s)))
    ∧ (∀ (s : State) (h : HoistRecord), s.lock.hoist = some h →
      (cfgFreshness s.store.image * 1000 ≤ (s.gen.timebase - h.stamp).toNat →
        exec .freshnessExpiry s = .next (settle { s with lock.hoist := some { h with fresh := false } }))
      ∧ ((s.gen.timebase - h.stamp).toNat < cfgFreshness s.store.image * 1000 →
        exec .freshnessExpiry s = .next (settle s)))
    ∧ (∀ (s : State) (b : Stamp), s.notices.batchTimer = some b →
      (cfgBatchTimer s.store.image * 1000 ≤ (s.gen.timebase - b).toNat →
        exec .batchTimerExpiry s = .next (settle { s with
          notices.cells := s.notices.cells.map fun n => { n with released := true }
          notices.batchTimer := none }))
      ∧ ((s.gen.timebase - b).toNat < cfgBatchTimer s.store.image * 1000 →
        exec .batchTimerExpiry s = .next (settle s)))
    ∧ (∀ (s : State) (b : Stamp), s.lock.holdTimer = some b → s.lock.holdReq = true →
      ((s.gen.timebase - b).toNat < cfgHoldMinimum s.store.image * 1000 →
        exec .holdMinimumExpiry s = .next (settle s))
      ∧ (cfgHoldMinimum s.store.image * 1000 ≤ (s.gen.timebase - b).toNat →
        (holdDemand s = true →
          exec .holdMinimumExpiry s = .next (settle { s with lock.holdTimer := none, lock.holdMet := true }))
        ∧ (holdDemand s = false →
          exec .holdMinimumExpiry s = .next (settle
            (postUrgent (.lines false s.lock.trip s.lock.driveRun.level s.lock.brakeSet.level)
              { s with lock.holdTimer := none, lock.holdMet := true, lock.holdReq := false })))))
    ∧ ∀ (f : ReportFlag) (c : CellRef) (s t : State),
      t = (s.modCell c fun x => { x with flags := x.flags ||| f.mask }) →
      ((s.cell c).flags ≠ 0 → setFlag f c s = t)
      ∧ ((s.cell c).flags = 0 → ∀ held : Nat, held = s.notices.cells.countP (!·.released) + 1 →
        (cfgBatchCount s.store.image ≤ held →
          setFlag f c s = { t with
            notices.cells := (s.notices.cells ++ [(⟨c, false⟩ : CellNotice)]).map fun n => { n with released := true }
            notices.batchTimer := none })
        ∧ (held < cfgBatchCount s.store.image →
          setFlag f c s = { t with
            notices.cells := s.notices.cells ++ [⟨c, false⟩]
            notices.batchTimer := if held = 1 then some s.gen.timebase else s.notices.batchTimer }))

/-! ### The interlock unit -/

/-- A change at a pin starts or drops the pending change, and moves no qualified level; a pending change that has lasted
1000 µs, with no campaign open, and so no brake confirm timer, takes the qualified level to the pin's and does nothing more;
one that has not lasted that long does nothing (R119, R126, R135). It rests on the model's reading in log entry 7. -/
def Obligations.InputChangesAreQualified : Prop :=
  (∀ (asserted : Bool) (s : State),
    exec (.inputPinChange .driveRun asserted) s = .next (settle { s with
      lock.driveRun :=
        if s.lock.driveRun.pin = asserted then s.lock.driveRun
        else { pin := asserted, level := s.lock.driveRun.level,
               change := if asserted = s.lock.driveRun.level then none else some s.gen.timebase } })
    ∧ exec (.inputPinChange .brakeSet asserted) s = .next (settle { s with
      lock.brakeSet :=
        if s.lock.brakeSet.pin = asserted then s.lock.brakeSet
        else { pin := asserted, level := s.lock.brakeSet.level,
               change := if asserted = s.lock.brakeSet.level then none else some s.gen.timebase } }))
    ∧ ∀ s : State, s.seq.campaign = none →
      (∀ b : Stamp, s.lock.driveRun.change = some b → 1000 ≤ (s.gen.timebase - b).toNat →
        exec .driveRunQualified s = .next (settle { s with
          lock.driveRun := { pin := s.lock.driveRun.pin, level := !s.lock.driveRun.level, change := none } }))
      ∧ (∀ b : Stamp, s.lock.brakeSet.change = some b → 1000 ≤ (s.gen.timebase - b).toNat →
        s.lock.brakeConfirm = none →
        exec .brakeSetQualified s = .next (settle { s with
          lock.brakeSet := { pin := s.lock.brakeSet.pin, level := !s.lock.brakeSet.level, change := none } }))
      ∧ (∀ b : Stamp, s.lock.driveRun.change = some b → (s.gen.timebase - b).toNat < 1000 →
        exec .driveRunQualified s = .next (settle s))
      ∧ ∀ b : Stamp, s.lock.brakeSet.change = some b → (s.gen.timebase - b).toNat < 1000 →
        exec .brakeSetQualified s = .next (settle s)

/-- A conversion to HELD (R124 to R127), by the ride-through budget spent before RAMP, by BRAKE_SET asserted while RUNNING,
or by DRIVE_RUN asserted while STOPPED: the style, the hold mark and HOLD_REQ, the brake confirmation, the ride-through timer
dropped, the resume timer started again in AWAIT_RESUME; the stage, the plans and the cells go on as they stand. In a
campaign already HELD, BRAKE_SET asserted confirms the brake and drops the brake confirm timer; BRAKE_SET deasserted, in any
campaign, changes the qualified level alone (R127). In RAMP the spent budget sets its marker alone: the style stays RUNNING
and the ramp goes on (R125). It rests on the model's reading in log entries 7 and 51. -/
def Obligations.ConversionToHeld : Prop :=
  (∀ (s : State) (k : Campaign) (c : Instr) (brake : Bool), Quiet s → s.seq.campaign = some k →
    ((c = .rideThroughExpiry
        ∧ (∃ b, s.lock.rideThrough = some b
          ∧ cfgRideThrough s.store.image * 1000 ≤ (s.gen.timebase - b).toNat)
        ∧ k.style = some .running ∧ s.seq.state ≠ .ramp
        ∧ brake = s.lock.brakeSet.level)
      ∨ (c = .brakeSetQualified
        ∧ (∃ b, s.lock.brakeSet.change = some b ∧ 1000 ≤ (s.gen.timebase - b).toNat) ∧ s.lock.brakeSet.level = false
        ∧ k.style = some .running ∧ brake = true)
      ∨ (c = .driveRunQualified
        ∧ (∃ b, s.lock.driveRun.change = some b ∧ 1000 ≤ (s.gen.timebase - b).toNat) ∧ s.lock.driveRun.level = false
        ∧ k.style = some .stopped ∧ brake = s.lock.brakeSet.level)) →
    ∃ t : State, exec c s = .next t
      ∧ t.seq = { s.seq with campaign := some { k with style := some .held } }
      ∧ t.lock.holdMark = true ∧ t.lock.holdReq = true ∧ t.lock.rideThrough = none
      ∧ t.lock.brakeConfirm = (if brake then none else some s.gen.timebase)
      ∧ t.lock.resumeTimer = (if s.seq.state = .awaitResume then some s.gen.timebase else s.lock.resumeTimer)
      ∧ t.lock.budgetSpent = (s.lock.budgetSpent || decide (c = .rideThroughExpiry))
      ∧ t.lock.brakeSet.level = brake
      ∧ t.lock.driveRun.level = (s.lock.driveRun.level || decide (c = .driveRunQualified))
      ∧ t.lock.trip = s.lock.trip ∧ t.lock.hoist = s.lock.hoist ∧ t.lock.rampCount = s.lock.rampCount
      ∧ t.cells = s.cells ∧ t.queue = s.queue ∧ t.plans = s.plans ∧ t.store = s.store ∧ t.rings = s.rings
      ∧ t.gen = s.gen ∧ t.pending = s.pending)
  ∧ (∀ (s : State) (k : Campaign) (b : Stamp), s.seq.campaign = some k → k.style = some .running → s.seq.state = .ramp →
    s.lock.rideThrough = some b → cfgRideThrough s.store.image * 1000 ≤ (s.gen.timebase - b).toNat →
    exec .rideThroughExpiry s = .next (settle { s with lock.rideThrough := none, lock.budgetSpent := true }))
  ∧ ∀ (s : State) (b : Stamp), s.lock.brakeSet.change = some b → 1000 ≤ (s.gen.timebase - b).toNat →
    (∀ k : Campaign, s.seq.campaign = some k → k.style = some .held → s.lock.brakeSet.level = false →
      exec .brakeSetQualified s = .next (settle { s with
        lock.brakeSet := { pin := s.lock.brakeSet.pin, level := true, change := none }
        lock.brakeConfirm := none }))
    ∧ (s.lock.brakeSet.level = true →
      exec .brakeSetQualified s = .next (settle { s with
        lock.brakeSet := { pin := s.lock.brakeSet.pin, level := false, change := none } }))

/-- DRIVE_RUN deasserted in AWAIT_RESUME or RAMP (R96, R126): the campaign closes COMPLETED with style STOPPED, and the
sequencer is READY with output scale 1024; the campaign's timers and hold mark end, and HOLD_REQ follows the demand. In
BLOCK, ISOLATE, PLAN and REPHASE the campaign becomes STOPPED and goes on: the ride-through and brake confirm timers are
dropped, the hold mark and HOLD_REQ keep their values (R126). Either posts a CAMPAIGN notice with the record as changed (R75,
R175). It rests on the model's reading in log entries 7, 12 and 15. -/
def Obligations.WithdrawnRunDemandClosesTheCampaign : Prop :=
  (∀ (s : State) (k : Campaign), Quiet s → s.seq.heldHalt = false → s.seq.campaign = some k →
    (k.style = some .running ∨ k.style = some .held) → (s.seq.state = .awaitResume ∨ s.seq.state = .ramp) →
    (∃ b, s.lock.driveRun.change = some b ∧ 1000 ≤ (s.gen.timebase - b).toNat) → s.lock.driveRun.level = true →
    ∃ t : State, exec .driveRunQualified s = .next t
      ∧ t.seq.state = .ready ∧ t.seq.scale = 1024 ∧ t.seq.campaign = none
      ∧ t.seq.history = historyWith s (closedWith s { k with style := some .stopped } .completed)
      ∧ Posts s t ([.campaign .ready s.seq.tripCause
          (some (closedWith s { k with style := some .stopped } .completed))] ++ lineChange s t)
      ∧ t.seq.attempts = s.seq.attempts ∧ t.seq.lastTag = s.seq.lastTag
      ∧ t.lock.driveRun.level = false ∧ t.lock.holdMark = false ∧ t.lock.holdReq = holdAfterDemand s
      ∧ t.lock.rideThrough = none ∧ t.lock.brakeConfirm = none ∧ t.lock.resumeTimer = none ∧ t.lock.rampCount = 0
      ∧ t.lock.trip = s.lock.trip ∧ (∀ d : CellRef, t.cell d = { s.cell d with isolation := none })
      ∧ t.queue = s.queue ∧ t.plans = s.plans ∧ t.store = s.store ∧ t.rings = s.rings ∧ t.gen = s.gen
      ∧ t.pending = s.pending)
  ∧ ∀ (s : State) (k : Campaign) (b : Stamp), Quiet s → s.seq.campaign = some k →
    (k.style = some .running ∨ k.style = some .held) → s.seq.state ∈ [SeqState.block, .isolate, .plan, .rephase] →
    s.lock.driveRun.change = some b → 1000 ≤ (s.gen.timebase - b).toNat → s.lock.driveRun.level = true →
    ∃ t : State, exec .driveRunQualified s = .next t
      ∧ t.seq = { s.seq with campaign := some { k with style := some .stopped } }
      ∧ t.lock = { s.lock with
          driveRun := { pin := s.lock.driveRun.pin, level := false, change := none }
          rideThrough := none
          brakeConfirm := none }
      ∧ Posts s t [.campaign s.seq.state s.seq.tripCause
          (some (recordAt s { k with style := some .stopped } s.seq.state))]
      ∧ t.cells = s.cells ∧ t.queue = s.queue ∧ t.plans = s.plans ∧ t.store = s.store ∧ t.rings = s.rings
      ∧ t.gen = s.gen ∧ t.pending = s.pending

/-- RESUME in SERVICE (R132, Table 7-4): the checks in order, and RAMP entered with step count 0 and output scale 0, the
resume timer dropped, the plan in force and the cells as they are. It is replied OK and posts the CAMPAIGN notice of RAMP
(R75, R175). It rests on the model's reading in log entries 4 and 5. -/
def Obligations.ResumeEntersTheRamp : Prop :=
  ∀ (tag : Byte) (s : State), Ready s → s.store.mode = .service →
    (s.seq.state ≠ .awaitResume → exec (.resume tag) s = .next (replyOnly 0x0B tag .wrongState [] s))
    ∧ ∀ k : Campaign, s.seq.state = .awaitResume → s.seq.campaign = some k →
      (k.style = some .held → s.lock.brakeSet.level = false →
        exec (.resume tag) s = .next (replyOnly 0x0B tag .notHeld [] s))
      ∧ (k.style = some .running → (∀ h, s.lock.hoist = some h → h.fresh = false) →
        exec (.resume tag) s = .next (replyOnly 0x0B tag .staleStatus [] s))
      ∧ (∀ h p, k.style = some .running → s.lock.hoist = some h → h.fresh = true → s.plans.inForce = some p →
        p.speed < h.speed.natAbs → exec (.resume tag) s = .next (replyOnly 0x0B tag .aboveCeiling [] s))
      ∧ ((k.style = some .held → s.lock.brakeSet.level = true) →
        (k.style = some .running → ∃ h p, s.lock.hoist = some h ∧ h.fresh = true ∧ s.plans.inForce = some p
          ∧ h.speed.natAbs ≤ p.speed) →
        ∃ t : State, exec (.resume tag) s = .next t
          ∧ t.seq.state = .ramp ∧ t.seq.scale = 0 ∧ t.seq.campaign = some { k with issue := none }
          ∧ Replies s t [replyRecord 0x0B tag .ok []]
          ∧ Posts s t [.campaign .ramp s.seq.tripCause (some (recordAt s { k with issue := none } .ramp))]
          ∧ t.lock.rampCount = 0 ∧ t.lock.resumeTimer = none ∧ t.lock.holdMark = s.lock.holdMark
          ∧ t.lock.holdReq = s.lock.holdReq ∧ t.lock.rideThrough = s.lock.rideThrough
          ∧ t.lock.driveRun = s.lock.driveRun ∧ t.lock.brakeSet = s.lock.brakeSet ∧ t.lock.hoist = s.lock.hoist
          ∧ (∀ d : CellRef, t.cell d = { s.cell d with isolation := none })
          ∧ t.seq.history = s.seq.history ∧ t.plans = s.plans ∧ t.queue = s.queue ∧ t.store = s.store
          ∧ t.rings = s.rings ∧ t.gen = s.gen ∧ t.pending = s.pending)

/-! ### Cycle starts -/

/-- A cycle start (R17, R24, R26 to R30, R58, R76, R179): the cycle number rises by 1, the period is the setting's, the rings
are lit exactly in SERVICE, and each lit ring's frame carries the cycle number and the output scale. An installed cell's gate
is ON exactly where it is ACTIVE and not SEVERED, in READY or RAMP with DRIVE_RUN asserted; its bypass command is Table
1-5's, or CLOSE while SEVERED; its respond indicator says whether its slot is expected, its slot start is the effective one,
and its message is the first of WITHDRAWN, PLAN, INVITE or ACCEPT, TUNNEL that Table 2-2 gives. And the bytes of a frame and
of a command field (Tables 12-7 and 12-8): 86 with the CRC-16, and 10. That the rings are lit exactly in SERVICE also where a
HALT and a GO stand between two cycle starts is the model's choice (log entry 39): R26 leaves that one start open. It rests
on the model's reading in log entries 20, 21 and 39. -/
def Obligations.CycleStartBuildsTheFrames : Prop :=
  (∀ (loopback : Option (List Byte)) (s : State), Quiet s →
    ∃ t : State, exec (.cycleStart loopback) s = .next t
      ∧ t.gen = { s.gen with
          cycle := s.gen.cycle + 1, period := cfgCyclePeriod s.store.image, cycleStart := s.gen.timebase }
      ∧ t.store.image = s.store.image
      ∧ t.rings.lit = decide (s.store.mode = .service) ∧ t.rings.frames.isSome = t.rings.lit
      ∧ ∀ (f : Rings DownFrame) (p : Phase), t.rings.frames = some f →
        (f.get p).cycle = t.gen.cycle ∧ (f.get p).scale = t.seq.scale ∧ (f.get p).fields.length = 8
        ∧ ∀ (d : CellRef) (x : CommandField), phaseOf d = p → (f.get p).fields[positionOf d - 1]? = some x →
          (x.gateOn = true ↔ t.installed d = true ∧ (t.cell d).service = .active ∧ (t.cell d).link ≠ .severed
            ∧ (t.seq.state = .ready ∨ t.seq.state = .ramp) ∧ t.lock.driveRun.level = true)
          ∧ (t.installed d = true → (t.cell d).link ≠ .severed →
            (x.close = false ↔
              ((t.cell d).service = .active
                ∧ ¬(t.seq.state = .rephase ∧ ∃ q, t.plans.pending = some q ∧ d ∈ q.deselected))
              ∨ ((t.cell d).service = .reserve
                ∧ t.seq.state = .rephase ∧ ∃ q, t.plans.pending = some q ∧ (q.offsetOf d).isSome = true)
              ∨ ((t.cell d).service = .faulted ∧ (t.cell d).faultedClose = false)))
          ∧ (t.installed d = true →
            (x.respond = true ↔ cfgHalfRate s.store.image d = 0
              ∨ (cfgHalfRate s.store.image d = 1 ∧ t.gen.cycle.toNat % 2 = 0)
              ∨ (cfgHalfRate s.store.image d = 2 ∧ t.gen.cycle.toNat % 2 = 1))
            ∧ x.slotStart = (if cfgSlotStart s.store.image d = 0 then 20 + 24 * (positionOf d - 1)
                else max 20 (cfgSlotStart s.store.image d)))
          ∧ (t.installed d = true → (t.cell d).link ≠ .severed →
            (∀ (q : Plan) (e : Rephase), t.seq.state = .rephase → t.plans.pending = some q → t.seq.rephase = some e →
              ¬(s.seq.state = .rephase ∧ ∃ e', s.seq.rephase = some e' ∧ e'.epoch = t.gen.cycle) →
              ((q.offsetOf d).isSome = true ∨ d ∈ q.deselected) →
              x.message = .plan q.tag e.epoch (q.offsetOf d))
            ∧ ((t.seq.state ≠ .rephase ∨ (∃ q, t.plans.pending = some q ∧ q.offsetOf d = none ∧ d ∉ q.deselected)
                ∨ (s.seq.state = .rephase ∧ ∃ e', s.seq.rephase = some e' ∧ e'.epoch = t.gen.cycle)) →
              ((t.cell d).link = .dark → x.message = .invite)
              ∧ (∀ a, (t.cell d).link = .confirm → (t.cell d).heldAbility = some a → x.message = .accept a.serial)
              ∧ ((t.cell d).link ≠ .dark → (t.cell d).link ≠ .confirm →
                x.message = .none
                  ∨ ∃ poll final seq bytes m, x.message = .tunnel poll final seq bytes
                    ∧ s.rings.mail.get p = some m ∧ m.cell = d)))
          ∧ (t.installed d = true → (t.cell d).link = .severed →
            x.gateOn = false ∧ x.close = true ∧ x.message = .withdrawn)
          ∧ (t.installed d = false →
            x = { gateOn := false, close := true, respond := false, slotStart := 0, message := .none }))
  ∧ (∀ x : CommandField,
    (∀ tag epoch offset, x.message = .plan tag epoch (some offset) → offset < 16777216) →
    (∀ poll final seq bytes, x.message = .tunnel poll final seq bytes → bytes.length ≤ 4) → x.slotStart < 65536 →
    (fieldByteList x).length = 10
    ∧ byteField (fieldByteList x) 0 1 = 128 * x.gateOn.toNat + 64 * x.close.toNat + 32 * x.respond.toNat
        + (match x.message with
          | .none => 0 | .withdrawn => 1 | .plan _ _ _ => 2 | .invite => 3 | .accept _ => 4 | .tunnel _ _ _ _ => 5)
    ∧ byteField (fieldByteList x) 1 2 = x.slotStart
    ∧ (∀ tag epoch offset, x.message = .plan tag epoch (some offset) →
      byteField (fieldByteList x) 3 1 = tag.toNat ∧ byteField (fieldByteList x) 4 2 = epoch.toNat
      ∧ byteField (fieldByteList x) 6 1 = 1 ∧ byteField (fieldByteList x) 7 3 = offset)
    ∧ (∀ tag epoch, x.message = .plan tag epoch none →
      byteField (fieldByteList x) 3 1 = tag.toNat ∧ byteField (fieldByteList x) 4 2 = epoch.toNat
      ∧ byteField (fieldByteList x) 6 1 = 2 ∧ byteField (fieldByteList x) 7 3 = 0)
    ∧ (∀ serial, x.message = .accept serial →
      byteField (fieldByteList x) 3 4 = serial.toNat ∧ byteField (fieldByteList x) 7 3 = 0)
    ∧ (∀ poll final seq bytes, x.message = .tunnel poll final seq bytes →
      byteField (fieldByteList x) 3 1 = 128 * poll.toNat + 64 * final.toNat + 16 * (seq % 4) + bytes.length
      ∧ ((fieldByteList x).drop 4).take bytes.length = bytes)
    ∧ ((x.message = .none ∨ x.message = .withdrawn ∨ x.message = .invite) → byteField (fieldByteList x) 3 7 = 0))
  ∧ ∀ f : DownFrame, f.fields.length = 8 → f.scale < 65536 → (∀ x ∈ f.fields, (fieldByteList x).length = 10) →
    f.bytes.length = 86 ∧ byteField f.bytes 0 2 = f.cycle.toNat ∧ byteField f.bytes 2 2 = f.scale
    ∧ (∀ (k : Nat) (x : CommandField), f.fields[k]? = some x → (f.bytes.drop (4 + 10 * k)).take 10 = fieldByteList x)
    ∧ byteField f.bytes 84 2 = (crc16 (f.bytes.take 84)).toNat

/-- A ramp step at a cycle start (R133, R134): the step count rises by 1 and the output scale is the ramp value, on the cycle
period just taken; below 1024 RAMP goes on, and at 1024, which is also RAMP_COMPLETE, the campaign closes COMPLETED and the
sequencer is READY. The close posts the CAMPAIGN notice of READY, and a LINES notice where HOLD_REQ changes (R75, R175). It
rests on the model's reading in log entries 8, 12, 15 and 34. -/
def Obligations.RampStepSetsTheScale : Prop :=
  ∀ (s : State) (k : Campaign) (scale : Nat), Quiet s → s.seq.state = .ramp → s.seq.campaign = some k →
    s.seq.heldHalt = false → 0 < cfgRampTime s.store.image →
    scale = min 1024 ((s.lock.rampCount + 1) * 1024 * cfgCyclePeriod s.store.image
      / (cfgRampTime s.store.image * 1000)) →
    (scale ≠ 1024 →
      ∃ t : State, exec (.cycleStart none) s = .next t ∧ t.seq = { s.seq with scale := scale }
        ∧ Posts s t [] ∧ t.lock = { s.lock with rampCount := s.lock.rampCount + 1 } ∧ t.plans = s.plans ∧ t.queue = s.queue
        ∧ t.store.image = s.store.image ∧ t.store.mode = s.store.mode ∧ t.pending = s.pending
        ∧ ∀ d : CellRef, (t.cell d).service = (s.cell d).service ∧ (t.cell d).offset = (s.cell d).offset)
    ∧ (scale = 1024 → ∀ c : Instr, (c = .cycleStart none ∨ c = .rampComplete) →
      ∃ t : State, exec c s = .next t ∧ t.seq.state = .ready ∧ t.seq.scale = 1024 ∧ t.seq.campaign = none
        ∧ t.seq.history = historyWith s (closedWith s k .completed) ∧ t.seq.attempts = s.seq.attempts
        ∧ Posts s t ([.campaign .ready s.seq.tripCause (some (closedWith s k .completed))] ++ lineChange s t)
        ∧ t.lock.rampCount = 0 ∧ t.lock.holdMark = false ∧ t.lock.brakeConfirm = none ∧ t.lock.rideThrough = none
        ∧ t.lock.holdReq = holdAfterDemand s ∧ t.plans = s.plans ∧ t.queue = s.queue
        ∧ t.lock.trip = s.lock.trip ∧ t.lock.driveRun = s.lock.driveRun ∧ t.lock.brakeSet = s.lock.brakeSet
        ∧ t.store.image = s.store.image ∧ t.store.mode = s.store.mode ∧ t.pending = s.pending
        ∧ ∀ d : CellRef, (t.cell d).service = (s.cell d).service ∧ (t.cell d).offset = (s.cell d).offset)

/-- The gate-off watch of BLOCK (R66, R87). By its count: every cell still watched is FAULTED by NO_GATE_OFF, a HARD fault,
with its queue entry and its place in the set, and the sequencer is in ISOLATE. By a response of a cell: one that shows gate
OFF, after the first cycle start, takes the cell out of the watch; any other gate code, and a response before that cycle
start, leaves the watch as it is; the watch that has lost its last cell passes to ISOLATE where a cell of the set is FAULTED,
and on to PLAN otherwise, unless the enrol window of a START campaign's first iteration still holds BLOCK. Every cell keeps
its service state but where that pass finds no plan while a HALT is held, which then takes effect (R98, R100). It rests on
the model's reading in log entries 8, 18, 54 and 56. -/
def Obligations.GateOffWatchFaultsTheSilent : Prop :=
  (∀ (s : State) (k : Campaign) (w : Watch), Quiet s → s.seq.state = .block → s.seq.campaign = some k →
    k.kind ≠ .start → s.seq.watch = some w → w.cells ≠ [] → cfgBlockConfirm s.store.image < w.starts + 1 →
    (∀ c ∈ w.cells, (s.cell c).service = .active) →
    ∃ t : State, exec .gateOffWatchTimeout s = .next t ∧ t.gen.cycle = s.gen.cycle + 1
      ∧ t.seq.state = .isolate ∧ t.seq.watch = none
      ∧ (∀ c ∈ w.cells, (t.cell c).service = .faulted ∧ (t.cell c).offset = none
        ∧ (∃ f, (t.cell c).fault = some f ∧ f.first = .noGateOff ∧ f.detail = 0 ∧ f.kind = .hard
          ∧ f.stamp = s.gen.timebase)
        ∧ (∃ e ∈ t.queue, e.cell = c ∧ e.first = .noGateOff)
        ∧ ∃ k', t.seq.campaign = some k' ∧ k'.iteration = k.iteration ∧ c ∈ k'.set)
      ∧ (∀ d : CellRef, d ∉ w.cells →
        (t.cell d).service = (s.cell d).service ∧ (t.cell d).fault = (s.cell d).fault)
      ∧ t.seq.scale = 0 ∧ t.seq.history = s.seq.history ∧ t.seq.attempts = s.seq.attempts
      ∧ t.seq.lastTag = s.seq.lastTag ∧ t.plans = s.plans ∧ t.lock.trip = s.lock.trip
      ∧ t.lock.driveRun = s.lock.driveRun ∧ t.lock.brakeSet = s.lock.brakeSet ∧ t.lock.hoist = s.lock.hoist
      ∧ t.lock.holdReq = s.lock.holdReq ∧ t.lock.holdMark = s.lock.holdMark ∧ t.store.image = s.store.image
      ∧ t.store.mode = s.store.mode ∧ t.pending = s.pending)
  ∧ ∀ (s : State) (k : Campaign) (w : Watch) (c : CellRef) (seen : SlotSeen) (r : Response), Quiet s →
    s.seq.state = .block → s.seq.campaign = some k → s.seq.watch = some w → Answers c seen r s → r.classCode = 0 →
    r.message = .none → (s.cell c).link = .enrolled → (s.cell c).service = .active →
    insideWindow s.store.image r.dc = true →
    (∀ d ∈ w.cells, (s.cell d).service = .active ∧ (s.cell d).link ≠ .severed) →
    ∃ t : State, exec (.slotEnd c seen) s = .next t
      ∧ (t.cell c).report = some (reportOf r s.gen.timebase) ∧ t.queue = s.queue
      ∧ (∀ d : CellRef, (t.cell d).fault = (s.cell d).fault)
      ∧ ((s.seq.heldHalt = false ∨ w.starts = 0 ∨ (w.cells ≠ [] ∧ r.gate ≠ 0) ∨ (∃ d ∈ w.cells, d ≠ c)
          ∨ (k.kind = .start ∧ k.iteration = 1 ∧ s.seq.enrolRun = false)
          ∨ ∃ d ∈ k.set, (s.cell d).service = .faulted) →
        ∀ d : CellRef, (t.cell d).service = (s.cell d).service)
      ∧ (w.cells ≠ [] → (w.starts = 0 ∨ r.gate ≠ 0) → t.seq = s.seq)
      ∧ (1 ≤ w.starts → r.gate = 0 →
        ((∃ d ∈ w.cells, d ≠ c) ∨ (k.kind = .start ∧ k.iteration = 1 ∧ s.seq.enrolRun = false)) →
        t.seq = { s.seq with watch := some { w with cells := w.cells.filter (· ≠ c) } })
      ∧ (1 ≤ w.starts → r.gate = 0 → (∀ d ∈ w.cells, d = c) →
        (k.kind ≠ .start ∨ k.iteration ≠ 1 ∨ s.seq.enrolRun = true) → s.seq.heldHalt = false →
        ((∃ d ∈ k.set, (s.cell d).service = .faulted) →
          t.seq.state = .isolate ∧ t.seq.watch = none ∧ t.seq.scale = 0
          ∧ ∀ d ∈ k.set, (s.cell d).service = .faulted →
            (t.cell d).faultedClose = true
            ∧ (t.cell d).isolation
              = some (if (s.cell d).link = .severed then .blind s.gen.timebase else .bypass s.gen.timebase))
        ∧ ((∀ d ∈ k.set, (s.cell d).service ≠ .faulted) → PlansOrTrips s t k))

/-- Enrolment in READY, and in the BLOCK that the enrol window of a START campaign holds (R10, R46 to R52, R147). By slots:
an ABILITY taken in DARK leads to CONFIRM, or to REJECTED with its cause and its flag where its rated DC differs by more than
8 % or the position is half-rate and the cell is not capable (R47); an ACCEPTED with the held serial leads to TRIAL; the 24th
clean response in TRIAL completes it: ENROLLED, the ability written, the flag, and an AWAITING cell RESERVE, or LOCKED_OUT at
the strike limit; a miss or a reported class in TRIAL fails the attempt; misses change nothing in DARK, CONFIRM, REJECTED and
UNSTEADY. By cycle starts: the end of a CONFIRM wait, and the one that would raise an exchange's cycle count above 64 (R42):
the link is DARK, or UNSTEADY with its flag at the third failure; the exchange ends TIMEOUT and its mailbox is EMPTY. It
rests on the model's reading in log entries 8 and 54. -/
def Obligations.EnrolmentAndTunnelTimeOut : Prop :=
  (∀ s : State, Quiet s → s.store.mode = .service → s.seq.state = .ready →
    (∀ c : CellRef, (s.cell c).link = .confirm → 20 ≤ (s.cell c).goodRun →
      ∃ t : State, exec (.confirmTimeout c) s = .next t ∧ t.gen.cycle = s.gen.cycle + 1
        ∧ (t.cell c).unsteadyCount = min 3 ((s.cell c).unsteadyCount + 1)
        ∧ (t.cell c).link = (if 2 ≤ (s.cell c).unsteadyCount then .unsteady else .dark)
        ∧ (t.cell c).goodRun = 0 ∧ (t.cell c).missCount = 0 ∧ (t.cell c).heldAbility = none
        ∧ (t.cell c).flags = (if 2 ≤ (s.cell c).unsteadyCount then (s.cell c).flags ||| ReportFlag.unsteady.mask
            else (s.cell c).flags)
        ∧ (∀ d : CellRef, (t.cell d).service = (s.cell d).service ∧ (t.cell d).fault = (s.cell d).fault)
        ∧ t.seq = s.seq ∧ t.lock = s.lock ∧ t.plans = s.plans ∧ t.queue = s.queue ∧ t.pending = s.pending)
    ∧ ∀ (p : Phase) (x : Exchange), s.rings.mail.get p = some x → 64 ≤ x.count →
      ∃ t : State, exec (.tunnelTimeout p) s = .next t ∧ t.gen.cycle = s.gen.cycle + 1
        ∧ t.rings.mail.get p = none ∧ replyRecord 0x13 x.tag .timeout [] ∈ t.link.replies
        ∧ (∀ d : CellRef, (t.cell d).service = (s.cell d).service ∧ (t.cell d).fault = (s.cell d).fault)
        ∧ t.seq = s.seq ∧ t.lock = s.lock ∧ t.plans = s.plans ∧ t.queue = s.queue ∧ t.pending = s.pending)
  ∧ ∀ (c : CellRef) (seen : SlotSeen) (s : State), Quiet s →
    (s.seq.state = .ready ∨ (s.seq.state = .block ∧ s.seq.enrolRun = false
      ∧ ∃ k, s.seq.campaign = some k ∧ k.kind = .start ∧ k.iteration = 1)) →
    s.rings.healthOn = true → s.expected c = true →
    (∀ r : Response, judgeSlot seen = .valid r → r.classCode = 0 → (s.cell c).link ≠ .enrolled →
      ∃ t : State, exec (.slotEnd c seen) s = .next t ∧ (t.cell c).report = some (reportOf r s.gen.timebase)
        ∧ (t.cell c).reportAge = 0 ∧ t.queue = s.queue ∧ t.seq.state = s.seq.state ∧ t.lock = s.lock
        ∧ t.seq.campaign = s.seq.campaign ∧ t.plans = s.plans ∧ t.store = s.store ∧ t.pending = s.pending
        ∧ (∀ d : CellRef, d ≠ c → t.cell d = s.cell d)
        ∧ (∀ a : Ability, (s.cell c).link = .dark → r.message = .ability a →
          (t.cell c).heldAbility = some a ∧ (t.cell c).goodRun = 0 ∧ (t.cell c).missCount = 0
          ∧ (t.cell c).service = (s.cell c).service ∧ (t.cell c).ability = (s.cell c).ability
          ∧ (cfgNominalDc s.store.image * 8
                < ((a.ratedDc.toNat : Int) * 100 - (cfgNominalDc s.store.image : Int) * 100).natAbs →
              (t.cell c).link = .rejected ∧ (t.cell c).rejectCause = some .ratedDc
              ∧ (t.cell c).flags = (s.cell c).flags ||| ReportFlag.rejected.mask)
          ∧ (((a.ratedDc.toNat : Int) * 100 - (cfgNominalDc s.store.image : Int) * 100).natAbs
                ≤ cfgNominalDc s.store.image * 8 →
              (cfgHalfRate s.store.image c ≠ 0 → a.halfRateCapable = false →
                (t.cell c).link = .rejected ∧ (t.cell c).rejectCause = some .halfRate
                ∧ (t.cell c).flags = (s.cell c).flags ||| ReportFlag.rejected.mask)
              ∧ ((cfgHalfRate s.store.image c = 0 ∨ a.halfRateCapable = true) →
                (t.cell c).link = .confirm ∧ (t.cell c).flags = (s.cell c).flags)))
        ∧ ((s.cell c).link = .dark → (∀ a, r.message ≠ .ability a) → (t.cell c).link = .dark)
        ∧ (∀ (serial : BitVec 32) (a : Ability), (s.cell c).link = .confirm → (s.cell c).heldAbility = some a →
          r.message = .accepted serial →
          (serial = a.serial → (t.cell c).link = .trial ∧ (t.cell c).goodRun = 0
            ∧ (t.cell c).heldAbility = some a)
          ∧ (serial ≠ a.serial → (t.cell c).link = .confirm ∧ (t.cell c).goodRun = (s.cell c).goodRun))
        ∧ ((s.cell c).link = .trial → (s.cell c).goodRun + 1 < 24 →
          (t.cell c).link = .trial ∧ (t.cell c).goodRun = (s.cell c).goodRun + 1
          ∧ (t.cell c).service = (s.cell c).service)
        ∧ (∀ a : Ability, (s.cell c).link = .trial → 24 ≤ (s.cell c).goodRun + 1 → (s.cell c).heldAbility = some a →
          (t.cell c).link = .enrolled ∧ (t.cell c).ability = some a ∧ (t.cell c).heldAbility = none
          ∧ (t.cell c).missCount = 0 ∧ (t.cell c).goodRun = 0 ∧ (t.cell c).unsteadyCount = 0
          ∧ (t.cell c).fault = (s.cell c).fault.map (fun f => { f with reenrolled := true })
          ∧ (t.cell c).strikes = (s.cell c).strikes
          ∧ (t.cell c).service = (if (s.cell c).service = .awaiting then
              (if (s.cell c).strikes < cfgStrikeLimit s.store.image then .reserve else .lockedOut)
              else (s.cell c).service)
          ∧ (t.cell c).flags = (s.cell c).flags ||| ReportFlag.enrolled.mask
            ||| (if (s.cell c).service = .awaiting then ReportFlag.stateChanged.mask else 0))
        ∧ (((s.cell c).link = .rejected ∨ (s.cell c).link = .unsteady) → (t.cell c).link = (s.cell c).link))
    ∧ (((judgeSlot seen = .missed ∨ judgeSlot seen = .invalid)
          ∨ ∃ r : Response, judgeSlot seen = .valid r ∧ r.classCode ≠ 0 ∧ r.classCode ≠ 7
            ∧ (s.cell c).service = .awaiting) → (s.cell c).link = .trial →
      ∃ t : State, exec (.slotEnd c seen) s = .next t
        ∧ (t.cell c).unsteadyCount = min 3 ((s.cell c).unsteadyCount + 1)
        ∧ (t.cell c).link = (if 2 ≤ (s.cell c).unsteadyCount then .unsteady else .dark)
        ∧ (t.cell c).goodRun = 0 ∧ (t.cell c).missCount = 0 ∧ (t.cell c).heldAbility = none
        ∧ (t.cell c).flags = (if 2 ≤ (s.cell c).unsteadyCount then (s.cell c).flags ||| ReportFlag.unsteady.mask
            else (s.cell c).flags)
        ∧ (t.cell c).service = (s.cell c).service ∧ (t.cell c).fault = (s.cell c).fault ∧ t.queue = s.queue
        ∧ t.seq.state = s.seq.state ∧ t.lock = s.lock ∧ ∀ d : CellRef, d ≠ c → t.cell d = s.cell d)
    ∧ ((judgeSlot seen = .missed ∨ judgeSlot seen = .invalid) →
      (s.cell c).link ∈ [LinkState.dark, .confirm, .rejected, .unsteady] → s.seq.watch = none →
      exec (.slotEnd c seen) s
        = .next (settle (s.modCell c fun x => { x with reportAge := min 255 (x.reportAge + 1) })))

/-- The pending plan's REPHASE (R11, R92 to R95, R116). At the cycle start after PLAN it is issued: REPHASE, issue 1, with
the lead of the settings and of the largest bypass timeout among the cells it moves, and the epoch that many cycles on. At
the epoch: confirmed, it is the plan in force, its cells ACTIVE with their offsets and its deselected cells RESERVE without,
and the sequencer is READY with the campaign COMPLETED, or in AWAIT_RESUME for a RUNNING or HELD style; failed at issue 1 or
2, it is issued again with an epoch later by the lead; failed at issue 3, it trips BYPASS_TIMEOUT where a deselected cell
does not report CLOSED, and otherwise faults every unconfirmed cell PLAN_NO_ACK by the queued route, with one new iteration
in BLOCK for them all, whose gate-off watch holds none of them (R87). Where the settings CRC differs from the stored one,
that BLOCK entry trips SETTINGS_CORRUPT, with every such cell FAULTED and queued, and the first alone in the set of the
record closed (R86). That no check is made at the entry itself also holds of a rephase lead that a storage fault has set to
0, which is the model's choice (log entry 48). The plan is confirmed where every cell of its active lists reports its tag and
bypass OPEN, and every deselected cell its tag and CLOSED. A confirmation posts the PLAN notice and then the CAMPAIGN notice
of the state entered; the other entries post their CAMPAIGN notice (R75, R175). It rests on the model's reading in log
entries 8, 12, 15, 17, 34, 45, 48 and 56. -/
def Obligations.EpochCheckDecides : Prop :=
  (∀ (s : State) (p : Plan), planConfirmed s p = true ↔
    (∀ x ∈ p.active.a ++ p.active.b ++ p.active.c,
      ∃ r, (s.cell x.1).report = some r ∧ r.tag = p.tag ∧ r.bypass = 0)
    ∧ ∀ d ∈ p.deselected, ∃ r, (s.cell d).report = some r ∧ r.tag = p.tag ∧ r.bypass = 1)
  ∧ (∀ (s : State) (k : Campaign) (p : Plan) (r : Rephase), Quiet s → s.seq.heldHalt = false → s.seq.state = .rephase →
    s.seq.campaign = some k → s.plans.pending = some p → s.seq.rephase = some r → r.epoch = s.gen.cycle + 1 →
    (planConfirmed s p = true →
      ∃ t : State, exec .epochCheck s = .next t ∧ t.gen.cycle = r.epoch
        ∧ t.plans = { pending := none, inForce := some p }
        ∧ (∀ (c : CellRef) (offset : Nat), p.offsetOf c = some offset →
          (t.cell c).service = .active ∧ (t.cell c).offset = some offset)
        ∧ (∀ c ∈ p.deselected, p.offsetOf c = none → (t.cell c).service = .reserve ∧ (t.cell c).offset = none)
        ∧ (∀ c : CellRef, p.offsetOf c = none → c ∉ p.deselected → (t.cell c).service = (s.cell c).service)
        ∧ t.queue = s.queue ∧ t.seq.lastTag = s.seq.lastTag ∧ t.seq.attempts = s.seq.attempts
        ∧ t.store.image = s.store.image ∧ t.store.mode = s.store.mode ∧ t.pending = s.pending
        ∧ t.lock.trip = s.lock.trip ∧ t.lock.driveRun = s.lock.driveRun ∧ t.lock.brakeSet = s.lock.brakeSet
        ∧ t.lock.hoist = s.lock.hoist
        ∧ (k.style = some .stopped →
          t.seq.state = .ready ∧ t.seq.scale = 1024 ∧ t.seq.campaign = none
          ∧ Posts s t ([.plan p.tag p.m p.voltage p.speed,
              .campaign .ready s.seq.tripCause (some (closedWith s k .completed))] ++ lineChange s t)
          ∧ t.seq.history = historyWith s (closedWith s k .completed) ∧ t.lock.holdMark = false
          ∧ t.lock.holdReq = holdAfterDemand s)
        ∧ ((k.style = some .running ∨ k.style = some .held) →
          t.seq.state = .awaitResume ∧ t.seq.scale = 0
          ∧ t.seq.campaign = some { k with pendingTag := none, issue := none }
          ∧ Posts s t [.plan p.tag p.m p.voltage p.speed, .campaign .awaitResume s.seq.tripCause
              (some (recordAt s { k with pendingTag := none, issue := none } .awaitResume))]
          ∧ t.lock.resumeTimer = some s.gen.timebase ∧ t.seq.history = s.seq.history))
    ∧ (∀ issue : Nat, planConfirmed s p = false → k.issue = some issue → issue < 3 →
      ∃ t : State, exec .epochCheck s = .next t ∧ t.gen.cycle = r.epoch ∧ t.plans = s.plans
        ∧ t.seq.state = .rephase ∧ t.seq.campaign = some { k with issue := some (issue + 1) }
        ∧ t.seq.rephase = some { r with epoch := r.epoch + BitVec.ofNat 16 r.lead } ∧ Posts s t []
        ∧ t.queue = s.queue ∧ t.lock = s.lock ∧ t.store.image = s.store.image ∧ t.store.mode = s.store.mode
        ∧ t.pending = s.pending ∧ ∀ d : CellRef, (t.cell d).service = (s.cell d).service))
  ∧ (∀ (s : State) (k : Campaign) (p : Plan) (r : Rephase), Quiet s → s.seq.heldHalt = false →
    s.seq.state = .rephase → s.seq.campaign = some k → k.issue = some 3 → s.plans.pending = some p →
    s.seq.rephase = some r → r.epoch = s.gen.cycle + 1 → planConfirmed s p = false →
    ((∃ d ∈ p.deselected, ¬∃ x, (s.cell d).report = some x ∧ x.bypass = 1) →
      ∃ t : State, exec .epochCheck s = .next t ∧ t.seq.state = .tripped ∧ t.seq.tripCause = some .bypassTimeout
        ∧ t.seq.scale = 0 ∧ t.seq.campaign = none
        ∧ t.seq.history = historyWith s (closedWith s k (.tripped .bypassTimeout))
        ∧ Posts s t ([.campaign .tripped (some .bypassTimeout) (some (closedWith s k (.tripped .bypassTimeout)))]
          ++ lineChange s t)
        ∧ t.plans = { pending := none, inForce := s.plans.inForce } ∧ t.lock.trip = true ∧ t.lock.holdReq = true
        ∧ t.queue = s.queue ∧ ∀ d : CellRef, (t.cell d).service = (s.cell d).service)
    ∧ ((∀ d ∈ p.deselected, ∃ x, (s.cell d).report = some x ∧ x.bypass = 1) → k.iteration < 4 →
      s.store.storedCrc = some (crc16 s.store.image) →
      (∀ d : CellRef, (p.offsetOf d).isSome = true → (s.cell d).service.working = true) →
      (∀ d ∈ p.deselected, (s.cell d).service = .active) →
      ∃ t : State, exec .epochCheck s = .next t ∧ t.seq.state = .block ∧ t.seq.scale = 0
        ∧ t.plans = { pending := none, inForce := s.plans.inForce }
        ∧ (∃ k', t.seq.campaign = some k' ∧ k'.iteration = k.iteration + 1 ∧ k'.number = k.number
          ∧ k'.pendingTag = none ∧ k'.issue = none
          ∧ ∀ d : CellRef, d ∈ k'.set ↔ d ∈ k.set ∨ Unacknowledged s p d)
        ∧ (∃ cells : List CellRef, (∀ d : CellRef, d ∈ cells ↔ Unacknowledged s p d)
          ∧ cells.Pairwise (fun d e => d.val < e.val)
          ∧ t.queue = s.queue ++ cells.map fun d =>
            ({ cell := d, first := .planNoAck, detail := 0, stamp := s.gen.timebase, further := 0 } : QueueEntry))
        ∧ (∃ d, Unacknowledged s p d)
        ∧ (∀ d : CellRef, Unacknowledged s p d →
          (t.cell d).service = .faulted ∧ (t.cell d).offset = none
          ∧ (t.cell d).fault = some {
              first := .planNoAck, detail := 0, stamp := s.gen.timebase, further := 0, kind := .soft, blind := false,
              reenrolled := false })
        ∧ (∀ d : CellRef, ¬Unacknowledged s p d →
          (t.cell d).service = (s.cell d).service ∧ (t.cell d).fault = (s.cell d).fault)
        ∧ (∃ w, t.seq.watch = some w ∧ w.starts = 0 ∧ ∀ d : CellRef, d ∈ w.cells ↔
          (s.cell d).service = .active ∧ (s.cell d).link ≠ .severed ∧ ¬Unacknowledged s p d)
        ∧ t.seq.attempts = s.seq.attempts ∧ t.seq.history = s.seq.history ∧ t.lock.trip = s.lock.trip)
    ∧ ((∀ d ∈ p.deselected, ∃ x, (s.cell d).report = some x ∧ x.bypass = 1) → k.iteration < 4 →
      s.store.storedCrc ≠ some (crc16 s.store.image) →
      (∀ d : CellRef, (p.offsetOf d).isSome = true → (s.cell d).service.working = true) →
      (∀ d ∈ p.deselected, (s.cell d).service = .active) →
      ∃ (t : State) (c : CellRef), exec .epochCheck s = .next t
        ∧ Unacknowledged s p c ∧ (∀ d : CellRef, Unacknowledged s p d → c.val ≤ d.val)
        ∧ t.seq.state = .tripped ∧ t.seq.tripCause = some .settingsCorrupt ∧ t.seq.scale = 0 ∧ t.seq.campaign = none
        ∧ t.seq.history = historyWith s {
            number := k.number, kind := k.kind, style := k.style, iteration := k.iteration + 1,
            set := (if c ∈ k.set then k.set else k.set ++ [c]).map (numberOf s.store.image), opened := k.opened,
            state := .block, pendingTag := none, issue := none, outcome := some (.tripped .settingsCorrupt) }
        ∧ t.plans = { pending := none, inForce := s.plans.inForce } ∧ t.lock.trip = true ∧ t.lock.holdReq = true
        ∧ (∀ d : CellRef, (t.cell d).service = .faulted ↔ (s.cell d).service = .faulted ∨ Unacknowledged s p d)
        ∧ ∃ cells : List CellRef, (∀ d : CellRef, d ∈ cells ↔ Unacknowledged s p d)
          ∧ cells.Pairwise (fun d e => d.val < e.val)
          ∧ t.queue = s.queue ++ cells.map fun d =>
            ({ cell := d, first := .planNoAck, detail := 0, stamp := s.gen.timebase, further := 0 } : QueueEntry)))
  ∧ ∀ (s : State) (k : Campaign) (p : Plan), Quiet s → s.seq.state = .plan → s.seq.campaign = some k →
    s.plans.pending = some p → 0 < cfgCyclePeriod s.store.image →
    ∃ (t : State) (lead : Nat), exec (.cycleStart none) s = .next t
      ∧ t.seq.state = .rephase ∧ t.seq.scale = 0 ∧ t.seq.campaign = some { k with issue := some 1 }
      ∧ Posts s t [.campaign .rephase s.seq.tripCause (some (recordAt s { k with issue := some 1 } .rephase))]
      ∧ t.seq.rephase = some { lead := lead, epoch := s.gen.cycle + 1 + BitVec.ofNat 16 lead }
      ∧ ((∀ d : CellRef, d ∉ p.deselected →
          ¬((p.offsetOf d).isSome = true ∧ (s.cell d).service = .reserve)) → lead = cfgRephaseLead s.store.image)
      ∧ (∀ (d : CellRef) (a : Ability) (b : Nat),
        (d ∈ p.deselected ∨ ((p.offsetOf d).isSome = true ∧ (s.cell d).service = .reserve)) →
        (s.cell d).ability = some a → b = cfgBypassTimeout s.store.image a.bypassKind →
        (∀ e : CellRef, (e ∈ p.deselected ∨ ((p.offsetOf e).isSome = true ∧ (s.cell e).service = .reserve)) →
          ∃ a', (s.cell e).ability = some a' ∧ cfgBypassTimeout s.store.image a'.bypassKind ≤ b) →
        lead = cfgRephaseLead s.store.image
          + (b * 1000 + cfgCyclePeriod s.store.image - 1) / cfgCyclePeriod s.store.image)
      ∧ t.plans = s.plans ∧ t.queue = s.queue ∧ t.lock = s.lock ∧ t.store.image = s.store.image
      ∧ t.store.mode = s.store.mode ∧ t.pending = s.pending
      ∧ ∀ d : CellRef, (t.cell d).service = (s.cell d).service ∧ (t.cell d).offset = (s.cell d).offset

/-! ### Slots, faults and active time -/

/-- The end of a slot (R30 to R33, R35, R54 to R56, R59): one that is not expected changes nothing, and the outcome is the
one of Table 2-4; a VALID response is 16 bytes with a good CRC-8 (polynomial 0x31, initial value 0xFF), read by the fields of
Table 12-9, a DC above 4095 being 4095 (R179); a miss of an ENROLLED cell raises its report age by 1 and its miss count by 6,
with an overrun flag for OVERRUN, the degraded flag at 60 while armed and the suspect flag at 120; a clean VALID response
inside the window writes the last good report, zeroes the report age and the debounce count, and lowers the miss count by 1;
one outside the window raises the debounce count, which at the setting raises DC_WINDOW and, for an ACTIVE cell in READY,
opens a FAULT campaign, or trips SETTINGS_CORRUPT where the settings CRC differs (R86). A SEVERED link's clean responses
raise its relink run to 48, which sets it DARK in AUTO and the relink_ready flag in HELD, and a miss zeroes the run. It rests
on the model's reading in log entries 12, 13, 18, 25, 42, 53 and 54. -/
def Obligations.SlotOutcomesMoveTheMissCount : Prop :=
  (∀ (c : CellRef) (seen : SlotSeen) (s : State),
    (s.expected c = false → exec (.slotEnd c seen) s = .next (settle s))
    ∧ (s.expected c = true → s.rings.healthOn = true → s.seq.watch = none → (s.cell c).link = .enrolled →
      ((judgeSlot seen = .missed ∨ judgeSlot seen = .invalid) → (s.cell c).missCount + 6 < 60 →
        exec (.slotEnd c seen) s = .next (settle (s.modCell c fun x => { x with
          reportAge := min 255 (x.reportAge + 1), missCount := x.missCount + 6 })))
      ∧ ∀ r : Response, judgeSlot seen = .valid r → r.classCode = 0 → r.message = .none →
        (s.cell c).service.working = true → (s.cell c).isolation = none → insideWindow s.store.image r.dc = true →
        exec (.slotEnd c seen) s = .next (settle (s.modCell c fun x => { x with
          report := some { gate := r.gate, bypass := r.bypass, classCode := 0, detail := r.detail, dc := r.dc,
                           tag := r.tag, stamp := s.gen.timebase }
          reportAge := 0
          missCount := x.missCount - 1
          degradedArmed := x.degradedArmed || decide (x.missCount - 1 ≤ 40)
          suspect := x.suspect && decide (100 < x.missCount - 1)
          dcDebounce := 0 }))))
  ∧ (∀ seen : SlotSeen,
    (seen.began = none → judgeSlot seen = (if seen.presentAtOpen then .invalid else .missed))
    ∧ ∀ g, seen.began = some g →
      (g.presentAtEnd = true → judgeSlot seen = .overrun)
      ∧ (g.presentAtEnd = false → (seen.presentAtOpen = true ∨ g.late = true) → judgeSlot seen = .invalid)
      ∧ (g.presentAtEnd = false → seen.presentAtOpen = false → g.late = false →
        (∀ r, readResponse g.bytes = some r → judgeSlot seen = .valid r)
        ∧ (readResponse g.bytes = none → judgeSlot seen = .invalid)))
  ∧ (∀ bytes : List Byte,
    ((bytes.length ≠ 16 ∨ byteField bytes 15 1 ≠ (crc8 (bytes.take 15)).toNat) → readResponse bytes = none)
    ∧ (bytes.length = 16 → byteField bytes 15 1 = (crc8 (bytes.take 15)).toNat →
      ∃ r : Response, readResponse bytes = some r
        ∧ r.gate.toNat = byteField bytes 0 1 / 16 ∧ r.bypass.toNat = byteField bytes 0 1 % 16
        ∧ r.classCode.toNat = byteField bytes 1 1 ∧ r.detail.toNat = byteField bytes 2 1
        ∧ r.dc = min 4095 (byteField bytes 3 2) ∧ r.tag.toNat = byteField bytes 5 1
        ∧ (byteField bytes 6 1 = 0 → r.message = .none)
        ∧ (byteField bytes 6 1 = 1 → ∃ a : Ability, r.message = .ability a
          ∧ a.serial.toNat = byteField bytes 7 4 ∧ a.ratedDc.toNat = byteField bytes 11 2
          ∧ a.cellClass.toNat = byteField bytes 13 1 / 16
          ∧ (a.bypassKind = .thyristor ↔ (byteField bytes 13 1).testBit 1 = true)
          ∧ a.halfRateCapable = (byteField bytes 13 1).testBit 0
          ∧ a.firmwareMajor.toNat = byteField bytes 14 1 / 16 ∧ a.firmwareMinor.toNat = byteField bytes 14 1 % 16)
        ∧ (byteField bytes 6 1 = 2 → ∃ serial, r.message = .accepted serial ∧ serial.toNat = byteField bytes 7 4)
        ∧ (byteField bytes 6 1 = 3 → ∃ final seq length data, r.message = .tunnel final seq length data
          ∧ final = (byteField bytes 7 1).testBit 6 ∧ seq.toNat = byteField bytes 7 1 / 16 % 4
          ∧ length.toNat = byteField bytes 7 1 % 8 ∧ data = (bytes.drop 8).take 4)
        ∧ (4 ≤ byteField bytes 6 1 → r.message = .other)))
  ∧ (crc8 [] = 0xFF ∧ ∀ (l : List Byte) (b : Byte), crc8 (l ++ [b])
      = (List.range 8).foldl (fun (v : Byte) (_ : Nat) => if v.msb = true then (v <<< 1) ^^^ 0x31 else v <<< 1) (crc8 l ^^^ b))
  ∧ (∀ (c : CellRef) (seen : SlotSeen) (s : State), Quiet s → s.expected c = true → s.rings.healthOn = true →
    s.seq.watch = none → (s.cell c).link = .enrolled → (∀ r, judgeSlot seen ≠ .valid r) →
    ∀ n : Nat, n = (s.cell c).missCount + 6 → n < 240 →
    ∃ t : State, exec (.slotEnd c seen) s = .next t
      ∧ t.cell c = { s.cell c with
          reportAge := min 255 ((s.cell c).reportAge + 1)
          missCount := n
          degradedArmed := (s.cell c).degradedArmed && decide (n < 60)
          suspect := (s.cell c).suspect || decide (120 ≤ n)
          flags := (s.cell c).flags
            ||| (if judgeSlot seen = .overrun then ReportFlag.overrun.mask else 0)
            ||| (if 60 ≤ n ∧ (s.cell c).degradedArmed = true then ReportFlag.degraded.mask else 0)
            ||| (if 120 ≤ n ∧ (s.cell c).suspect = false then ReportFlag.suspect.mask else 0) }
      ∧ (∀ d : CellRef, d ≠ c → t.cell d = s.cell d) ∧ t.seq = s.seq ∧ t.lock = s.lock ∧ t.plans = s.plans
      ∧ t.store = s.store ∧ t.rings = s.rings ∧ t.gen = s.gen ∧ t.queue = s.queue ∧ t.pending = s.pending)
  ∧ (∀ (c : CellRef) (seen : SlotSeen) (r : Response) (s : State), Quiet s → Answers c seen r s →
    s.seq.state = .ready → (s.cell c).link = .enrolled → (s.cell c).service.working = true → r.classCode = 0 →
    r.message = .none → insideWindow s.store.image r.dc = false →
    ∃ t : State, exec (.slotEnd c seen) s = .next t ∧ (t.cell c).report = some (reportOf r s.gen.timebase)
      ∧ ((s.cell c).dcDebounce + 1 < cfgDcDebounce s.store.image →
        (t.cell c).dcDebounce = (s.cell c).dcDebounce + 1 ∧ (t.cell c).service = (s.cell c).service
        ∧ (t.cell c).fault = (s.cell c).fault ∧ t.queue = s.queue ∧ t.seq.state = .ready)
      ∧ (cfgDcDebounce s.store.image ≤ (s.cell c).dcDebounce + 1 → (s.cell c).service = .active →
        (t.cell c).dcDebounce = 0 ∧ (t.cell c).service = .faulted ∧ (t.cell c).offset = none
        ∧ (t.cell c).fault = some {
            first := .dcWindow, detail := 0, stamp := s.gen.timebase, further := 0, kind := .soft, blind := false,
            reenrolled := false }
        ∧ t.queue = s.queue
          ++ [{ cell := c, first := .dcWindow, detail := 0, stamp := s.gen.timebase, further := 0 }]
        ∧ (s.seq.attempts.length < cfgAttemptBudget s.store.image →
          s.store.storedCrc = some (crc16 s.store.image) →
          t.seq.state = .block
          ∧ ∃ k, t.seq.campaign = some k ∧ k.kind = .fault ∧ k.set = s.queue.map QueueEntry.cell ++ [c])
        ∧ (s.seq.attempts.length < cfgAttemptBudget s.store.image → s.seq.heldHalt = false →
          s.store.storedCrc ≠ some (crc16 s.store.image) →
          CorruptTrip s t .fault 1 none (s.queue.map QueueEntry.cell ++ [c]) (numberAfter s.seq.lastNumber)
            s.gen.timebase)))
  ∧ ∀ (c : CellRef) (seen : SlotSeen) (s : State), Quiet s → s.expected c = true → s.rings.healthOn = true →
    s.seq.watch = none → s.seq.state ≠ .isolate → (s.cell c).link = .severed →
    ((∀ r, judgeSlot seen ≠ .valid r) →
      ∃ t : State, exec (.slotEnd c seen) s = .next t ∧ (t.cell c).link = .severed ∧ (t.cell c).goodRun = 0
        ∧ (t.cell c).missCount = (s.cell c).missCount ∧ t.seq = s.seq)
    ∧ ∀ r : Response, judgeSlot seen = .valid r → r.classCode = 0 →
      ∃ t : State, exec (.slotEnd c seen) s = .next t ∧ t.seq = s.seq
        ∧ (t.cell c).service = (s.cell c).service ∧ (t.cell c).report = some (reportOf r s.gen.timebase)
        ∧ ((s.cell c).goodRun + 1 < 48 →
          (t.cell c).link = .severed ∧ (t.cell c).goodRun = (s.cell c).goodRun + 1
          ∧ (t.cell c).flags = (s.cell c).flags)
        ∧ ((s.cell c).goodRun + 1 = 48 → cfgRelinkHeld s.store.image = true →
          (t.cell c).link = .severed ∧ (t.cell c).goodRun = 48
          ∧ (t.cell c).flags = (s.cell c).flags ||| ReportFlag.relinkReady.mask)
        ∧ ((s.cell c).goodRun + 1 = 48 → cfgRelinkHeld s.store.image = false →
          (t.cell c).link = .dark ∧ (t.cell c).goodRun = 0 ∧ (t.cell c).missCount = 0
          ∧ (t.cell c).severStamp = none)

/-- An ACTIVE cell severed (R8, R57, R66, R72): the link is SEVERED with miss count 240, the cell is FAULTED by LINK_LOST,
and its entry joins the queue. In READY a charged FAULT campaign opens in BLOCK for the whole queue and the tunnel exchanges
end (R42, R82), with the style of Table 7-2 (R123); with the attempt budget spent the charge is refused, a REFUSED record
closes and the sequencer is LOCKED (R83). In BLOCK the cell joins the set and leaves the gate-off watch, which ends BLOCK
where it was the last. In ISOLATE the cell joins the set, commanded CLOSE and on its blind wait. In TRIPPED and LOCKED the
entry stays queued and the sequencer's state does not change. From PLAN, REPHASE, AWAIT_RESUME and RAMP the campaign
re-enters BLOCK with its iteration one higher and no pending plan, HELD where its ride-through budget is spent, or trips
ITERATION_LIMIT at iteration 4 (R97). A class but BYPASS_FAIL reported by an ACTIVE cell, or by a RESERVE cell that the
pending plan names ACTIVE or whose bypass is not CLOSED, takes the same queued route with the class, detail and kind of the
report (R62, R63, R66, R72); in BLOCK the cell joins the set. Where the settings CRC differs from the stored one, a BLOCK
entry, the first or a later one, trips SETTINGS_CORRUPT: the first with the charge made and no style decided, a re-entry with
the iteration raised and the style kept (R86). It rests on the model's reading in log entries 12, 13, 15, 16, 18, 29, 49 and
54. -/
def Obligations.SeveredActiveCellOpensAFaultCampaign : Prop :=
  (∀ (c : CellRef) (seen : SlotSeen) (s : State), Quiet s → s.expected c = true → s.rings.healthOn = true →
    judgeSlot seen = .missed → (s.cell c).link = .enrolled → (s.cell c).service = .active →
    234 ≤ (s.cell c).missCount → s.seq.state = .ready →
    s.seq.attempts.length < cfgAttemptBudget s.store.image → s.store.storedCrc = some (crc16 s.store.image) →
    ∃ t : State, exec (.slotEnd c seen) s = .next t
      ∧ (t.cell c).link = .severed ∧ (t.cell c).missCount = 240 ∧ (t.cell c).severStamp = some s.gen.timebase
      ∧ (t.cell c).service = .faulted ∧ (t.cell c).offset = none ∧ (t.cell c).dcDebounce = 0
      ∧ (t.cell c).fault = some {
          first := .linkLost, detail := 0, stamp := s.gen.timebase, further := 0, kind := .soft, blind := false,
          reenrolled := false }
      ∧ t.queue = s.queue
          ++ [{ cell := c, first := .linkLost, detail := 0, stamp := s.gen.timebase, further := 0 }]
      ∧ t.seq.state = .block ∧ t.seq.scale = 0 ∧ t.seq.attempts = s.seq.attempts ++ [s.gen.timebase]
      ∧ (∃ k, t.seq.campaign = some k ∧ k.number = numberAfter s.seq.lastNumber ∧ k.kind = .fault ∧ k.iteration = 1
        ∧ k.set = s.queue.map QueueEntry.cell ++ [c] ∧ k.opened = s.gen.timebase
        ∧ Posts s t ([.campaign .block s.seq.tripCause (some (recordAt s k .block))] ++ lineChange s t))
      ∧ t.rings.mail = ⟨none, none, none⟩ ∧ t.plans = s.plans ∧ t.store = s.store ∧ t.gen = s.gen
      ∧ t.seq.history = s.seq.history ∧ t.seq.lastTag = s.seq.lastTag ∧ t.lock.trip = s.lock.trip
      ∧ t.lock.driveRun = s.lock.driveRun ∧ t.lock.brakeSet = s.lock.brakeSet ∧ t.lock.hoist = s.lock.hoist
      ∧ t.pending = s.pending ∧ ∀ d : CellRef, d ≠ c → t.cell d = { s.cell d with isolation := none })
  ∧ (∀ (c : CellRef) (seen : SlotSeen) (s : State), Quiet s → s.expected c = true → s.rings.healthOn = true →
    judgeSlot seen = .missed → (s.cell c).link = .enrolled → (s.cell c).service = .active →
    234 ≤ (s.cell c).missCount →
    (s.seq.state = .ready → s.seq.attempts.length < cfgAttemptBudget s.store.image →
      s.store.storedCrc = some (crc16 s.store.image) →
      ∃ (t : State) (k : Campaign), exec (.slotEnd c seen) s = .next t ∧ t.seq.campaign = some k
        ∧ (s.lock.driveRun.level = false →
          k.style = some .stopped ∧ t.lock.rideThrough = none ∧ t.lock.holdMark = false
          ∧ t.lock.brakeConfirm = none)
        ∧ (s.lock.driveRun.level = true → RunningAllowed s →
          k.style = some .running ∧ t.lock.rideThrough = some s.gen.timebase ∧ t.lock.holdMark = false
          ∧ t.lock.brakeConfirm = none)
        ∧ (s.lock.driveRun.level = true → ¬RunningAllowed s →
          k.style = some .held ∧ t.lock.rideThrough = none ∧ t.lock.holdMark = true ∧ t.lock.holdReq = true
          ∧ t.lock.brakeConfirm = (if s.lock.brakeSet.level then none else some s.gen.timebase)))
    ∧ (s.seq.state = .ready → s.seq.heldHalt = false → s.seq.attempts.length < cfgAttemptBudget s.store.image →
      s.store.storedCrc ≠ some (crc16 s.store.image) →
      ∃ t : State, exec (.slotEnd c seen) s = .next t
        ∧ CorruptTrip s t .fault 1 none (s.queue.map QueueEntry.cell ++ [c]) (numberAfter s.seq.lastNumber) s.gen.timebase
        ∧ t.seq.attempts = s.seq.attempts ++ [s.gen.timebase] ∧ t.seq.lastNumber = numberAfter s.seq.lastNumber
        ∧ (t.cell c).service = .faulted
        ∧ t.queue = s.queue
          ++ [{ cell := c, first := .linkLost, detail := 0, stamp := s.gen.timebase, further := 0 }]
        ∧ t.rings.mail = ⟨none, none, none⟩
        ∧ (∀ d : CellRef, d ≠ c → t.cell d = { s.cell d with isolation := none }) ∧ t.pending = s.pending)
    ∧ (s.seq.state = .ready → s.seq.heldHalt = false → cfgAttemptBudget s.store.image ≤ s.seq.attempts.length →
      ∃ t : State, exec (.slotEnd c seen) s = .next t
        ∧ t.seq.state = .locked ∧ t.seq.scale = 0 ∧ t.seq.campaign = s.seq.campaign
        ∧ t.seq.attempts = s.seq.attempts ∧ t.seq.lastNumber = numberAfter s.seq.lastNumber
        ∧ t.seq.tripCause = s.seq.tripCause
        ∧ t.seq.history = historyWith s {
            number := numberAfter s.seq.lastNumber, kind := .fault, style := none, iteration := 1,
            set := (s.queue.map QueueEntry.cell ++ [c]).map (numberOf s.store.image), opened := s.gen.timebase,
            state := .ready, pendingTag := none, issue := none, outcome := some .refused }
        ∧ t.lock.trip = true ∧ t.lock.holdReq = true ∧ (t.cell c).service = .faulted
        ∧ t.queue = s.queue
          ++ [{ cell := c, first := .linkLost, detail := 0, stamp := s.gen.timebase, further := 0 }]
        ∧ t.plans = s.plans ∧ t.rings.mail = ⟨none, none, none⟩ ∧ t.pending = s.pending)
    ∧ (s.seq.state ∈ [SeqState.tripped, .locked] → s.seq.watch = none →
      ∃ t : State, exec (.slotEnd c seen) s = .next t ∧ t.seq = s.seq ∧ t.lock = s.lock ∧ t.plans = s.plans
        ∧ (t.cell c).link = .severed ∧ (t.cell c).service = .faulted ∧ Posts s t []
        ∧ t.queue = s.queue
          ++ [{ cell := c, first := .linkLost, detail := 0, stamp := s.gen.timebase, further := 0 }]
        ∧ (∀ d : CellRef, d ≠ c → t.cell d = s.cell d) ∧ t.store = s.store ∧ t.pending = s.pending)
    ∧ ∀ k : Campaign, s.seq.campaign = some k →
      (∀ w : Watch, s.seq.state = .block → s.seq.watch = some w →
        (∀ d ∈ w.cells, (s.cell d).service = .active ∧ (s.cell d).link ≠ .severed) →
        ∃ t : State, exec (.slotEnd c seen) s = .next t ∧ (t.cell c).link = .severed
          ∧ (t.cell c).service = .faulted ∧ t.plans = s.plans ∧ t.lock = s.lock
          ∧ t.queue = s.queue
            ++ [{ cell := c, first := .linkLost, detail := 0, stamp := s.gen.timebase, further := 0 }]
          ∧ ((w.starts = 0 ∨ (∃ d ∈ w.cells, d ≠ c)
              ∨ (k.kind = .start ∧ k.iteration = 1 ∧ s.seq.enrolRun = false)) →
            t.seq = { s.seq with
              campaign := some { k with set := if c ∈ k.set then k.set else k.set ++ [c] }
              watch := some { w with cells := w.cells.filter (· ≠ c) } }
            ∧ (∀ d : CellRef, d ≠ c → t.cell d = s.cell d) ∧ Posts s t [])
          ∧ (1 ≤ w.starts → (∀ d ∈ w.cells, d = c) →
            (k.kind ≠ .start ∨ k.iteration ≠ 1 ∨ s.seq.enrolRun = true) →
            t.seq.state = .isolate ∧ t.seq.watch = none ∧ (t.cell c).isolation = some (.blind s.gen.timebase)
            ∧ t.seq.campaign = some { k with issue := none, set := if c ∈ k.set then k.set else k.set ++ [c] }))
      ∧ (s.seq.state = .isolate → s.seq.watch = none →
        ∃ t : State, exec (.slotEnd c seen) s = .next t ∧ t.seq.state = .isolate
          ∧ t.seq.campaign = some { k with set := if c ∈ k.set then k.set else k.set ++ [c] }
          ∧ (t.cell c).service = .faulted ∧ (t.cell c).faultedClose = true
          ∧ (t.cell c).isolation = some (.blind s.gen.timebase) ∧ t.plans = s.plans ∧ t.lock = s.lock
          ∧ ∀ d : CellRef, d ≠ c → t.cell d = s.cell d)
      ∧ (s.seq.state ∈ [SeqState.plan, .rephase, .awaitResume, .ramp] → k.iteration < 4 →
        s.store.storedCrc = some (crc16 s.store.image) →
        ∃ t : State, exec (.slotEnd c seen) s = .next t ∧ t.seq.state = .block ∧ t.seq.scale = 0
          ∧ t.seq.campaign = some { k with
              iteration := k.iteration + 1
              set := if c ∈ k.set then k.set else k.set ++ [c]
              pendingTag := none
              issue := none
              style := if k.style = some .running ∧ s.lock.budgetSpent = true then some .held else k.style }
          ∧ t.plans = { pending := none, inForce := s.plans.inForce } ∧ t.seq.attempts = s.seq.attempts
          ∧ t.seq.history = s.seq.history ∧ t.lock.trip = s.lock.trip ∧ t.lock.rampCount = 0
          ∧ t.lock.resumeTimer = none ∧ (t.cell c).service = .faulted ∧ (t.cell c).link = .severed
          ∧ (∃ w, t.seq.watch = some w ∧ w.starts = 0
            ∧ ∀ d : CellRef, d ∈ w.cells ↔ d ≠ c ∧ (s.cell d).service = .active ∧ (s.cell d).link ≠ .severed)
          ∧ ∀ d : CellRef, d ≠ c → t.cell d = { s.cell d with isolation := none })
      ∧ (s.seq.state ∈ [SeqState.plan, .rephase, .awaitResume, .ramp] → 4 ≤ k.iteration →
        s.seq.heldHalt = false →
        ∃ t : State, exec (.slotEnd c seen) s = .next t ∧ t.seq.state = .tripped
          ∧ t.seq.tripCause = some .iterationLimit ∧ t.seq.scale = 0 ∧ t.seq.campaign = none
          ∧ t.seq.history = historyWith s (closedWith s k (.tripped .iterationLimit))
          ∧ Posts s t ([.campaign .tripped (some .iterationLimit) (some (closedWith s k (.tripped .iterationLimit)))]
            ++ lineChange s t)
          ∧ t.plans = { pending := none, inForce := s.plans.inForce } ∧ t.lock.trip = true
          ∧ t.lock.holdReq = true ∧ (t.cell c).service = .faulted
          ∧ t.queue = s.queue
            ++ [{ cell := c, first := .linkLost, detail := 0, stamp := s.gen.timebase, further := 0 }])
      ∧ (s.seq.state ∈ [SeqState.plan, .rephase, .awaitResume, .ramp] → k.iteration < 4 → s.seq.heldHalt = false →
        s.store.storedCrc ≠ some (crc16 s.store.image) →
        ∃ t : State, exec (.slotEnd c seen) s = .next t
          ∧ CorruptTrip s t k.kind (k.iteration + 1) k.style (if c ∈ k.set then k.set else k.set ++ [c]) k.number k.opened
          ∧ t.seq.attempts = s.seq.attempts ∧ t.seq.lastNumber = s.seq.lastNumber ∧ (t.cell c).service = .faulted
          ∧ t.queue = s.queue
            ++ [{ cell := c, first := .linkLost, detail := 0, stamp := s.gen.timebase, further := 0 }]
          ∧ (∀ d : CellRef, d ≠ c → t.cell d = { s.cell d with isolation := none }) ∧ t.pending = s.pending))
  ∧ ∀ (c : CellRef) (seen : SlotSeen) (r : Response) (cls : FaultClass) (detail : Byte) (s : State), Quiet s →
    Answers c seen r s → r.classCode ≠ 0 → r.classCode ≠ 7 → r.message = .none → (s.cell c).link = .enrolled →
    insideWindow s.store.image r.dc = true → (s.cell c).isolation = none → s.seq.state ≠ .off →
    cls = (faultOfCode r.classCode r.detail).1 →
    detail = (if cls = .internal ∧ cfgExtendedDetail s.store.image = true then (faultOfCode r.classCode r.detail).2
      else 0) →
    ((s.cell c).service = .active ∨ ((s.cell c).service = .reserve
      ∧ (r.bypass ≠ 1 ∨ ∃ p, s.plans.pending = some p ∧ (p.offsetOf c).isSome = true))) →
    ((s.seq.state = .ready ∧ s.seq.attempts.length < cfgAttemptBudget s.store.image
        ∧ s.store.storedCrc = some (crc16 s.store.image))
      ∨ (s.seq.state = .block ∧ ∃ w, s.seq.watch = some w ∧ ∃ d ∈ w.cells, d ≠ c ∧ (s.cell d).service = .active
        ∧ (s.cell d).link ≠ .severed)
      ∨ (s.seq.state = .isolate ∧ s.seq.watch = none)
      ∨ (s.seq.state ∈ [SeqState.plan, .rephase, .awaitResume, .ramp] ∧ s.store.storedCrc = some (crc16 s.store.image)
        ∧ ∃ k, s.seq.campaign = some k ∧ k.iteration < 4)) →
    ∃ t : State, exec (.slotEnd c seen) s = .next t
      ∧ (t.cell c).report = some (reportOf r s.gen.timebase) ∧ (t.cell c).reportAge = 0
      ∧ (t.cell c).service = .faulted ∧ (t.cell c).offset = none ∧ (t.cell c).dcDebounce = 0
      ∧ (t.cell c).fault = some {
          first := cls, detail := detail, stamp := s.gen.timebase, further := 0, kind := cls.kind, blind := false,
          reenrolled := false }
      ∧ (t.cell c).flags = (s.cell c).flags ||| ReportFlag.stateChanged.mask ||| ReportFlag.faultSeen.mask
      ∧ (t.cell c).strikes = (s.cell c).strikes ∧ (t.cell c).link = .enrolled
      ∧ t.queue = s.queue
          ++ [{ cell := c, first := cls, detail := detail, stamp := s.gen.timebase, further := 0 }]
      ∧ t.store = s.store ∧ t.gen = s.gen ∧ t.pending = s.pending ∧ t.lock.trip = s.lock.trip
      ∧ (s.seq.state = .ready →
        t.seq.state = .block ∧ t.seq.scale = 0 ∧ t.seq.attempts = s.seq.attempts ++ [s.gen.timebase]
        ∧ (∃ k, t.seq.campaign = some k ∧ k.number = numberAfter s.seq.lastNumber ∧ k.kind = .fault ∧ k.iteration = 1
          ∧ k.set = s.queue.map QueueEntry.cell ++ [c] ∧ k.opened = s.gen.timebase)
        ∧ ∀ d : CellRef, d ≠ c → t.cell d = { s.cell d with isolation := none })
      ∧ (∀ k : Campaign, s.seq.campaign = some k →
        (s.seq.state = .block →
          t.seq.state = .block ∧ t.seq.campaign = some { k with set := if c ∈ k.set then k.set else k.set ++ [c] }
          ∧ (∃ w, t.seq.watch = some w ∧ c ∉ w.cells) ∧ t.plans = s.plans ∧ t.lock = s.lock
          ∧ ∀ d : CellRef, d ≠ c → t.cell d = s.cell d)
        ∧ (s.seq.state = .isolate →
          t.seq.state = .isolate ∧ t.seq.campaign = some { k with set := if c ∈ k.set then k.set else k.set ++ [c] }
          ∧ (t.cell c).faultedClose = true ∧ (t.cell c).isolation = some (.bypass s.gen.timebase)
          ∧ t.plans = s.plans ∧ t.lock = s.lock ∧ ∀ d : CellRef, d ≠ c → t.cell d = s.cell d)
        ∧ (s.seq.state ∈ [SeqState.plan, .rephase, .awaitResume, .ramp] →
          t.seq.state = .block ∧ t.seq.scale = 0
          ∧ t.seq.campaign = some { k with
              iteration := k.iteration + 1
              set := if c ∈ k.set then k.set else k.set ++ [c]
              pendingTag := none
              issue := none
              style := if k.style = some .running ∧ s.lock.budgetSpent = true then some .held else k.style }
          ∧ t.plans = { pending := none, inForce := s.plans.inForce } ∧ t.seq.attempts = s.seq.attempts
          ∧ ∀ d : CellRef, d ≠ c → t.cell d = { s.cell d with isolation := none }))

/-- A reported fault of a parked RESERVE cell by the direct route (R8, R14, R67): a fresh fault record, one more strike,
BYPASSED or LOCKED_OUT by the strike limit; no queue entry is made and the sequencer is not told. The severing of a RESERVE
cell that no pending plan names ACTIVE goes the same way by LINK_LOST (R57, R67). A class but BYPASS_FAIL reported by a cell
already FAULTED, BYPASSED or LOCKED_OUT (R69, R70): one that its record holds is absorbed; a new one joins the further set of
the record and of the cell's queue entries, with fault_seen; a cell without a record gets one. Its service state and strikes
stay, and the sequencer is not told. The class of a received code (R62): codes 1 to 7 name the cell classes, and every other
code but 0 is INTERNAL with detail 0; and the kind of each class (Table 4-1). It rests on the model's reading in log entries
29 and 54. -/
def Obligations.ParkedCellFaultsByTheDirectRoute : Prop :=
  (∀ (c : CellRef) (seen : SlotSeen) (r : Response) (s : State), Quiet s → s.expected c = true →
    s.rings.healthOn = true → judgeSlot seen = .valid r → r.classCode ≠ 0 → r.classCode ≠ 7 → r.bypass = 1 →
    r.message = .none → insideWindow s.store.image r.dc = true → s.seq.state ≠ .off → s.seq.watch = none →
    (s.cell c).service = .reserve → (s.cell c).link = .enrolled → (s.cell c).isolation = none →
    (∀ p, s.plans.pending = some p → p.offsetOf c = none) →
    ∃ t : State, exec (.slotEnd c seen) s = .next t
      ∧ (t.cell c).strikes = min 7 ((s.cell c).strikes + 1)
      ∧ (t.cell c).service
        = (if cfgStrikeLimit s.store.image ≤ min 7 ((s.cell c).strikes + 1) then .lockedOut else .bypassed)
      ∧ (∃ f, (t.cell c).fault = some f ∧ f.first = (faultOfCode r.classCode r.detail).1
        ∧ f.kind = (faultOfCode r.classCode r.detail).1.kind ∧ f.stamp = s.gen.timebase ∧ f.further = 0
        ∧ f.blind = false ∧ f.reenrolled = false)
      ∧ (t.cell c).flags = (s.cell c).flags ||| ReportFlag.stateChanged.mask ||| ReportFlag.faultSeen.mask
      ∧ t.queue = s.queue ∧ t.seq = s.seq ∧ t.lock = s.lock ∧ t.plans = s.plans ∧ t.store = s.store
      ∧ t.rings = s.rings ∧ t.gen = s.gen ∧ t.pending = s.pending ∧ ∀ d : CellRef, d ≠ c → t.cell d = s.cell d)
  ∧ (∀ (c : CellRef) (seen : SlotSeen) (r : Response) (s : State) (cls : FaultClass), Quiet s → Answers c seen r s →
    r.classCode ≠ 0 → r.classCode ≠ 7 → r.message = .none → (s.cell c).link = .enrolled →
    (s.cell c).isolation = none → s.seq.state ≠ .off → s.seq.watch = none →
    ((s.cell c).service = .faulted ∨ (s.cell c).service = .bypassed ∨ (s.cell c).service = .lockedOut) →
    cls = (faultOfCode r.classCode r.detail).1 →
    ∃ t : State, exec (.slotEnd c seen) s = .next t
      ∧ (t.cell c).service = (s.cell c).service ∧ (t.cell c).strikes = (s.cell c).strikes
      ∧ (t.cell c).report = some (reportOf r s.gen.timebase)
      ∧ (∀ f, (s.cell c).fault = some f → (f.first = cls ∨ f.further &&& cls.mask ≠ 0) →
        (t.cell c).fault = some f ∧ (t.cell c).flags = (s.cell c).flags ∧ t.queue = s.queue)
      ∧ (∀ f, (s.cell c).fault = some f → f.first ≠ cls → f.further &&& cls.mask = 0 →
        (t.cell c).fault = some { f with further := f.further ||| cls.mask }
        ∧ (t.cell c).flags = (s.cell c).flags ||| ReportFlag.faultSeen.mask
        ∧ t.queue = s.queue.map fun e => if e.cell = c then { e with further := e.further ||| cls.mask } else e)
      ∧ ((s.cell c).fault = none →
        (∃ f, (t.cell c).fault = some f ∧ f.first = cls ∧ f.kind = cls.kind ∧ f.stamp = s.gen.timebase
          ∧ f.further = 0 ∧ f.blind = false ∧ f.reenrolled = false
          ∧ f.detail = (if cls = .internal ∧ cfgExtendedDetail s.store.image = true then
              (faultOfCode r.classCode r.detail).2 else 0))
        ∧ (t.cell c).flags = (s.cell c).flags ||| ReportFlag.faultSeen.mask ∧ t.queue = s.queue)
      ∧ t.seq = s.seq ∧ t.lock = s.lock ∧ t.plans = s.plans ∧ t.store = s.store ∧ t.rings = s.rings ∧ t.gen = s.gen
      ∧ t.pending = s.pending ∧ ∀ d : CellRef, d ≠ c → t.cell d = s.cell d)
  ∧ (∀ (c : CellRef) (seen : SlotSeen) (s : State), Quiet s → s.expected c = true → s.rings.healthOn = true →
    judgeSlot seen = .missed → (s.cell c).link = .enrolled → (s.cell c).service = .reserve →
    234 ≤ (s.cell c).missCount → (s.cell c).isolation = none → s.seq.state ≠ .off → s.seq.watch = none →
    (∀ p, s.plans.pending = some p → p.offsetOf c = none) →
    ∃ t : State, exec (.slotEnd c seen) s = .next t
      ∧ (t.cell c).link = .severed ∧ (t.cell c).missCount = 240 ∧ (t.cell c).severStamp = some s.gen.timebase
      ∧ (t.cell c).strikes = min 7 ((s.cell c).strikes + 1)
      ∧ (t.cell c).service
        = (if cfgStrikeLimit s.store.image ≤ min 7 ((s.cell c).strikes + 1) then .lockedOut else .bypassed)
      ∧ (t.cell c).fault = some {
          first := .linkLost, detail := 0, stamp := s.gen.timebase, further := 0, kind := .soft, blind := false,
          reenrolled := false }
      ∧ (t.cell c).flags = (s.cell c).flags
          ||| (if (s.cell c).degradedArmed then ReportFlag.degraded.mask else 0)
          ||| (if (s.cell c).suspect then 0 else ReportFlag.suspect.mask)
          ||| ReportFlag.severed.mask ||| ReportFlag.stateChanged.mask ||| ReportFlag.faultSeen.mask
      ∧ (t.cell c).report = (s.cell c).report ∧ (t.cell c).reportAge = min 255 ((s.cell c).reportAge + 1)
      ∧ (∀ x, s.rings.mail.get (phaseOf c) = some x → x.cell = c →
        t.rings.mail = s.rings.mail.set (phaseOf c) none
        ∧ t.link.replies = s.link.replies ++ [replyRecord 0x13 x.tag .notLinked []])
      ∧ ((∀ x, s.rings.mail.get (phaseOf c) = some x → x.cell ≠ c) →
        t.rings.mail = s.rings.mail ∧ t.link.replies = s.link.replies)
      ∧ t.rings.lit = s.rings.lit ∧ t.rings.healthOn = s.rings.healthOn ∧ t.rings.frames = s.rings.frames
      ∧ t.queue = s.queue ∧ t.seq = s.seq ∧ t.lock = s.lock ∧ t.plans = s.plans ∧ t.store = s.store ∧ t.gen = s.gen
      ∧ t.pending = s.pending ∧ ∀ d : CellRef, d ≠ c → t.cell d = s.cell d)
  ∧ (∀ detail : Byte, ([1, 2, 3, 4, 5, 6, 7] : List Byte).map (fun code => faultOfCode code detail)
    = [(.overcurrent, detail), (.dcOvervolt, detail), (.dcUndervolt, detail), (.overtemp, detail),
       (.gateDriver, detail), (.internal, detail), (.bypassFail, detail)])
  ∧ (∀ code detail : Byte, 8 ≤ code.toNat → faultOfCode code detail = (.internal, 0))
  ∧ [FaultClass.overcurrent, .dcOvervolt, .dcUndervolt, .overtemp, .gateDriver, .internal, .bypassFail, .linkLost,
      .dcWindow, .noGateOff, .planNoAck].map FaultClass.kind
    = [.hard, .hard, .soft, .soft, .hard, .hard, .hard, .soft, .soft, .hard, .soft]

/-- A second tick (R18, R25): a cell whose gate is ON in the frame of the cycle in progress gains 1 s of active time,
saturating, and no other cell changes. -/
def Obligations.SecondTickAddsActiveTime : Prop :=
  ∀ s : State, Quiet s →
    ∃ t : State, exec .secondTick s = .next t ∧ t = { s with cells := t.cells }
      ∧ ∀ d : CellRef,
        ((∃ f x, s.rings.frames = some f ∧ (f.get (phaseOf d)).fields[positionOf d - 1]? = some x ∧ x.gateOn = true) →
          t.cell d = { s.cell d with activeTime := min 4294967295 ((s.cell d).activeTime + 1) })
        ∧ ((∀ f x, s.rings.frames = some f → (f.get (phaseOf d)).fields[positionOf d - 1]? = some x →
            x.gateOn = false) → t.cell d = s.cell d)

/-! ### The plan unit's arithmetic -/

/-- R110: the carrier period is 40,000,000 ÷ f_c rounded half up, computed by floor((80,000,000 + f_c) ÷ (2 × f_c)); the
numerator fits 32 bits and the period lies between 20,000 and 200,000 ticks. It depends on the settings alone. -/
def Obligations.CarrierPeriodIsRoundedHalfUp : Prop :=
  ∀ image : List Byte, 200 ≤ cfgCarrier image → cfgCarrier image ≤ 2000 →
    carrierPeriod image = (80000000 + cfgCarrier image) / (2 * cfgCarrier image)
    ∧ 2 * cfgCarrier image * carrierPeriod image ≤ 2 * 40000000 + cfgCarrier image
    ∧ 2 * 40000000 + cfgCarrier image < 2 * cfgCarrier image * (carrierPeriod image + 1)
    ∧ 80000000 + cfgCarrier image ≤ 80002000 ∧ 80002000 < 2 ^ 32
    ∧ 20000 ≤ carrierPeriod image ∧ carrierPeriod image ≤ 200000

/-- The carrier offsets (R111): the k-th cell of phase j takes floor(P × (3k + j) ÷ (6m)); over a plan's 3m cells the offsets
are pairwise distinct, each is below half the period, and neighbouring indices lie at least floor(P ÷ (6m)) apart, which is
at least 416 ticks. -/
def Obligations.CarrierOffsetsInterleave : Prop :=
  ∀ period m : Nat, 20000 ≤ period → period ≤ 200000 → 1 ≤ m → m ≤ 8 →
    416 ≤ period / (6 * m)
    ∧ (∀ j k : Nat, j < 3 → k < m → carrierOffset period m j k = period * (3 * k + j) / (6 * m)
      ∧ 2 * carrierOffset period m j k < period)
    ∧ ∀ j k j' k' : Nat, j < 3 → j' < 3 → k < m → k' < m → 3 * k + j < 3 * k' + j' →
      carrierOffset period m j k + period / (6 * m) ≤ carrierOffset period m j' k'

/-- R112, R113: a plan's speed ceiling is the lesser of the rated speed and the rated speed's share by its voltage ceiling;
the product fits 32 bits, the speed ceiling never exceeds the rated speed and the voltage ceiling never exceeds 20,058 V. The
voltage ceiling itself is, by R112's formula, floor(Smin × M × 5017 ÷ 8,388,608), Smin being the smallest of the three sums
of the last good DC reports of a phase's active list and M the modulation limit. -/
def Obligations.CeilingsAreBounded : Prop :=
  ∀ (s : State) (prefer : Bool) (tag : Byte) (p : Plan), computePlan s prefer tag = some p →
    500 ≤ cfgRatedSpeed s.store.image → cfgRatedSpeed s.store.image ≤ 20000 →
    1000 ≤ cfgRatedVoltage s.store.image → cfgRatedVoltage s.store.image ≤ 15000 →
    512 ≤ cfgModulation s.store.image → cfgModulation s.store.image ≤ 1024 → cfgDcHigh s.store.image ≤ 4094 →
    p.speed = min (cfgRatedSpeed s.store.image)
      (cfgRatedSpeed s.store.image * p.voltage / cfgRatedVoltage s.store.image)
    ∧ cfgRatedSpeed s.store.image * p.voltage ≤ 401160000 ∧ 401160000 < 2 ^ 32
    ∧ p.speed ≤ cfgRatedSpeed s.store.image ∧ p.voltage ≤ 20058
    ∧ ∃ sum : Phase → Nat,
      (∀ ph : Phase, sum ph = ((p.active.get ph).map fun x => ((s.cell x.1).report.map Report.dc).getD 0).sum)
      ∧ p.voltage = min (sum .a) (min (sum .b) (sum .c)) * cfgModulation s.store.image * 5017 / 8388608

/-- The plan computed from the roster (R104, R106, R107, R108, R111): none exactly when the smallest candidate set is empty
or below the minimum active count; otherwise m cells in each phase, m being the size of the smallest set, every one a
candidate of its phase, in strictly ascending position with the offsets of R111, and the deselected list exactly the ACTIVE
cells of no active list, in record order, which is ascending cell number but after a storage fault (log entry 56). A
candidate is an ACTIVE or RESERVE cell, ENROLLED and not suspect, whose last good report lies inside the DC window. A chosen
cell comes before every candidate of its phase that is not chosen: ACTIVE before RESERVE where the kind prefers active cells,
then less active time, then lower position. It rests on the model's reading in log entries 24 and 56. -/
def Obligations.PlanTakesEquallyManyCandidates : Prop :=
  ∀ (s : State) (prefer : Bool) (tag : Byte) (m : Nat),
    m = min (candidates s .a).length (min (candidates s .b).length (candidates s .c).length) →
    (computePlan s prefer tag = none ↔ m = 0 ∨ m < cfgMinActive s.store.image)
    ∧ ∀ p : Plan, computePlan s prefer tag = some p →
      p.tag = tag ∧ p.m = m
      ∧ (∀ ph : Phase, (p.active.get ph).length = m
        ∧ (p.active.get ph).Pairwise (fun x y => positionOf x.1 < positionOf y.1)
        ∧ (∀ x ∈ p.active.get ph, phaseOf x.1 = ph ∧ isCandidate s x.1 = true)
        ∧ ∀ (k : Nat) (x : CellRef × Nat), (p.active.get ph)[k]? = some x →
          x.2 = carrierOffset (carrierPeriod s.store.image) m ph.index k)
      ∧ (∀ c : CellRef, isCandidate s c = true ↔
        (s.cell c).service.working = true ∧ (s.cell c).link = .enrolled ∧ (s.cell c).suspect = false
        ∧ ∃ r, (s.cell c).report = some r ∧ r.dc ≠ 4095 ∧ cfgDcLow s.store.image ≤ r.dc
          ∧ r.dc ≤ cfgDcHigh s.store.image)
      ∧ (∀ (x : CellRef × Nat) (d : CellRef), x ∈ p.active.get (phaseOf d) → isCandidate s d = true →
        (∀ y ∈ p.active.get (phaseOf d), y.1 ≠ d) →
        (prefer = true ∧ (s.cell x.1).service = .active ∧ (s.cell d).service ≠ .active)
        ∨ ((prefer = false ∨ ((s.cell x.1).service = .active ↔ (s.cell d).service = .active))
          ∧ ((s.cell x.1).activeTime < (s.cell d).activeTime
            ∨ ((s.cell x.1).activeTime = (s.cell d).activeTime ∧ positionOf x.1 < positionOf d))))
      ∧ p.deselected.Pairwise (fun c d => c.val < d.val)
      ∧ ∀ c : CellRef, c ∈ p.deselected
        ↔ (s.cell c).service = .active ∧ ∀ ph : Phase, ∀ x ∈ p.active.get ph, x.1 ≠ c

/-! ### Invariants that every step keeps -/

/-- Every step keeps the bounds of the request buffer, the reply list, the urgent list and the campaign history (R78, R156,
R159, R166). -/
def Obligations.StepKeepsTheListBounds : Prop :=
  ∀ s t : State, ListsBounded s → step s = .next t → ListsBounded t

/-- Every step keeps what the device mode fixes: the sequencer OFF outside SERVICE, the frozen flag and the stored CRC (R75,
R137, R144). -/
def Obligations.StepKeepsTheModeAgreement : Prop :=
  ∀ s t : State, ModeAgrees s → step s = .next t → ModeAgrees t

/-- Every step keeps the carrier offset to ACTIVE cells (R11). -/
def Obligations.StepKeepsOffsetsToActiveCells : Prop :=
  ∀ s t : State, OffsetOnlyWhileActive s → step s = .next t → OffsetOnlyWhileActive t

/-- Every step keeps a miss count of 240 as the mark of a SEVERED link, and no count above it (R54, R58). -/
def Obligations.StepKeepsMissCountMarkingSevered : Prop :=
  ∀ s t : State, MissCountMarksSevered s → step s = .next t → MissCountMarksSevered t

/-- The reset state meets the four invariants. -/
def Obligations.ResetMeetsTheInvariants : Prop :=
  ListsBounded State.reset ∧ ModeAgrees State.reset ∧ OffsetOnlyWhileActive State.reset
    ∧ MissCountMarksSevered State.reset
end

