-- ==== Sys2Proof/Laws/State.lean ====
section
/-! SUPPORT. One lemma for each field under each update of State: what the updates of one record, of every record and of the
reply list leave as it was, and what they write. -/

namespace Sys2Proof.Machine

open Sys2Proof

variable (s : State) (c d : CellRef) (x : Cell) (f : Cell → Cell) (g : CellRef → Cell → Cell)

/-! ### One record -/

@[simp] theorem setCell_store : (s.setCell c x).store = s.store := rfl
@[simp] theorem setCell_gen : (s.setCell c x).gen = s.gen := rfl
@[simp] theorem setCell_rings : (s.setCell c x).rings = s.rings := rfl
@[simp] theorem setCell_queue : (s.setCell c x).queue = s.queue := rfl
@[simp] theorem setCell_seq : (s.setCell c x).seq = s.seq := rfl
@[simp] theorem setCell_plans : (s.setCell c x).plans = s.plans := rfl
@[simp] theorem setCell_lock : (s.setCell c x).lock = s.lock := rfl
@[simp] theorem setCell_link : (s.setCell c x).link = s.link := rfl
@[simp] theorem setCell_notices : (s.setCell c x).notices = s.notices := rfl
@[simp] theorem setCell_pending : (s.setCell c x).pending = s.pending := rfl

@[simp] theorem cell_setCell_same : (s.setCell c x).cell c = x := by
  show (s.cells.set c.val x c.isLt)[c.val] = x
  exact Vector.getElem_set_self _

@[simp] theorem cell_setCell_ne (h : d ≠ c) : (s.setCell c x).cell d = s.cell d := by
  show (s.cells.set c.val x c.isLt)[d.val] = s.cells[d.val]
  exact Vector.getElem_set_ne _ _ fun e => h (Fin.ext e.symm)

@[simp] theorem modCell_store : (s.modCell c f).store = s.store := rfl
@[simp] theorem modCell_gen : (s.modCell c f).gen = s.gen := rfl
@[simp] theorem modCell_rings : (s.modCell c f).rings = s.rings := rfl
@[simp] theorem modCell_queue : (s.modCell c f).queue = s.queue := rfl
@[simp] theorem modCell_seq : (s.modCell c f).seq = s.seq := rfl
@[simp] theorem modCell_plans : (s.modCell c f).plans = s.plans := rfl
@[simp] theorem modCell_lock : (s.modCell c f).lock = s.lock := rfl
@[simp] theorem modCell_link : (s.modCell c f).link = s.link := rfl
@[simp] theorem modCell_notices : (s.modCell c f).notices = s.notices := rfl
@[simp] theorem modCell_pending : (s.modCell c f).pending = s.pending := rfl

@[simp] theorem cell_modCell_same : (s.modCell c f).cell c = f (s.cell c) := by simp [State.modCell]

@[simp] theorem cell_modCell_ne (h : d ≠ c) : (s.modCell c f).cell d = s.cell d := by simp [State.modCell, h]

/-! ### Every record -/

@[simp] theorem mapCells_store : (s.mapCells g).store = s.store := by simp only [State.mapCells]
@[simp] theorem mapCells_gen : (s.mapCells g).gen = s.gen := by simp only [State.mapCells]
@[simp] theorem mapCells_rings : (s.mapCells g).rings = s.rings := by simp only [State.mapCells]
@[simp] theorem mapCells_queue : (s.mapCells g).queue = s.queue := by simp only [State.mapCells]
@[simp] theorem mapCells_seq : (s.mapCells g).seq = s.seq := by simp only [State.mapCells]
@[simp] theorem mapCells_plans : (s.mapCells g).plans = s.plans := by simp only [State.mapCells]
@[simp] theorem mapCells_lock : (s.mapCells g).lock = s.lock := by simp only [State.mapCells]
@[simp] theorem mapCells_link : (s.mapCells g).link = s.link := by simp only [State.mapCells]
@[simp] theorem mapCells_notices : (s.mapCells g).notices = s.notices := by simp only [State.mapCells]
@[simp] theorem mapCells_pending : (s.mapCells g).pending = s.pending := by simp only [State.mapCells]

@[simp] theorem cell_mapCells : (s.mapCells g).cell c = g c (s.cell c) := by
  show (Vector.ofFn fun d => g d (s.cell d))[c.val] = g c (s.cell c)
  exact Vector.getElem_ofFn _

/-! ### Replies -/

variable (t tag : Byte) (code : ReplyCode) (body : List Byte)

@[simp] theorem pushReply_store : (pushReply t tag code body s).store = s.store := rfl
@[simp] theorem pushReply_gen : (pushReply t tag code body s).gen = s.gen := rfl
@[simp] theorem pushReply_rings : (pushReply t tag code body s).rings = s.rings := rfl
@[simp] theorem pushReply_cells : (pushReply t tag code body s).cells = s.cells := rfl
@[simp] theorem pushReply_queue : (pushReply t tag code body s).queue = s.queue := rfl
@[simp] theorem pushReply_seq : (pushReply t tag code body s).seq = s.seq := rfl
@[simp] theorem pushReply_plans : (pushReply t tag code body s).plans = s.plans := rfl
@[simp] theorem pushReply_lock : (pushReply t tag code body s).lock = s.lock := rfl
@[simp] theorem pushReply_notices : (pushReply t tag code body s).notices = s.notices := rfl
@[simp] theorem pushReply_pending : (pushReply t tag code body s).pending = s.pending := rfl
@[simp] theorem pushReply_framer : (pushReply t tag code body s).link.framer = s.link.framer := rfl
@[simp] theorem pushReply_frameErrors : (pushReply t tag code body s).link.frameErrors = s.link.frameErrors := rfl
@[simp] theorem pushReply_buffer : (pushReply t tag code body s).link.buffer = s.link.buffer := rfl
@[simp] theorem pushReply_transmitting :
    (pushReply t tag code body s).link.transmitting = s.link.transmitting := rfl
@[simp] theorem pushReply_restartPending :
    (pushReply t tag code body s).link.restartPending = s.link.restartPending := rfl
@[simp] theorem pushReply_replies :
    (pushReply t tag code body s).link.replies = s.link.replies ++ [replyRecord t tag code body] := rfl

end Sys2Proof.Machine
end

