-- ==== Sys2Proof/Laws/Ops.lean ====
section
/-! SUPPORT. What the shared operations can do: for each, the fields of State that it leaves as they were, and the values it
writes. -/

namespace Sys2Proof.Machine

open Sys2Proof

/-! ### Notices and report flags -/

@[simp] theorem postUrgent_store (n : Urgent) (s : State) : (postUrgent n s).store = s.store := by unfold postUrgent; split <;> rfl
@[simp] theorem postUrgent_gen (n : Urgent) (s : State) : (postUrgent n s).gen = s.gen := by unfold postUrgent; split <;> rfl
@[simp] theorem postUrgent_rings (n : Urgent) (s : State) : (postUrgent n s).rings = s.rings := by unfold postUrgent; split <;> rfl
@[simp] theorem postUrgent_cells (n : Urgent) (s : State) : (postUrgent n s).cells = s.cells := by unfold postUrgent; split <;> rfl
@[simp] theorem postUrgent_queue (n : Urgent) (s : State) : (postUrgent n s).queue = s.queue := by unfold postUrgent; split <;> rfl
@[simp] theorem postUrgent_seq (n : Urgent) (s : State) : (postUrgent n s).seq = s.seq := by unfold postUrgent; split <;> rfl
@[simp] theorem postUrgent_plans (n : Urgent) (s : State) : (postUrgent n s).plans = s.plans := by unfold postUrgent; split <;> rfl
@[simp] theorem postUrgent_lock (n : Urgent) (s : State) : (postUrgent n s).lock = s.lock := by unfold postUrgent; split <;> rfl
@[simp] theorem postUrgent_link (n : Urgent) (s : State) : (postUrgent n s).link = s.link := by unfold postUrgent; split <;> rfl
@[simp] theorem postUrgent_pending (n : Urgent) (s : State) : (postUrgent n s).pending = s.pending := by unfold postUrgent; split <;> rfl

@[simp] theorem postLines_store  (s : State) : (postLines s).store = s.store := by simp [postLines]
@[simp] theorem postLines_gen  (s : State) : (postLines s).gen = s.gen := by simp [postLines]
@[simp] theorem postLines_rings  (s : State) : (postLines s).rings = s.rings := by simp [postLines]
@[simp] theorem postLines_cells  (s : State) : (postLines s).cells = s.cells := by simp [postLines]
@[simp] theorem postLines_queue  (s : State) : (postLines s).queue = s.queue := by simp [postLines]
@[simp] theorem postLines_seq  (s : State) : (postLines s).seq = s.seq := by simp [postLines]
@[simp] theorem postLines_plans  (s : State) : (postLines s).plans = s.plans := by simp [postLines]
@[simp] theorem postLines_lock  (s : State) : (postLines s).lock = s.lock := by simp [postLines]
@[simp] theorem postLines_link  (s : State) : (postLines s).link = s.link := by simp [postLines]
@[simp] theorem postLines_pending  (s : State) : (postLines s).pending = s.pending := by simp [postLines]

@[simp] theorem postMode_store (k : ModeCause) (s : State) : (postMode k s).store = s.store := by simp [postMode]
@[simp] theorem postMode_gen (k : ModeCause) (s : State) : (postMode k s).gen = s.gen := by simp [postMode]
@[simp] theorem postMode_rings (k : ModeCause) (s : State) : (postMode k s).rings = s.rings := by simp [postMode]
@[simp] theorem postMode_cells (k : ModeCause) (s : State) : (postMode k s).cells = s.cells := by simp [postMode]
@[simp] theorem postMode_queue (k : ModeCause) (s : State) : (postMode k s).queue = s.queue := by simp [postMode]
@[simp] theorem postMode_seq (k : ModeCause) (s : State) : (postMode k s).seq = s.seq := by simp [postMode]
@[simp] theorem postMode_plans (k : ModeCause) (s : State) : (postMode k s).plans = s.plans := by simp [postMode]
@[simp] theorem postMode_lock (k : ModeCause) (s : State) : (postMode k s).lock = s.lock := by simp [postMode]
@[simp] theorem postMode_link (k : ModeCause) (s : State) : (postMode k s).link = s.link := by simp [postMode]
@[simp] theorem postMode_pending (k : ModeCause) (s : State) : (postMode k s).pending = s.pending := by simp [postMode]

@[simp] theorem postCampaign_store (r : Option CampaignRecord) (s : State) : (postCampaign r s).store = s.store := by simp [postCampaign]
@[simp] theorem postCampaign_gen (r : Option CampaignRecord) (s : State) : (postCampaign r s).gen = s.gen := by simp [postCampaign]
@[simp] theorem postCampaign_rings (r : Option CampaignRecord) (s : State) : (postCampaign r s).rings = s.rings := by simp [postCampaign]
@[simp] theorem postCampaign_cells (r : Option CampaignRecord) (s : State) : (postCampaign r s).cells = s.cells := by simp [postCampaign]
@[simp] theorem postCampaign_queue (r : Option CampaignRecord) (s : State) : (postCampaign r s).queue = s.queue := by simp [postCampaign]
@[simp] theorem postCampaign_seq (r : Option CampaignRecord) (s : State) : (postCampaign r s).seq = s.seq := by simp [postCampaign]
@[simp] theorem postCampaign_plans (r : Option CampaignRecord) (s : State) : (postCampaign r s).plans = s.plans := by simp [postCampaign]
@[simp] theorem postCampaign_lock (r : Option CampaignRecord) (s : State) : (postCampaign r s).lock = s.lock := by simp [postCampaign]
@[simp] theorem postCampaign_link (r : Option CampaignRecord) (s : State) : (postCampaign r s).link = s.link := by simp [postCampaign]
@[simp] theorem postCampaign_pending (r : Option CampaignRecord) (s : State) : (postCampaign r s).pending = s.pending := by simp [postCampaign]

@[simp] theorem postOpen_store  (s : State) : (postOpen s).store = s.store := by simp [postOpen]
@[simp] theorem postOpen_gen  (s : State) : (postOpen s).gen = s.gen := by simp [postOpen]
@[simp] theorem postOpen_rings  (s : State) : (postOpen s).rings = s.rings := by simp [postOpen]
@[simp] theorem postOpen_cells  (s : State) : (postOpen s).cells = s.cells := by simp [postOpen]
@[simp] theorem postOpen_queue  (s : State) : (postOpen s).queue = s.queue := by simp [postOpen]
@[simp] theorem postOpen_seq  (s : State) : (postOpen s).seq = s.seq := by simp [postOpen]
@[simp] theorem postOpen_plans  (s : State) : (postOpen s).plans = s.plans := by simp [postOpen]
@[simp] theorem postOpen_lock  (s : State) : (postOpen s).lock = s.lock := by simp [postOpen]
@[simp] theorem postOpen_link  (s : State) : (postOpen s).link = s.link := by simp [postOpen]
@[simp] theorem postOpen_pending  (s : State) : (postOpen s).pending = s.pending := by simp [postOpen]

@[simp] theorem releaseNotices_store  (s : State) : (releaseNotices s).store = s.store := by rfl
@[simp] theorem releaseNotices_gen  (s : State) : (releaseNotices s).gen = s.gen := by rfl
@[simp] theorem releaseNotices_rings  (s : State) : (releaseNotices s).rings = s.rings := by rfl
@[simp] theorem releaseNotices_cells  (s : State) : (releaseNotices s).cells = s.cells := by rfl
@[simp] theorem releaseNotices_queue  (s : State) : (releaseNotices s).queue = s.queue := by rfl
@[simp] theorem releaseNotices_seq  (s : State) : (releaseNotices s).seq = s.seq := by rfl
@[simp] theorem releaseNotices_plans  (s : State) : (releaseNotices s).plans = s.plans := by rfl
@[simp] theorem releaseNotices_lock  (s : State) : (releaseNotices s).lock = s.lock := by rfl
@[simp] theorem releaseNotices_link  (s : State) : (releaseNotices s).link = s.link := by rfl
@[simp] theorem releaseNotices_pending  (s : State) : (releaseNotices s).pending = s.pending := by rfl

@[simp] theorem postCellNotice_store (c : CellRef) (s : State) : (postCellNotice c s).store = s.store := by unfold postCellNotice; dsimp only; split <;> (try split) <;> rfl
@[simp] theorem postCellNotice_gen (c : CellRef) (s : State) : (postCellNotice c s).gen = s.gen := by unfold postCellNotice; dsimp only; split <;> (try split) <;> rfl
@[simp] theorem postCellNotice_rings (c : CellRef) (s : State) : (postCellNotice c s).rings = s.rings := by unfold postCellNotice; dsimp only; split <;> (try split) <;> rfl
@[simp] theorem postCellNotice_cells (c : CellRef) (s : State) : (postCellNotice c s).cells = s.cells := by unfold postCellNotice; dsimp only; split <;> (try split) <;> rfl
@[simp] theorem postCellNotice_queue (c : CellRef) (s : State) : (postCellNotice c s).queue = s.queue := by unfold postCellNotice; dsimp only; split <;> (try split) <;> rfl
@[simp] theorem postCellNotice_seq (c : CellRef) (s : State) : (postCellNotice c s).seq = s.seq := by unfold postCellNotice; dsimp only; split <;> (try split) <;> rfl
@[simp] theorem postCellNotice_plans (c : CellRef) (s : State) : (postCellNotice c s).plans = s.plans := by unfold postCellNotice; dsimp only; split <;> (try split) <;> rfl
@[simp] theorem postCellNotice_lock (c : CellRef) (s : State) : (postCellNotice c s).lock = s.lock := by unfold postCellNotice; dsimp only; split <;> (try split) <;> rfl
@[simp] theorem postCellNotice_link (c : CellRef) (s : State) : (postCellNotice c s).link = s.link := by unfold postCellNotice; dsimp only; split <;> (try split) <;> rfl
@[simp] theorem postCellNotice_pending (c : CellRef) (s : State) : (postCellNotice c s).pending = s.pending := by unfold postCellNotice; dsimp only; split <;> (try split) <;> rfl

@[simp] theorem withdrawNotice_store (c : CellRef) (s : State) : (withdrawNotice c s).store = s.store := by unfold withdrawNotice; dsimp only; split <;> rfl
@[simp] theorem withdrawNotice_gen (c : CellRef) (s : State) : (withdrawNotice c s).gen = s.gen := by unfold withdrawNotice; dsimp only; split <;> rfl
@[simp] theorem withdrawNotice_rings (c : CellRef) (s : State) : (withdrawNotice c s).rings = s.rings := by unfold withdrawNotice; dsimp only; split <;> rfl
@[simp] theorem withdrawNotice_cells (c : CellRef) (s : State) : (withdrawNotice c s).cells = s.cells := by unfold withdrawNotice; dsimp only; split <;> rfl
@[simp] theorem withdrawNotice_queue (c : CellRef) (s : State) : (withdrawNotice c s).queue = s.queue := by unfold withdrawNotice; dsimp only; split <;> rfl
@[simp] theorem withdrawNotice_seq (c : CellRef) (s : State) : (withdrawNotice c s).seq = s.seq := by unfold withdrawNotice; dsimp only; split <;> rfl
@[simp] theorem withdrawNotice_plans (c : CellRef) (s : State) : (withdrawNotice c s).plans = s.plans := by unfold withdrawNotice; dsimp only; split <;> rfl
@[simp] theorem withdrawNotice_lock (c : CellRef) (s : State) : (withdrawNotice c s).lock = s.lock := by unfold withdrawNotice; dsimp only; split <;> rfl
@[simp] theorem withdrawNotice_link (c : CellRef) (s : State) : (withdrawNotice c s).link = s.link := by unfold withdrawNotice; dsimp only; split <;> rfl
@[simp] theorem withdrawNotice_pending (c : CellRef) (s : State) : (withdrawNotice c s).pending = s.pending := by unfold withdrawNotice; dsimp only; split <;> rfl

@[simp] theorem setFlag_store (f : ReportFlag) (c : CellRef) (s : State) : (setFlag f c s).store = s.store := by unfold setFlag; dsimp only; split <;> simp
@[simp] theorem setFlag_gen (f : ReportFlag) (c : CellRef) (s : State) : (setFlag f c s).gen = s.gen := by unfold setFlag; dsimp only; split <;> simp
@[simp] theorem setFlag_rings (f : ReportFlag) (c : CellRef) (s : State) : (setFlag f c s).rings = s.rings := by unfold setFlag; dsimp only; split <;> simp
@[simp] theorem setFlag_queue (f : ReportFlag) (c : CellRef) (s : State) : (setFlag f c s).queue = s.queue := by unfold setFlag; dsimp only; split <;> simp
@[simp] theorem setFlag_seq (f : ReportFlag) (c : CellRef) (s : State) : (setFlag f c s).seq = s.seq := by unfold setFlag; dsimp only; split <;> simp
@[simp] theorem setFlag_plans (f : ReportFlag) (c : CellRef) (s : State) : (setFlag f c s).plans = s.plans := by unfold setFlag; dsimp only; split <;> simp
@[simp] theorem setFlag_lock (f : ReportFlag) (c : CellRef) (s : State) : (setFlag f c s).lock = s.lock := by unfold setFlag; dsimp only; split <;> simp
@[simp] theorem setFlag_link (f : ReportFlag) (c : CellRef) (s : State) : (setFlag f c s).link = s.link := by unfold setFlag; dsimp only; split <;> simp
@[simp] theorem setFlag_pending (f : ReportFlag) (c : CellRef) (s : State) : (setFlag f c s).pending = s.pending := by unfold setFlag; dsimp only; split <;> simp

@[simp] theorem clearFlags_store (c : CellRef) (s : State) : (clearFlags c s).store = s.store := by simp [clearFlags]
@[simp] theorem clearFlags_gen (c : CellRef) (s : State) : (clearFlags c s).gen = s.gen := by simp [clearFlags]
@[simp] theorem clearFlags_rings (c : CellRef) (s : State) : (clearFlags c s).rings = s.rings := by simp [clearFlags]
@[simp] theorem clearFlags_queue (c : CellRef) (s : State) : (clearFlags c s).queue = s.queue := by simp [clearFlags]
@[simp] theorem clearFlags_seq (c : CellRef) (s : State) : (clearFlags c s).seq = s.seq := by simp [clearFlags]
@[simp] theorem clearFlags_plans (c : CellRef) (s : State) : (clearFlags c s).plans = s.plans := by simp [clearFlags]
@[simp] theorem clearFlags_lock (c : CellRef) (s : State) : (clearFlags c s).lock = s.lock := by simp [clearFlags]
@[simp] theorem clearFlags_link (c : CellRef) (s : State) : (clearFlags c s).link = s.link := by simp [clearFlags]
@[simp] theorem clearFlags_notices (c : CellRef) (s : State) : (clearFlags c s).notices = s.notices := by simp [clearFlags]
@[simp] theorem clearFlags_pending (c : CellRef) (s : State) : (clearFlags c s).pending = s.pending := by simp [clearFlags]

theorem setFlag_cell_same (f : ReportFlag) (c : CellRef) (s : State) :
    (setFlag f c s).cell c = { s.cell c with flags := (s.cell c).flags ||| f.mask } := by
  have h (t : State) : (postCellNotice c t).cell c = t.cell c := by simp [State.cell]
  unfold setFlag; dsimp only; split
  · rw [h, cell_modCell_same]
  · rw [cell_modCell_same]

theorem setFlag_cell_ne (f : ReportFlag) {c d : CellRef} (s : State) (h : d ≠ c) :
    (setFlag f c s).cell d = s.cell d := by
  have e (t : State) : (postCellNotice c t).cell d = t.cell d := by simp [State.cell]
  unfold setFlag; dsimp only; split
  · rw [e, cell_modCell_ne _ _ _ _ h]
  · rw [cell_modCell_ne _ _ _ _ h]

/-! ### Lines, service states and links -/

@[simp] theorem followDemand_store  (s : State) : (followDemand s).store = s.store := by unfold followDemand; (repeat' split) <;> rfl
@[simp] theorem followDemand_gen  (s : State) : (followDemand s).gen = s.gen := by unfold followDemand; (repeat' split) <;> rfl
@[simp] theorem followDemand_rings  (s : State) : (followDemand s).rings = s.rings := by unfold followDemand; (repeat' split) <;> rfl
@[simp] theorem followDemand_cells  (s : State) : (followDemand s).cells = s.cells := by unfold followDemand; (repeat' split) <;> rfl
@[simp] theorem followDemand_queue  (s : State) : (followDemand s).queue = s.queue := by unfold followDemand; (repeat' split) <;> rfl
@[simp] theorem followDemand_seq  (s : State) : (followDemand s).seq = s.seq := by unfold followDemand; (repeat' split) <;> rfl
@[simp] theorem followDemand_plans  (s : State) : (followDemand s).plans = s.plans := by unfold followDemand; (repeat' split) <;> rfl
@[simp] theorem followDemand_link  (s : State) : (followDemand s).link = s.link := by unfold followDemand; (repeat' split) <;> rfl
@[simp] theorem followDemand_notices  (s : State) : (followDemand s).notices = s.notices := by unfold followDemand; (repeat' split) <;> rfl
@[simp] theorem followDemand_pending  (s : State) : (followDemand s).pending = s.pending := by unfold followDemand; (repeat' split) <;> rfl

@[simp] theorem syncLines_store (b : Bool) (s : State) : (syncLines b s).store = s.store := by unfold syncLines; dsimp only; split <;> simp
@[simp] theorem syncLines_gen (b : Bool) (s : State) : (syncLines b s).gen = s.gen := by unfold syncLines; dsimp only; split <;> simp
@[simp] theorem syncLines_rings (b : Bool) (s : State) : (syncLines b s).rings = s.rings := by unfold syncLines; dsimp only; split <;> simp
@[simp] theorem syncLines_cells (b : Bool) (s : State) : (syncLines b s).cells = s.cells := by unfold syncLines; dsimp only; split <;> simp
@[simp] theorem syncLines_queue (b : Bool) (s : State) : (syncLines b s).queue = s.queue := by unfold syncLines; dsimp only; split <;> simp
@[simp] theorem syncLines_seq (b : Bool) (s : State) : (syncLines b s).seq = s.seq := by unfold syncLines; dsimp only; split <;> simp
@[simp] theorem syncLines_plans (b : Bool) (s : State) : (syncLines b s).plans = s.plans := by unfold syncLines; dsimp only; split <;> simp
@[simp] theorem syncLines_link (b : Bool) (s : State) : (syncLines b s).link = s.link := by unfold syncLines; dsimp only; split <;> simp
@[simp] theorem syncLines_pending (b : Bool) (s : State) : (syncLines b s).pending = s.pending := by unfold syncLines; dsimp only; split <;> simp

@[simp] theorem clearTrip_store  (s : State) : (clearTrip s).store = s.store := by unfold clearTrip; dsimp only; split <;> simp
@[simp] theorem clearTrip_gen  (s : State) : (clearTrip s).gen = s.gen := by unfold clearTrip; dsimp only; split <;> simp
@[simp] theorem clearTrip_rings  (s : State) : (clearTrip s).rings = s.rings := by unfold clearTrip; dsimp only; split <;> simp
@[simp] theorem clearTrip_cells  (s : State) : (clearTrip s).cells = s.cells := by unfold clearTrip; dsimp only; split <;> simp
@[simp] theorem clearTrip_queue  (s : State) : (clearTrip s).queue = s.queue := by unfold clearTrip; dsimp only; split <;> simp
@[simp] theorem clearTrip_plans  (s : State) : (clearTrip s).plans = s.plans := by unfold clearTrip; dsimp only; split <;> simp
@[simp] theorem clearTrip_link  (s : State) : (clearTrip s).link = s.link := by unfold clearTrip; dsimp only; split <;> simp
@[simp] theorem clearTrip_pending  (s : State) : (clearTrip s).pending = s.pending := by unfold clearTrip; dsimp only; split <;> simp

@[simp] theorem setService_store (v : Service) (c : CellRef) (s : State) : (setService v c s).store = s.store := by unfold setService; dsimp only; split <;> simp
@[simp] theorem setService_gen (v : Service) (c : CellRef) (s : State) : (setService v c s).gen = s.gen := by unfold setService; dsimp only; split <;> simp
@[simp] theorem setService_rings (v : Service) (c : CellRef) (s : State) : (setService v c s).rings = s.rings := by unfold setService; dsimp only; split <;> simp
@[simp] theorem setService_queue (v : Service) (c : CellRef) (s : State) : (setService v c s).queue = s.queue := by unfold setService; dsimp only; split <;> simp
@[simp] theorem setService_seq (v : Service) (c : CellRef) (s : State) : (setService v c s).seq = s.seq := by unfold setService; dsimp only; split <;> simp
@[simp] theorem setService_plans (v : Service) (c : CellRef) (s : State) : (setService v c s).plans = s.plans := by unfold setService; dsimp only; split <;> simp
@[simp] theorem setService_lock (v : Service) (c : CellRef) (s : State) : (setService v c s).lock = s.lock := by unfold setService; dsimp only; split <;> simp
@[simp] theorem setService_link (v : Service) (c : CellRef) (s : State) : (setService v c s).link = s.link := by unfold setService; dsimp only; split <;> simp
@[simp] theorem setService_pending (v : Service) (c : CellRef) (s : State) : (setService v c s).pending = s.pending := by unfold setService; dsimp only; split <;> simp

@[simp] theorem strikeAndBypass_store (c : CellRef) (s : State) : (strikeAndBypass c s).store = s.store := by simp [strikeAndBypass]
@[simp] theorem strikeAndBypass_gen (c : CellRef) (s : State) : (strikeAndBypass c s).gen = s.gen := by simp [strikeAndBypass]
@[simp] theorem strikeAndBypass_rings (c : CellRef) (s : State) : (strikeAndBypass c s).rings = s.rings := by simp [strikeAndBypass]
@[simp] theorem strikeAndBypass_queue (c : CellRef) (s : State) : (strikeAndBypass c s).queue = s.queue := by simp [strikeAndBypass]
@[simp] theorem strikeAndBypass_seq (c : CellRef) (s : State) : (strikeAndBypass c s).seq = s.seq := by simp [strikeAndBypass]
@[simp] theorem strikeAndBypass_plans (c : CellRef) (s : State) : (strikeAndBypass c s).plans = s.plans := by simp [strikeAndBypass]
@[simp] theorem strikeAndBypass_lock (c : CellRef) (s : State) : (strikeAndBypass c s).lock = s.lock := by simp [strikeAndBypass]
@[simp] theorem strikeAndBypass_link (c : CellRef) (s : State) : (strikeAndBypass c s).link = s.link := by simp [strikeAndBypass]
@[simp] theorem strikeAndBypass_pending (c : CellRef) (s : State) : (strikeAndBypass c s).pending = s.pending := by simp [strikeAndBypass]

@[simp] theorem retireCell_store (c : CellRef) (s : State) : (retireCell s c).store = s.store := by unfold retireCell; split <;> simp
@[simp] theorem retireCell_gen (c : CellRef) (s : State) : (retireCell s c).gen = s.gen := by unfold retireCell; split <;> simp
@[simp] theorem retireCell_rings (c : CellRef) (s : State) : (retireCell s c).rings = s.rings := by unfold retireCell; split <;> simp
@[simp] theorem retireCell_queue (c : CellRef) (s : State) : (retireCell s c).queue = s.queue := by unfold retireCell; split <;> simp
@[simp] theorem retireCell_seq (c : CellRef) (s : State) : (retireCell s c).seq = s.seq := by unfold retireCell; split <;> simp
@[simp] theorem retireCell_plans (c : CellRef) (s : State) : (retireCell s c).plans = s.plans := by unfold retireCell; split <;> simp
@[simp] theorem retireCell_lock (c : CellRef) (s : State) : (retireCell s c).lock = s.lock := by unfold retireCell; split <;> simp
@[simp] theorem retireCell_link (c : CellRef) (s : State) : (retireCell s c).link = s.link := by unfold retireCell; split <;> simp
@[simp] theorem retireCell_pending (c : CellRef) (s : State) : (retireCell s c).pending = s.pending := by unfold retireCell; split <;> simp

@[simp] theorem retireCells_store (s : State) : (retireCells s).store = s.store := by
  unfold retireCells
  induction allCells generalizing s with
  | nil => rfl
  | cons c l ih => simp [List.foldl, ih]
@[simp] theorem retireCells_gen (s : State) : (retireCells s).gen = s.gen := by
  unfold retireCells
  induction allCells generalizing s with
  | nil => rfl
  | cons c l ih => simp [List.foldl, ih]
@[simp] theorem retireCells_rings (s : State) : (retireCells s).rings = s.rings := by
  unfold retireCells
  induction allCells generalizing s with
  | nil => rfl
  | cons c l ih => simp [List.foldl, ih]
@[simp] theorem retireCells_queue (s : State) : (retireCells s).queue = s.queue := by
  unfold retireCells
  induction allCells generalizing s with
  | nil => rfl
  | cons c l ih => simp [List.foldl, ih]
@[simp] theorem retireCells_seq (s : State) : (retireCells s).seq = s.seq := by
  unfold retireCells
  induction allCells generalizing s with
  | nil => rfl
  | cons c l ih => simp [List.foldl, ih]
@[simp] theorem retireCells_plans (s : State) : (retireCells s).plans = s.plans := by
  unfold retireCells
  induction allCells generalizing s with
  | nil => rfl
  | cons c l ih => simp [List.foldl, ih]
@[simp] theorem retireCells_lock (s : State) : (retireCells s).lock = s.lock := by
  unfold retireCells
  induction allCells generalizing s with
  | nil => rfl
  | cons c l ih => simp [List.foldl, ih]
@[simp] theorem retireCells_link (s : State) : (retireCells s).link = s.link := by
  unfold retireCells
  induction allCells generalizing s with
  | nil => rfl
  | cons c l ih => simp [List.foldl, ih]
@[simp] theorem retireCells_pending (s : State) : (retireCells s).pending = s.pending := by
  unfold retireCells
  induction allCells generalizing s with
  | nil => rfl
  | cons c l ih => simp [List.foldl, ih]

/-! ### The tunnel's mailboxes -/

@[simp] theorem endExchange_store (p : Phase) (k : ReplyCode) (s : State) : (endExchange p k s).store = s.store := by unfold endExchange; split <;> rfl
@[simp] theorem endExchange_gen (p : Phase) (k : ReplyCode) (s : State) : (endExchange p k s).gen = s.gen := by unfold endExchange; split <;> rfl
@[simp] theorem endExchange_cells (p : Phase) (k : ReplyCode) (s : State) : (endExchange p k s).cells = s.cells := by unfold endExchange; split <;> rfl
@[simp] theorem endExchange_queue (p : Phase) (k : ReplyCode) (s : State) : (endExchange p k s).queue = s.queue := by unfold endExchange; split <;> rfl
@[simp] theorem endExchange_seq (p : Phase) (k : ReplyCode) (s : State) : (endExchange p k s).seq = s.seq := by unfold endExchange; split <;> rfl
@[simp] theorem endExchange_plans (p : Phase) (k : ReplyCode) (s : State) : (endExchange p k s).plans = s.plans := by unfold endExchange; split <;> rfl
@[simp] theorem endExchange_lock (p : Phase) (k : ReplyCode) (s : State) : (endExchange p k s).lock = s.lock := by unfold endExchange; split <;> rfl
@[simp] theorem endExchange_notices (p : Phase) (k : ReplyCode) (s : State) : (endExchange p k s).notices = s.notices := by unfold endExchange; split <;> rfl
@[simp] theorem endExchange_pending (p : Phase) (k : ReplyCode) (s : State) : (endExchange p k s).pending = s.pending := by unfold endExchange; split <;> rfl

@[simp] theorem abortExchanges_store  (s : State) : (abortExchanges s).store = s.store := by simp [abortExchanges, phases]
@[simp] theorem abortExchanges_gen  (s : State) : (abortExchanges s).gen = s.gen := by simp [abortExchanges, phases]
@[simp] theorem abortExchanges_cells  (s : State) : (abortExchanges s).cells = s.cells := by simp [abortExchanges, phases]
@[simp] theorem abortExchanges_queue  (s : State) : (abortExchanges s).queue = s.queue := by simp [abortExchanges, phases]
@[simp] theorem abortExchanges_seq  (s : State) : (abortExchanges s).seq = s.seq := by simp [abortExchanges, phases]
@[simp] theorem abortExchanges_plans  (s : State) : (abortExchanges s).plans = s.plans := by simp [abortExchanges, phases]
@[simp] theorem abortExchanges_lock  (s : State) : (abortExchanges s).lock = s.lock := by simp [abortExchanges, phases]
@[simp] theorem abortExchanges_notices  (s : State) : (abortExchanges s).notices = s.notices := by simp [abortExchanges, phases]
@[simp] theorem abortExchanges_pending  (s : State) : (abortExchanges s).pending = s.pending := by simp [abortExchanges, phases]

@[simp] theorem endExchangeWith_store (c : CellRef) (s : State) : (endExchangeWith c s).store = s.store := by unfold endExchangeWith; split <;> (try split) <;> simp
@[simp] theorem endExchangeWith_gen (c : CellRef) (s : State) : (endExchangeWith c s).gen = s.gen := by unfold endExchangeWith; split <;> (try split) <;> simp
@[simp] theorem endExchangeWith_cells (c : CellRef) (s : State) : (endExchangeWith c s).cells = s.cells := by unfold endExchangeWith; split <;> (try split) <;> simp
@[simp] theorem endExchangeWith_queue (c : CellRef) (s : State) : (endExchangeWith c s).queue = s.queue := by unfold endExchangeWith; split <;> (try split) <;> simp
@[simp] theorem endExchangeWith_seq (c : CellRef) (s : State) : (endExchangeWith c s).seq = s.seq := by unfold endExchangeWith; split <;> (try split) <;> simp
@[simp] theorem endExchangeWith_plans (c : CellRef) (s : State) : (endExchangeWith c s).plans = s.plans := by unfold endExchangeWith; split <;> (try split) <;> simp
@[simp] theorem endExchangeWith_lock (c : CellRef) (s : State) : (endExchangeWith c s).lock = s.lock := by unfold endExchangeWith; split <;> (try split) <;> simp
@[simp] theorem endExchangeWith_notices (c : CellRef) (s : State) : (endExchangeWith c s).notices = s.notices := by unfold endExchangeWith; split <;> (try split) <;> simp
@[simp] theorem endExchangeWith_pending (c : CellRef) (s : State) : (endExchangeWith c s).pending = s.pending := by unfold endExchangeWith; split <;> (try split) <;> simp

@[simp] theorem enterLink_store (l : LinkState) (a : Option Ability) (k : Option RejectCause) (c : CellRef) (s : State) : (enterLink l a k c s).store = s.store := by unfold enterLink; dsimp only; split <;> simp
@[simp] theorem enterLink_gen (l : LinkState) (a : Option Ability) (k : Option RejectCause) (c : CellRef) (s : State) : (enterLink l a k c s).gen = s.gen := by unfold enterLink; dsimp only; split <;> simp
@[simp] theorem enterLink_queue (l : LinkState) (a : Option Ability) (k : Option RejectCause) (c : CellRef) (s : State) : (enterLink l a k c s).queue = s.queue := by unfold enterLink; dsimp only; split <;> simp
@[simp] theorem enterLink_seq (l : LinkState) (a : Option Ability) (k : Option RejectCause) (c : CellRef) (s : State) : (enterLink l a k c s).seq = s.seq := by unfold enterLink; dsimp only; split <;> simp
@[simp] theorem enterLink_plans (l : LinkState) (a : Option Ability) (k : Option RejectCause) (c : CellRef) (s : State) : (enterLink l a k c s).plans = s.plans := by unfold enterLink; dsimp only; split <;> simp
@[simp] theorem enterLink_lock (l : LinkState) (a : Option Ability) (k : Option RejectCause) (c : CellRef) (s : State) : (enterLink l a k c s).lock = s.lock := by unfold enterLink; dsimp only; split <;> simp
@[simp] theorem enterLink_notices (l : LinkState) (a : Option Ability) (k : Option RejectCause) (c : CellRef) (s : State) : (enterLink l a k c s).notices = s.notices := by unfold enterLink; dsimp only; split <;> simp
@[simp] theorem enterLink_pending (l : LinkState) (a : Option Ability) (k : Option RejectCause) (c : CellRef) (s : State) : (enterLink l a k c s).pending = s.pending := by unfold enterLink; dsimp only; split <;> simp

@[simp] theorem darkenLinks_store  (s : State) : (darkenLinks s).store = s.store := by simp [darkenLinks]
@[simp] theorem darkenLinks_gen  (s : State) : (darkenLinks s).gen = s.gen := by simp [darkenLinks]
@[simp] theorem darkenLinks_rings  (s : State) : (darkenLinks s).rings = s.rings := by simp [darkenLinks]
@[simp] theorem darkenLinks_queue  (s : State) : (darkenLinks s).queue = s.queue := by simp [darkenLinks]
@[simp] theorem darkenLinks_seq  (s : State) : (darkenLinks s).seq = s.seq := by simp [darkenLinks]
@[simp] theorem darkenLinks_plans  (s : State) : (darkenLinks s).plans = s.plans := by simp [darkenLinks]
@[simp] theorem darkenLinks_lock  (s : State) : (darkenLinks s).lock = s.lock := by simp [darkenLinks]
@[simp] theorem darkenLinks_link  (s : State) : (darkenLinks s).link = s.link := by simp [darkenLinks]
@[simp] theorem darkenLinks_notices  (s : State) : (darkenLinks s).notices = s.notices := by simp [darkenLinks]
@[simp] theorem darkenLinks_pending  (s : State) : (darkenLinks s).pending = s.pending := by simp [darkenLinks]

/-! ### The sequencer's records and stages -/

@[simp] theorem setSeq_store (st : SeqState) (s : State) : (setSeq st s).store = s.store := by unfold setSeq; dsimp only; split <;> simp
@[simp] theorem setSeq_gen (st : SeqState) (s : State) : (setSeq st s).gen = s.gen := by unfold setSeq; dsimp only; split <;> simp
@[simp] theorem setSeq_cells (st : SeqState) (s : State) : (setSeq st s).cells = s.cells := by unfold setSeq; dsimp only; split <;> simp
@[simp] theorem setSeq_queue (st : SeqState) (s : State) : (setSeq st s).queue = s.queue := by unfold setSeq; dsimp only; split <;> simp
@[simp] theorem setSeq_plans (st : SeqState) (s : State) : (setSeq st s).plans = s.plans := by unfold setSeq; dsimp only; split <;> simp
@[simp] theorem setSeq_lock (st : SeqState) (s : State) : (setSeq st s).lock = s.lock := by unfold setSeq; dsimp only; split <;> simp
@[simp] theorem setSeq_notices (st : SeqState) (s : State) : (setSeq st s).notices = s.notices := by unfold setSeq; dsimp only; split <;> simp
@[simp] theorem setSeq_pending (st : SeqState) (s : State) : (setSeq st s).pending = s.pending := by unfold setSeq; dsimp only; split <;> simp

@[simp] theorem modCampaign_store (f : Campaign → Campaign) (s : State) : (modCampaign f s).store = s.store := by rfl
@[simp] theorem modCampaign_gen (f : Campaign → Campaign) (s : State) : (modCampaign f s).gen = s.gen := by rfl
@[simp] theorem modCampaign_rings (f : Campaign → Campaign) (s : State) : (modCampaign f s).rings = s.rings := by rfl
@[simp] theorem modCampaign_cells (f : Campaign → Campaign) (s : State) : (modCampaign f s).cells = s.cells := by rfl
@[simp] theorem modCampaign_queue (f : Campaign → Campaign) (s : State) : (modCampaign f s).queue = s.queue := by rfl
@[simp] theorem modCampaign_plans (f : Campaign → Campaign) (s : State) : (modCampaign f s).plans = s.plans := by rfl
@[simp] theorem modCampaign_lock (f : Campaign → Campaign) (s : State) : (modCampaign f s).lock = s.lock := by rfl
@[simp] theorem modCampaign_link (f : Campaign → Campaign) (s : State) : (modCampaign f s).link = s.link := by rfl
@[simp] theorem modCampaign_notices (f : Campaign → Campaign) (s : State) : (modCampaign f s).notices = s.notices := by rfl
@[simp] theorem modCampaign_pending (f : Campaign → Campaign) (s : State) : (modCampaign f s).pending = s.pending := by rfl

@[simp] theorem discardPending_store  (s : State) : (discardPending s).store = s.store := by simp [discardPending]
@[simp] theorem discardPending_gen  (s : State) : (discardPending s).gen = s.gen := by simp [discardPending]
@[simp] theorem discardPending_rings  (s : State) : (discardPending s).rings = s.rings := by simp [discardPending]
@[simp] theorem discardPending_cells  (s : State) : (discardPending s).cells = s.cells := by simp [discardPending]
@[simp] theorem discardPending_queue  (s : State) : (discardPending s).queue = s.queue := by simp [discardPending]
@[simp] theorem discardPending_lock  (s : State) : (discardPending s).lock = s.lock := by simp [discardPending]
@[simp] theorem discardPending_link  (s : State) : (discardPending s).link = s.link := by simp [discardPending]
@[simp] theorem discardPending_notices  (s : State) : (discardPending s).notices = s.notices := by simp [discardPending]
@[simp] theorem discardPending_pending  (s : State) : (discardPending s).pending = s.pending := by simp [discardPending]

@[simp] theorem dropStage_store  (s : State) : (dropStage s).store = s.store := by simp [dropStage]
@[simp] theorem dropStage_gen  (s : State) : (dropStage s).gen = s.gen := by simp [dropStage]
@[simp] theorem dropStage_rings  (s : State) : (dropStage s).rings = s.rings := by simp [dropStage]
@[simp] theorem dropStage_queue  (s : State) : (dropStage s).queue = s.queue := by simp [dropStage]
@[simp] theorem dropStage_plans  (s : State) : (dropStage s).plans = s.plans := by simp [dropStage]
@[simp] theorem dropStage_link  (s : State) : (dropStage s).link = s.link := by simp [dropStage]
@[simp] theorem dropStage_notices  (s : State) : (dropStage s).notices = s.notices := by simp [dropStage]
@[simp] theorem dropStage_pending  (s : State) : (dropStage s).pending = s.pending := by simp [dropStage]

@[simp] theorem dropCampaign_store  (s : State) : (dropCampaign s).store = s.store := by rfl
@[simp] theorem dropCampaign_gen  (s : State) : (dropCampaign s).gen = s.gen := by rfl
@[simp] theorem dropCampaign_rings  (s : State) : (dropCampaign s).rings = s.rings := by rfl
@[simp] theorem dropCampaign_cells  (s : State) : (dropCampaign s).cells = s.cells := by rfl
@[simp] theorem dropCampaign_queue  (s : State) : (dropCampaign s).queue = s.queue := by rfl
@[simp] theorem dropCampaign_plans  (s : State) : (dropCampaign s).plans = s.plans := by rfl
@[simp] theorem dropCampaign_link  (s : State) : (dropCampaign s).link = s.link := by rfl
@[simp] theorem dropCampaign_notices  (s : State) : (dropCampaign s).notices = s.notices := by rfl
@[simp] theorem dropCampaign_pending  (s : State) : (dropCampaign s).pending = s.pending := by rfl

@[simp] theorem appendHistory_store (r : CampaignRecord) (s : State) : (appendHistory r s).store = s.store := by rfl
@[simp] theorem appendHistory_gen (r : CampaignRecord) (s : State) : (appendHistory r s).gen = s.gen := by rfl
@[simp] theorem appendHistory_rings (r : CampaignRecord) (s : State) : (appendHistory r s).rings = s.rings := by rfl
@[simp] theorem appendHistory_cells (r : CampaignRecord) (s : State) : (appendHistory r s).cells = s.cells := by rfl
@[simp] theorem appendHistory_queue (r : CampaignRecord) (s : State) : (appendHistory r s).queue = s.queue := by rfl
@[simp] theorem appendHistory_plans (r : CampaignRecord) (s : State) : (appendHistory r s).plans = s.plans := by rfl
@[simp] theorem appendHistory_lock (r : CampaignRecord) (s : State) : (appendHistory r s).lock = s.lock := by rfl
@[simp] theorem appendHistory_link (r : CampaignRecord) (s : State) : (appendHistory r s).link = s.link := by rfl
@[simp] theorem appendHistory_notices (r : CampaignRecord) (s : State) : (appendHistory r s).notices = s.notices := by rfl
@[simp] theorem appendHistory_pending (r : CampaignRecord) (s : State) : (appendHistory r s).pending = s.pending := by rfl

@[simp] theorem closeCampaign_store (o : CampaignOutcome) (s : State) : ((closeCampaign o s).2).store = s.store := by unfold closeCampaign; split <;> simp
@[simp] theorem closeCampaign_gen (o : CampaignOutcome) (s : State) : ((closeCampaign o s).2).gen = s.gen := by unfold closeCampaign; split <;> simp
@[simp] theorem closeCampaign_rings (o : CampaignOutcome) (s : State) : ((closeCampaign o s).2).rings = s.rings := by unfold closeCampaign; split <;> simp
@[simp] theorem closeCampaign_cells (o : CampaignOutcome) (s : State) : ((closeCampaign o s).2).cells = s.cells := by unfold closeCampaign; split <;> simp
@[simp] theorem closeCampaign_queue (o : CampaignOutcome) (s : State) : ((closeCampaign o s).2).queue = s.queue := by unfold closeCampaign; split <;> simp
@[simp] theorem closeCampaign_plans (o : CampaignOutcome) (s : State) : ((closeCampaign o s).2).plans = s.plans := by unfold closeCampaign; split <;> simp
@[simp] theorem closeCampaign_link (o : CampaignOutcome) (s : State) : ((closeCampaign o s).2).link = s.link := by unfold closeCampaign; split <;> simp
@[simp] theorem closeCampaign_notices (o : CampaignOutcome) (s : State) : ((closeCampaign o s).2).notices = s.notices := by unfold closeCampaign; split <;> simp
@[simp] theorem closeCampaign_pending (o : CampaignOutcome) (s : State) : ((closeCampaign o s).2).pending = s.pending := by unfold closeCampaign; split <;> simp

@[simp] theorem setStyle_store (st : Style) (s : State) : (setStyle st s).store = s.store := by rfl
@[simp] theorem setStyle_gen (st : Style) (s : State) : (setStyle st s).gen = s.gen := by rfl
@[simp] theorem setStyle_rings (st : Style) (s : State) : (setStyle st s).rings = s.rings := by rfl
@[simp] theorem setStyle_cells (st : Style) (s : State) : (setStyle st s).cells = s.cells := by rfl
@[simp] theorem setStyle_queue (st : Style) (s : State) : (setStyle st s).queue = s.queue := by rfl
@[simp] theorem setStyle_plans (st : Style) (s : State) : (setStyle st s).plans = s.plans := by rfl
@[simp] theorem setStyle_lock (st : Style) (s : State) : (setStyle st s).lock = s.lock := by rfl
@[simp] theorem setStyle_link (st : Style) (s : State) : (setStyle st s).link = s.link := by rfl
@[simp] theorem setStyle_notices (st : Style) (s : State) : (setStyle st s).notices = s.notices := by rfl
@[simp] theorem setStyle_pending (st : Style) (s : State) : (setStyle st s).pending = s.pending := by rfl

@[simp] theorem toHeld_store  (s : State) : (toHeld s).store = s.store := by simp [toHeld]
@[simp] theorem toHeld_gen  (s : State) : (toHeld s).gen = s.gen := by simp [toHeld]
@[simp] theorem toHeld_rings  (s : State) : (toHeld s).rings = s.rings := by simp [toHeld]
@[simp] theorem toHeld_cells  (s : State) : (toHeld s).cells = s.cells := by simp [toHeld]
@[simp] theorem toHeld_queue  (s : State) : (toHeld s).queue = s.queue := by simp [toHeld]
@[simp] theorem toHeld_plans  (s : State) : (toHeld s).plans = s.plans := by simp [toHeld]
@[simp] theorem toHeld_link  (s : State) : (toHeld s).link = s.link := by simp [toHeld]
@[simp] theorem toHeld_notices  (s : State) : (toHeld s).notices = s.notices := by simp [toHeld]
@[simp] theorem toHeld_pending  (s : State) : (toHeld s).pending = s.pending := by simp [toHeld]

@[simp] theorem setSeq_state (st : SeqState) (s : State) : (setSeq st s).seq.state = st := rfl
@[simp] theorem setSeq_scale (st : SeqState) (s : State) : (setSeq st s).seq.scale = entryScale st := rfl

theorem setSeq_seq (st : SeqState) (s : State) :
    (setSeq st s).seq = { s.seq with state := st, scale := entryScale st } := by
  unfold setSeq; dsimp only; split <;> simp

/-- Outside READY an entry into a state leaves the mailboxes and the reply list. -/
theorem setSeq_not_ready (st : SeqState) {s : State} (h : s.seq.state ≠ .ready) :
    (setSeq st s).rings = s.rings ∧ (setSeq st s).link = s.link := by
  simp [setSeq, h]

@[simp] theorem dropStage_cell (s : State) (c : CellRef) :
    (dropStage s).cell c = { s.cell c with isolation := none } := by
  have e : (dropStage s).cells = (s.mapCells fun _ x => { x with isolation := none }).cells := by
    simp only [dropStage, modCampaign]
  unfold State.cell
  rw [e]
  exact cell_mapCells s c _

theorem dropStage_seq (s : State) :
    (dropStage s).seq
      = { s.seq with
          campaign := s.seq.campaign.map (fun k => { k with issue := none }), watch := none, rephase := none } := by
  simp [dropStage, modCampaign]

theorem dropStage_lock (s : State) :
    (dropStage s).lock = { s.lock with resumeTimer := none, rampCount := 0 } := by
  simp [dropStage, modCampaign]

/-! ### The end of a step -/

/-- The transmit path's next frame leaves everything but the link and the notice queue, and one cell's flags. -/
theorem pump_keeps (s : State) :
    (pump s).store = s.store ∧ (pump s).gen = s.gen ∧ (pump s).rings = s.rings ∧ (pump s).queue = s.queue
      ∧ (pump s).seq = s.seq ∧ (pump s).plans = s.plans ∧ (pump s).lock = s.lock ∧ (pump s).pending = s.pending
      ∧ (pump s).link.buffer = s.link.buffer ∧ (pump s).link.restartPending = s.link.restartPending := by
  unfold pump
  split
  · simp
  · split
    · simp [transmit]
    · split
      · simp [takeUrgent, transmit]
      · split <;> simp [takeCellNotice, transmit]

/-- With a reply waiting or a frame in transmission, the cells keep their flags. -/
theorem pump_cells {s : State} (h : s.link.transmitting.isSome = true ∨ s.link.replies ≠ []) :
    (pump s).cells = s.cells := by
  unfold pump
  split
  · rfl
  · split
    · rfl
    · simp_all

/-- The gate-off watch keeps the cells still ACTIVE and not SEVERED; BLOCK ends where none is left, one cycle start has passed
and the enrol window does not hold it (R87, R10). -/
theorem blockCheck_cases (s : State) :
    (s.seq.watch = none ∧ blockCheck s = s)
    ∨ ∃ w left, s.seq.watch = some w
      ∧ (∀ c, c ∈ left ↔ c ∈ w.cells ∧ (s.cell c).service = .active ∧ (s.cell c).link ≠ .severed)
      ∧ (blockCheck s = { s with seq.watch := some { w with cells := left } }
        ∨ (s.seq.state = .block ∧ left = [] ∧ 1 ≤ w.starts ∧ enrolWindowHolds s = false
          ∧ blockCheck s = enterIsolate { s with seq.watch := some { w with cells := left } })) := by
  cases hw : s.seq.watch with
  | none => exact .inl ⟨rfl, by simp [blockCheck, hw]⟩
  | some w =>
    refine .inr ⟨w, w.cells.filter fun c =>
      decide ((s.cell c).service = .active) && decide ((s.cell c).link ≠ .severed), rfl, by simp, ?_⟩
    simp only [blockCheck, hw]
    split
    · next h => exact .inr ⟨h.1, h.2.1, h.2.2.1, by simpa using h.2.2.2, rfl⟩
    · exact .inl rfl

theorem dispatchAll_empty {s : State} (h : s.link.buffer = []) : dispatchAll s = s := by
  simp [dispatchAll, dispatchLoop, h]

theorem pump_busy {s : State} (h : s.link.transmitting.isSome = true) : pump s = s := by
  obtain ⟨x, hx⟩ := Option.isSome_iff_exists.1 h
  simp [pump, hx]

/-- With the link quiet, a step ends with its event's own effect. -/
theorem settle_quiet {s : State} (h : Quiet s) : settle s = s := by
  simp [settle, dispatchAll_empty h.1, pump_busy h.2]

/-- With no request waiting, a step ends with the transmit path's next frame. -/
theorem settle_empty {s : State} (h : s.link.buffer = []) : settle s = pump s := by
  simp only [settle, dispatchAll_empty h]
  exact dispatchAll_empty ((pump_keeps s).2.2.2.2.2.2.2.2.1.trans h)

/-- A request that finds the link ready is dispatched in the step of its arrival. -/
theorem request_ready {tag : Byte} {op : RequestOp} {s : State} (h : Ready s)
    (hb : (dispatch ⟨tag, op⟩ s).link.buffer = []) : request tag op s = .next (pump (dispatch ⟨tag, op⟩ s)) := by
  obtain ⟨h1, h2, h3⟩ := h
  have e : dispatchAll (arrive ⟨tag, op⟩ s) = dispatch ⟨tag, op⟩ s := by
    have : arrive ⟨tag, op⟩ s = { s with link.buffer := [⟨tag, op⟩] } := by simp [arrive, h1]
    rw [this]
    show dispatchLoop 1 _ = _
    simp only [dispatchLoop]
    rw [if_pos (show s.link.replies.length < 4 ∧ s.link.restartPending = false from ⟨h2, h3⟩)]
    exact congrArg (dispatch ⟨tag, op⟩) (by rw [← h1])
  simp only [request, stepTo, settle, e]
  rw [dispatchAll_empty ((pump_keeps _).2.2.2.2.2.2.2.2.1.trans hb)]

/-- Every request command hands its request to the buffer. -/
theorem exec_request {c : Instr} {r : Request} (s : State) (h : requestOf c = some r) :
    exec c s = request r.tag r.op s := by
  cases c <;> simp [requestOf] at h <;> subst h <;> rfl

/-! ### The reported attempt history -/

theorem reportedAttempts_short {l : List Stamp} (h : l.length ≤ 8) : reportedAttempts l = l := by simp [reportedAttempts, h]

/-- Part 9 of READ_CAMPAIGN never gives more than eight stamps (R174). -/
theorem reportedAttempts_length_le (l : List Stamp) : (reportedAttempts l).length ≤ 8 := by
  unfold reportedAttempts
  split
  · assumption
  · simpa using Nat.le_of_lt_succ (Config.longHistoryCount l).isLt

/-! ### Timed events: each is one step where it is due, and nothing otherwise (log entry 7) -/

theorem ranFor_some (s : State) (b : Stamp) (us : Nat) :
    ranFor s (some b) us = decide (us ≤ (s.gen.timebase - b).toNat) := rfl

@[simp] theorem ranFor_none (s : State) (us : Nat) : ranFor s none us = false := rfl

theorem qualifyDriveRun_due {s : State} (h : driveRunDue s = true) :
    qualifyDriveRun s = driveRunChanged { s with lock.driveRun := qualify s.lock.driveRun } := by simp [qualifyDriveRun, h]
theorem qualifyDriveRun_early {s : State} (h : driveRunDue s = false) : qualifyDriveRun s = s := by simp [qualifyDriveRun, h]

theorem qualifyBrakeSet_due {s : State} (h : brakeSetDue s = true) :
    qualifyBrakeSet s = brakeSetChanged { s with lock.brakeSet := qualify s.lock.brakeSet } := by simp [qualifyBrakeSet, h]
theorem qualifyBrakeSet_early {s : State} (h : brakeSetDue s = false) : qualifyBrakeSet s = s := by simp [qualifyBrakeSet, h]

theorem enrolWindowRuns_due {s : State} (h : enrolWindowDue s = true) :
    enrolWindowRuns s = blockCheck { s with seq.enrolRun := true } := by simp [enrolWindowRuns, h]
theorem enrolWindowRuns_early {s : State} (h : enrolWindowDue s = false) : enrolWindowRuns s = s := by simp [enrolWindowRuns, h]

theorem bypassTimerEnds_due {s : State} {c : CellRef} (h : bypassTimerDue s c = true) (hs : s.seq.state = .isolate) :
    bypassTimerEnds c s = trip .bypassTimeout s := by simp [bypassTimerEnds, h, hs]
theorem bypassTimerEnds_early {s : State} {c : CellRef} (h : bypassTimerDue s c = false) : bypassTimerEnds c s = s := by
  simp [bypassTimerEnds, h]

theorem blindWaitEnds_due {s : State} {c : CellRef} (h : blindWaitDue s c = true) (hs : s.seq.state = .isolate) :
    blindWaitEnds c s = if cfgBlindAssume s.store.image then acceptBypass true c s else trip .blindRefused s := by
  simp [blindWaitEnds, h, hs]
theorem blindWaitEnds_early {s : State} {c : CellRef} (h : blindWaitDue s c = false) : blindWaitEnds c s = s := by
  simp [blindWaitEnds, h]

theorem brakeConfirmEnds_due {s : State} (h : brakeConfirmDue s = true) : brakeConfirmEnds s = trip .brakeNoConfirm s := by
  simp [brakeConfirmEnds, h]
theorem brakeConfirmEnds_early {s : State} (h : brakeConfirmDue s = false) : brakeConfirmEnds s = s := by
  simp [brakeConfirmEnds, h]

theorem resumeTimerEnds_due {s : State} (h : resumeTimerDue s = true) (hs : s.seq.state = .awaitResume) :
    resumeTimerEnds s = trip .resumeTimeout s := by simp [resumeTimerEnds, h, hs]
theorem resumeTimerEnds_early {s : State} (h : resumeTimerDue s = false) : resumeTimerEnds s = s := by
  simp [resumeTimerEnds, h]

theorem holdMinimumEnds_early {s : State} (h : holdMinimumDue s = false) : holdMinimumEnds s = s := by
  simp [holdMinimumEnds, h]

theorem hoistStales_due {s : State} {r : HoistRecord} (h : freshnessDue s = true) (hr : s.lock.hoist = some r) :
    hoistStales s = { s with lock.hoist := some { r with fresh := false } } := by simp [hoistStales, h, hr]
theorem hoistStales_early {s : State} (h : freshnessDue s = false) : hoistStales s = s := by simp [hoistStales, h]

/-- A record that has just been taken is not due to become stale (R122). -/
theorem freshnessDue_new {s : State} {r : HoistRecord} (hr : s.lock.hoist = some r) (h0 : r.stamp = s.gen.timebase)
    (h1 : 0 < cfgFreshness s.store.image) : freshnessDue s = false := by
  simp [freshnessDue, hr, State.age, State.now, elapsed, h0]
  omega

theorem batchTimerEnds_due {s : State} (h : batchTimerDue s = true) : batchTimerEnds s = releaseNotices s := by
  simp [batchTimerEnds, h]
theorem batchTimerEnds_early {s : State} (h : batchTimerDue s = false) : batchTimerEnds s = s := by simp [batchTimerEnds, h]

/-! ### What a step posts (R166) -/

/-- A posted urgent notice joins the list, or is lost and sets the overrun flag. -/
theorem postUrgent_posts (n : Urgent) (s : State) : Posts s (postUrgent n s) [n] := by
  unfold postUrgent
  split
  · next h =>
    have hl : ([n] : List Urgent).length ≤ 8 - s.notices.urgent.length := by simp; omega
    refine ⟨by simp [List.take_of_length_le hl], ?_⟩
    simp; omega
  · next h =>
    have : 8 - s.notices.urgent.length = 0 := by omega
    refine ⟨by simp [this], ?_⟩
    simp; omega

/-- Two steps in a row post what the one and then the other posts. -/
theorem posts_append {s t u : State} {a b : List Urgent} (h : Posts s t a) (k : Posts t u b) : Posts s u (a ++ b) := by
  obtain ⟨hu, ho⟩ := h
  obtain ⟨ku, ko⟩ := k
  have hl : t.notices.urgent.length
      = s.notices.urgent.length + min (8 - s.notices.urgent.length) a.length := by simp [hu]
  refine ⟨?_, ?_⟩
  · rw [ku, hu, List.take_append, List.append_assoc]
    congr 3
    rw [← hu]; omega
  · rw [ko, ho, Bool.or_assoc]
    congr 1
    rw [← Bool.decide_or]
    apply decide_eq_decide.2
    rcases a with _ | ⟨x, a⟩
    · simp at hl ⊢; omega
    · rcases b with _ | ⟨y, b⟩
      · simp
      · simp at hl ⊢; omega

end Sys2Proof.Machine
end

