-- ==== Sys2Proof/Laws/PerInstr.lean ====
section
/-! SUPPORT. Facts made for every command, one lemma per constructor of `Instr`. The family `Carriage`: a well-formed
command that is a request spells a record that one frame can carry and that the link does not find MALFORMED (R160,
R178). -/

namespace Sys2Proof.Laws.Carriage

open Sys2Proof

/-- The record of a well-formed request is well-formed and is not MALFORMED; any other command spells none. -/
def Statement (i : Instr) : Prop :=
  i.wellFormed = true → ∀ r : Request, requestOf i = some r →
    r.op.wellFormed = true ∧ ∀ t : Byte, r.op ≠ .malformed t

/-- A command that is no request spells no record. -/
theorem of_none {i : Instr} (h : requestOf i = none) : Statement i := by
  intro _ r hr
  rw [h] at hr
  cases hr

/-- A request whose record has its own well-formedness. -/
theorem of_some {i : Instr} {tag : Byte} {op : RequestOp} (h : requestOf i = some ⟨tag, op⟩)
    (hw : i.wellFormed = true → op.wellFormed = true) (hm : ∀ t : Byte, op ≠ .malformed t) : Statement i := by
  intro w r hr
  rw [h] at hr
  cases hr
  exact ⟨hw w, hm⟩

theorem setDevice (tag : Byte) (fields : List (Option Nat)) : Statement (.setDevice tag fields) := of_some rfl id nofun
theorem setRing (tag : Byte) (phaseCode : Byte) (fields : List (Option Nat)) : Statement (.setRing tag phaseCode fields) := of_some rfl id nofun
theorem setPlan (tag : Byte) (fields : List (Option Nat)) : Statement (.setPlan tag fields) := of_some rfl id nofun
theorem setTiming (tag : Byte) (fields : List (Option Nat)) : Statement (.setTiming tag fields) := of_some rfl id nofun
theorem setReporting (tag : Byte) (fields : List (Option Nat)) : Statement (.setReporting tag fields) := of_some rfl id nofun
theorem freeze (tag : Byte) : Statement (.freeze tag) := of_some rfl id nofun
theorem selfTest (tag : Byte) (ring : Byte) : Statement (.selfTest tag ring) := of_some rfl id nofun
theorem unfreeze (tag : Byte) : Statement (.unfreeze tag) := of_some rfl id nofun
theorem go (tag : Byte) : Statement (.go tag) := of_some rfl id nofun
theorem halt (tag : Byte) : Statement (.halt tag) := of_some rfl id nofun
theorem resume (tag : Byte) : Statement (.resume tag) := of_some rfl id nofun
theorem ackTrip (tag : Byte) : Statement (.ackTrip tag) := of_some rfl id nofun
theorem clearLockout (tag : Byte) : Statement (.clearLockout tag) := of_some rfl id nofun
theorem clearCell (tag : Byte) (cell : Byte) : Statement (.clearCell tag cell) := of_some rfl id nofun
theorem reinstate (tag : Byte) (cell : Byte) : Statement (.reinstate tag cell) := of_some rfl id nofun
theorem rebalance (tag : Byte) : Statement (.rebalance tag) := of_some rfl id nofun
theorem relink (tag : Byte) (cell : Byte) : Statement (.relink tag cell) := of_some rfl id nofun
theorem reenrol (tag : Byte) (cell : Byte) : Statement (.reenrol tag cell) := of_some rfl id nofun
theorem tunnel (tag : Byte) (cell : Byte) (bytes : List Byte) : Statement (.tunnel tag cell bytes) := by
  intro w r hr
  have hb : 1 ≤ bytes.length ∧ bytes.length ≤ 16 := by simpa [Instr.wellFormed] using w
  simp only [requestOf, if_pos hb, Option.some.injEq] at hr
  subst hr
  exact ⟨by simpa [RequestOp.wellFormed] using hb, nofun⟩
theorem hoistStatus (tag : Byte) (speed : BitVec 16) (zone : Byte) : Statement (.hoistStatus tag speed zone) := of_some rfl id nofun
theorem readStatus (tag : Byte) : Statement (.readStatus tag) := of_some rfl id nofun
theorem readCell (tag : Byte) (cell : Byte) : Statement (.readCell tag cell) := of_some rfl id nofun
theorem readCampaign (tag : Byte) (part : Byte) : Statement (.readCampaign tag part) := of_some rfl id nofun
theorem readSettings (tag : Byte) (part : Byte) : Statement (.readSettings tag part) := of_some rfl id nofun
theorem attentionScan (tag : Byte) : Statement (.attentionScan tag) := of_some rfl id nofun
theorem restart (tag : Byte) : Statement (.restart tag) := of_some rfl id nofun
theorem unknownRecord (tag : Byte) (recordType : Byte) : Statement (.unknownRecord tag recordType) := of_some rfl id nofun
theorem frameReceived (chars : List RxChar) : Statement (.frameReceived chars) := of_none rfl
theorem frameAborted (chars : List RxChar) : Statement (.frameAborted chars) := of_none rfl
theorem transmitDone : Statement .transmitDone := of_none rfl
theorem softReset : Statement .softReset := of_none rfl
theorem resetN : Statement .resetN := of_none rfl
theorem powerOn : Statement .powerOn := of_none rfl
theorem inputPinChange (line : InputLine) (asserted : Bool) : Statement (.inputPinChange line asserted) := of_none rfl
theorem driveRunQualified : Statement .driveRunQualified := of_none rfl
theorem brakeSetQualified : Statement .brakeSetQualified := of_none rfl
theorem cycleStart (loopback : Option (List Byte)) : Statement (.cycleStart loopback) := of_none rfl
theorem secondTick : Statement .secondTick := of_none rfl
theorem slotEnd (cell : CellRef) (seen : SlotSeen) : Statement (.slotEnd cell seen) := of_none rfl
theorem gateOffWatchTimeout : Statement .gateOffWatchTimeout := of_none rfl
theorem confirmTimeout (cell : CellRef) : Statement (.confirmTimeout cell) := of_none rfl
theorem tunnelTimeout (ring : Phase) : Statement (.tunnelTimeout ring) := of_none rfl
theorem epochCheck : Statement .epochCheck := of_none rfl
theorem rampComplete : Statement .rampComplete := of_none rfl
theorem enrolWindowExpiry : Statement .enrolWindowExpiry := of_none rfl
theorem bypassTimerExpiry (cell : CellRef) : Statement (.bypassTimerExpiry cell) := of_none rfl
theorem blindWaitExpiry (cell : CellRef) : Statement (.blindWaitExpiry cell) := of_none rfl
theorem rideThroughExpiry : Statement .rideThroughExpiry := of_none rfl
theorem brakeConfirmExpiry : Statement .brakeConfirmExpiry := of_none rfl
theorem resumeTimerExpiry : Statement .resumeTimerExpiry := of_none rfl
theorem holdMinimumExpiry : Statement .holdMinimumExpiry := of_none rfl
theorem attemptEntryExpiry : Statement .attemptEntryExpiry := of_none rfl
theorem freshnessExpiry : Statement .freshnessExpiry := of_none rfl
theorem batchTimerExpiry : Statement .batchTimerExpiry := of_none rfl
theorem selfTestSlotEnd (position : Fin 8) (seen : SlotSeen) : Statement (.selfTestSlotEnd position seen) := of_none rfl
theorem selfTestEnd : Statement .selfTestEnd := of_none rfl
theorem storageFault (target : StorageCell) (value : Byte) : Statement (.storageFault target value) := of_none rfl

end Sys2Proof.Laws.Carriage
end

