-- ==== Sys2Proof/Tests/Slice0.lean ====
section
/-! SUPPORT. Tests. First the well-formedness smoke, then the manual's worked examples, single commands on small states,
and last the witnesses: for each statement with hypotheses, a concrete state and operands that meet them. -/

namespace Sys2Proof.Tests

set_option Elab.async false

open Sys2Proof Sys2Proof.Machine

/-! ### Well-formedness: one ill-formed term refused by each check -/

theorem test_wf_settings_count : Instr.wellFormed (.setReporting 1 [none, none]) = false := by decide
theorem test_wf_settings_width : Instr.wellFormed (.setReporting 1 [some 256, none, none]) = false := by decide
theorem test_wf_device : Instr.wellFormed (.setDevice 1 [some 65536, none, none, none, none, none]) = false := by decide
theorem test_wf_ring : Instr.wellFormed (.setRing 1 1 []) = false := by decide
theorem test_wf_plan : Instr.wellFormed (.setPlan 1 [none]) = false := by decide
theorem test_wf_timing : Instr.wellFormed (.setTiming 1 [none]) = false := by decide
theorem test_wf_tunnel_empty : Instr.wellFormed (.tunnel 1 1 []) = false := by decide
theorem test_wf_tunnel_long : Instr.wellFormed (.tunnel 1 1 (List.replicate 17 0)) = false := by decide
theorem test_wf_unknown : Instr.wellFormed (.unknownRecord 1 0x1A) = false := by decide
theorem test_wf_loopback : Instr.wellFormed (.cycleStart (some [])) = false := by decide
theorem test_wf_slot : Instr.wellFormed (.slotEnd 0 ⟨false, some ⟨false, false, List.replicate 21 0⟩⟩) = false := by decide
theorem test_wf_testSlot :
    Instr.wellFormed (.selfTestSlotEnd 0 ⟨false, some ⟨false, false, List.replicate 21 0⟩⟩) = false := by decide
theorem test_wf_opMalformed : RequestOp.wellFormed (.malformed 0) = false := by decide
theorem test_wf_accepts : Instr.wellFormed (.setReporting 1 [some 255, none, some 0]) = true := by decide

/-! ### The manual's worked examples -/

/-- R144: the nine ASCII characters "123456789" give 0x29B1. -/
theorem test_crc16_check : crc16 [0x31, 0x32, 0x33, 0x34, 0x35, 0x36, 0x37, 0x38, 0x39] = 0x29B1 := by decide +kernel

/-- A settings image with another value in a field. -/
def imageWith (offset width v : Nat) : List Byte := writeImage defaultImage offset width v

/-- Table 6-7, rows 200, 600, 1024, 1999 and 2000 Hz. -/
theorem test_carrierPeriod_table :
    [200, 600, 1024, 1999, 2000].map (fun f => carrierPeriod (imageWith 84 2 f))
      = [200000, 66667, 39063, 20010, 20000] := by decide +kernel

/-- The note under Table 6-8: m = 3 and P = 66,667, the last index. -/
theorem test_carrierOffset_last : carrierOffset 66667 3 2 2 = 29629 := by decide +kernel

/-- Table 6-9. -/
theorem test_ceilings_table :
    [9993, 18400, 0].map (fun smin => (voltageCeiling smin 983, speedCeiling defaultImage (voltageCeiling smin 983)))
      = [(5874, 10680), (10817, 12000), (0, 0)] := by decide +kernel

/-- R139, R140: a cycle period of 205 is written as 200, and the adjusted set names field 0. -/
theorem test_setDevice_adjusts :
    (writeFields 250 deviceSpecs [some 205, none, none, none, none, none] defaultImage).take 2 = [0, 200]
      ∧ adjustedSet 250 deviceSpecs [some 205, none, none, none, none, none] = 1 := by decide +kernel

/-- R141: a slot start of 0 stands for the position's default and 1 to 19 are held as 20. -/
theorem test_slotStart_held : [0, 1, 19, 20, 21].map heldSlotStart = [0, 20, 20, 20, 21] := by decide

/-- R1: with 6 cells a phase, B1 is cell 7 and C6 is cell 18. -/
theorem test_numbering : numberOf defaultImage 8 = 7 ∧ numberOf defaultImage 21 = 18 := by decide +kernel

/-- R2: number 19 names no cell after RESET_N. -/
theorem test_named_range :
    State.reset.named 18 = some 21 ∧ State.reset.named 19 = none ∧ State.reset.named 0 = none := by decide +kernel

/-! ### Small states -/

/-- The device frozen in STANDBY with its defaults. -/
def standby : State :=
  { State.reset with
    store.mode := .standby
    store.frozen := true
    store.storedCrc := some (crc16 defaultImage) }

/-- SERVICE with the rings lit, in a sequencer state. -/
def service (st : SeqState) : State :=
  { standby with
    store.mode := .service
    seq.state := st
    rings.lit := true
    rings.healthOn := true }

/-- At rest: DRIVE_RUN deasserted, BRAKE_SET asserted. -/
def atRest (s : State) : State := { s with lock.brakeSet := { pin := true, level := true, change := none } }

/-- The transmit path sends a frame. -/
def sending (s : State) : State := { s with link.transmitting := some ⟨⟨0x95, 0, []⟩, 0⟩ }

/-- An enrolled cell in a service state. -/
def cellIn (v : Service) : Cell := { Cell.empty v with link := .enrolled }

/-- The state with one record replaced. -/
def withCell (c : CellRef) (x : Cell) (s : State) : State := { s with cells := s.cells.set c x }

/-- A campaign open in its first iteration. -/
def campaignOf (kind : CampaignKind) (style : Style) (set : List CellRef) : Campaign where
  number := 1
  kind := kind
  style := some style
  iteration := 1
  set := set
  opened := 0
  pendingTag := none
  issue := none

/-- SERVICE in a stage of a campaign. -/
def inStage (st : SeqState) (k : Campaign) : State := { service st with seq.campaign := some k }

/-- A state at which every timer that runs from stamp 0 has run its time. -/
def late (s : State) : State := { s with gen.timebase := 4000000000 }

/-- An ability record that the defaults accept. -/
def anAbility : Ability where
  serial := 5
  ratedDc := 1000
  cellClass := 0
  bypassKind := .contactor
  halfRateCapable := false
  firmwareMajor := 0
  firmwareMinor := 0

/-- A clean response with bypass CLOSED. -/
def responseOf (classCode : Byte) : Response where
  gate := 0
  bypass := 1
  classCode := classCode
  detail := 0
  dc := 2000
  tag := 0
  message := .none

/-- A slot that shows a response in time. -/
def slotWith (r : Response) : SlotSeen := ⟨false, some ⟨false, false, responseBytes r⟩⟩

/-- A missed slot, and one whose signal was still present at its end. -/
def missedSlot : SlotSeen := ⟨false, none⟩
def overrunSlot : SlotSeen := ⟨false, some ⟨false, true, []⟩⟩

theorem missedSlot_not_valid : ∀ r, judgeSlot missedSlot ≠ .valid r := by
  rw [show judgeSlot missedSlot = .missed from by decide +kernel]; nofun

theorem overrunSlot_not_valid : ∀ r, judgeSlot overrunSlot ≠ .valid r := by
  rw [show judgeSlot overrunSlot = .overrun from by decide +kernel]; nofun

/-! ### Single commands -/

/-- The next state, where there is one. -/
def nextOf (o : Host.Outcome State Fault Refusal) : Option State :=
  match o with
  | .next t => some t
  | .fault _ => none
  | .refused _ => none

/-- R143: FREEZE of the defaults passes. -/
theorem test_freeze_defaults : (nextOf (exec (.freeze 1) State.reset)).map (·.store.mode) = some .standby := by
  decide +kernel

/-- R146, R79: GO opens campaign 1, a START campaign. -/
theorem test_go : (nextOf (exec (.go 1) standby)).map (fun t => (t.seq.state, t.seq.lastNumber)) = some (.block, 1) := by
  decide +kernel

/-- R54: one missed slot of an enrolled cell raises its miss count by 6. -/
theorem test_miss :
    (nextOf (exec (.slotEnd 0 ⟨false, none⟩) (withCell 0 (cellIn .reserve) (service .ready)))).map
      (fun t => ((t.cell 0).missCount, (t.cell 0).reportAge)) = some (6, 1) := by decide +kernel

/-- R133: with 250 µs and 400 ms the first ramp step is floor(1024 × 250 ÷ 400,000) = 0 and the fourth 2. -/
theorem test_rampStep :
    (nextOf (exec (.cycleStart none) { inStage .ramp (campaignOf .fault .running []) with lock.rampCount := 3 })).map
      (fun t => (t.seq.scale, t.lock.rampCount)) = some (2, 4) := by decide +kernel

/-- R25: the tick that reaches 1,000,000 µs issues a second tick. -/
theorem test_secondTick_due :
    (nextOf (step { State.reset with gen.timebase := 999999 })).map (fun t => decide (.secondTick ∈ t.pending)) = some true := by
  decide +kernel

/-- R158, Table 12-4: the MALFORMED reply to a TUNNEL without bytes carries the byte count 0. -/
theorem test_tunnel_malformed :
    (nextOf (exec (.tunnel 7 1 []) (sending (service .ready)))).map (·.link.replies) = some [⟨0x93, 7, [8, 0]⟩] := by
  decide +kernel

/-- R122: FRESHNESS_EXPIRY of the record that HOIST_STATUS has just replaced leaves the new record fresh. -/
theorem test_freshness_of_replaced :
    (nextOf (exec (.hoistStatus 1 100 4) (late (service .ready)))).bind (fun t =>
      (nextOf (exec .freshnessExpiry t)).bind fun u => u.lock.hoist.map HoistRecord.fresh) = some true := by
  decide +kernel

/-- R131: RESUME_TIMER_EXPIRY after the timer has been started again trips nothing. -/
theorem test_resumeTimer_restarted :
    (nextOf (exec .resumeTimerExpiry
      { inStage .awaitResume (campaignOf .fault .held []) with lock.resumeTimer := some 0 })).map (·.seq.state)
      = some .awaitResume := by decide +kernel

/-- Log entry 6: on an empty queue one microsecond passes. -/
theorem test_idle : (nextOf (step State.reset)).map (·.gen.timebase) = some 1 := by decide +kernel

/-! ### Witnesses for the statements' hypotheses. Each theorem names its statement; a statement of several clauses has one
clause of the theorem for each. -/

/-- A state whose reply list holds `n` replies. -/
def withReplies (n : Nat) (s : State) : State := { s with link.replies := List.replicate n ⟨0x95, 0, []⟩ }

theorem witness_StepRunsTheFrontCommandOrPassesTime :
    ({ State.reset with pending := [.go 1] } : State).pending = .go 1 :: [] ∧ State.reset.pending = [] := by decide

theorem witness_ReceivedFrameActsAsItsRequest :
    requestOf (.tunnel 7 1 (List.replicate 16 255)) = some ⟨7, .tunnel 1 (List.replicate 16 255)⟩
      ∧ (Instr.tunnel 7 1 (List.replicate 16 255)).wellFormed = true ∧ State.reset.link.framer = .hunt := by
  decide +kernel

theorem witness_RequestRecordsReadBack :
    (RequestOp.setReporting [some 255, none, some 0]).wellFormed = true
      ∧ ∀ t : Byte, RequestOp.setReporting [some 255, none, some 0] ≠ .malformed t := ⟨by decide, nofun⟩

theorem witness_BadFramesAreCounted :
    (State.reset.link.framer = .hunt
      ∧ 2 ≤ (List.replicate 2 (0 : Byte)).length ∧ (List.replicate 60 (0 : Byte)).length ≤ 60
      ∧ (0 : Byte) ++ (0 : Byte) ≠ crc16 (BitVec.ofNat 8 2 :: List.replicate 2 0)
      ∧ (0 : Byte) ++ (0 : Byte) ≠ crc16 (BitVec.ofNat 8 60 :: List.replicate 60 0))
    ∧ ([] : List Byte).length < 2 ∧ (List.replicate 59 (0 : Byte)).length < 60 := by decide +kernel

/-- The bad lengths next to 2 and 60; a frame cut in LENGTH, in PAYLOAD and before its second CRC byte; noise in HUNT. -/
theorem witness_BadFramesAreCounted_discards :
    ((1 : Byte).toNat < 2 ∧ 60 < (61 : Byte).toNat)
    ∧ InsideFrame [0xA5] ∧ InsideFrame [0xA5, 2] ∧ InsideFrame [0xA5, 2, 7, 8, 9]
    ∧ ∀ ch ∈ ([⟨0x5A, true, true⟩, ⟨0xA5, false, false⟩] : List RxChar), ch.stopOk = false ∨ ch.value ≠ 0xA5 :=
  ⟨by decide, .inl rfl, .inr ⟨2, [], by decide, by decide, by decide, rfl⟩,
    .inr ⟨2, [7, 8, 9], by decide, by decide, by decide, rfl⟩, by decide⟩

/-- R153: a gap before the second CRC byte ends the frame, and that byte opens the next. -/
theorem test_gap_in_check :
    (nextOf (exec (.frameReceived (cleanChars [0xA5, 2, 7, 8, 9] ++ [⟨0xA5, true, true⟩])) State.reset)).map
      (fun s => (s.link.frameErrors, s.link.framer)) = some (1, .length) := by decide +kernel

theorem witness_RequestIsHeldBusyOrDiscarded :
    requestOf (.go 1) = some ⟨1, .go⟩ ∧ (sending (withReplies 4 State.reset)).link.transmitting.isSome = true
      ∧ 4 ≤ (sending (withReplies 4 State.reset)).link.replies.length
      ∧ (sending (withReplies 8 State.reset)).link.replies.length = 8 := by decide +kernel

theorem witness_LinkChecksDecideTheReply :
    Ready State.reset ∧ ([] : List Byte).length = 0 ∧ 16 < (List.replicate 17 (0 : Byte)).length
      ∧ requestOf (.go 1) = some ⟨1, .go⟩ ∧ takenIn RequestOp.go State.reset.store.mode = false := by decide

/-- GO with a body of one byte; SET_REPORTING with bit 3 of its presence set, and with a byte too few; an empty SET_RING; a
TUNNEL whose byte count is 17, and one a byte short; the types next to the requests'. -/
theorem witness_LinkChecksDecideTheReply_bodies :
    State.reset.link.framer = .hunt ∧ BodyNotAdmitted 0x09 [0]
    ∧ BodyNotAdmitted 0x05 [0, 0, 8] ∧ BodyNotAdmitted 0x05 [0, 0, 3, 1] ∧ BodyNotAdmitted 0x02 []
    ∧ BodyNotAdmitted 0x13 (1 :: 17 :: List.replicate 17 0) ∧ BodyNotAdmitted 0x13 [1, 2, 0]
    ∧ ((0x1B : Byte).toNat = 0x1B ∧ (List.replicate 58 (0 : Byte)).length ≤ 58) := by
  refine ⟨by decide, .inl (by decide), ?_, ?_, ?_, ?_, ?_, by decide⟩
  · exact .inr (.inr (.inr (.inr (.inr (.inr (.inr (.inr ⟨rfl, .inr (.inl ⟨3, by decide, by decide⟩)⟩)))))))
  · exact .inr (.inr (.inr (.inr (.inr (.inr (.inr (.inr ⟨rfl, .inr (.inr (by decide))⟩)))))))
  · exact .inr (.inr (.inr (.inr (.inr (.inl ⟨rfl, .inl rfl⟩)))))
  · exact .inr (.inr (.inr (.inl ⟨rfl, by decide⟩)))
  · exact .inr (.inr (.inr (.inl ⟨rfl, by decide⟩)))

/-- R178: a presence bit above the fields is MALFORMED in a mode that does not take the request. -/
theorem test_presence_bit_malformed :
    (nextOf (exec (.frameReceived (cleanChars (linkFrame [0x05, 9, 0, 0, 8]))) standby)).map
      (fun s => s.link.transmitting.map Transmission.record)
      = some (some ⟨0x85, 9, [ReplyCode.malformed.code]⟩) := by decide +kernel

/-- Two queued notices: an urgent one and a released cell notice. -/
def noticed : State :=
  { service .ready with
    notices.urgent := [.lines true false false false]
    notices.cells := [⟨3, true⟩] }

theorem witness_FreePathTakesReplyThenNotice :
    noticed.link.transmitting = none ∧ (withReplies 1 noticed).link.replies = ⟨0x95, 0, []⟩ :: []
      ∧ (noticed.link.replies = [] ∧ noticed.notices.urgent = .lines true false false false :: [])
      ∧ ({ noticed with notices.urgent := [] } : State).notices.cells.find? (·.released) = some ⟨3, true⟩
      ∧ State.reset.notices.cells.find? (·.released) = none ∧ 65535 < 65536 ∧ 255 < 256 := by decide +kernel

/-- Table 12-4: the LINES notice of this queue, taken with the overrun flag set. -/
theorem test_urgentRecord_lines :
    urgentRecord (.lines true false false true) true 0x01020304 = ⟨0x43, 1, [1, 2, 3, 4, 9]⟩ := by decide +kernel

theorem witness_TransmitDoneFreesThePath :
    (sending noticed).link.transmitting = some ⟨⟨0x95, 0, []⟩, 0⟩ ∧ (sending noticed).link.restartPending = false
      ∧ (sending noticed).link.buffer = [] := by decide +kernel

/-- The device sending RESTART's OK, with a campaign open. -/
def restarting : State :=
  { inStage .plan (campaignOf .fault .running [2]) with
    link.transmitting := some ⟨⟨0x9A, 5, [ReplyCode.ok.code]⟩, 0⟩
    link.restartPending := true }

/-- A frame is being sent, `n` replies wait and requests are held. -/
def waiting (n : Nat) (requests : List Request) : State :=
  { sending (withReplies n State.reset) with link.buffer := requests }

/-- A reply leaves a list of four, and of five, while requests are held. -/
theorem witness_TransmitDoneFreesThePath_held :
    requestOf (.go 1) = some ⟨1, .go⟩
    ∧ ((waiting 4 [⟨1, .go⟩]).link.transmitting = some ⟨⟨0x95, 0, []⟩, 0⟩
      ∧ (waiting 4 [⟨1, .go⟩]).link.restartPending = false
      ∧ (waiting 4 [⟨1, .go⟩]).link.replies = ⟨0x95, 0, []⟩ :: List.replicate 3 ⟨0x95, 0, []⟩
      ∧ (waiting 4 [⟨1, .go⟩]).link.buffer = [⟨1, .go⟩])
    ∧ (waiting 4 [⟨1, .go⟩, ⟨2, .halt⟩]).link.buffer = ⟨1, .go⟩ :: [⟨2, .halt⟩]
    ∧ ((waiting 5 [⟨1, .go⟩]).link.replies = ⟨0x95, 0, []⟩ :: List.replicate 4 ⟨0x95, 0, []⟩
      ∧ 4 ≤ (List.replicate 4 (⟨0x95, 0, []⟩ : LinkRecord)).length)
    ∧ State.reset.link.buffer = [] ∧ restarting.link.restartPending = true := by decide +kernel

/-- R157: of two held requests the first alone is dispatched when one of four replies leaves, and its reply joins the list. -/
theorem test_held_request_dispatched :
    (nextOf (exec .transmitDone (waiting 4 [⟨1, .go⟩, ⟨2, .halt⟩]))).map
      (fun t => (t.link.buffer, t.link.replies.map LinkRecord.tag)) = some ([⟨2, .halt⟩], [0, 0, 0, 1]) := by decide +kernel

theorem witness_RestartOkSentResetsSoftly :
    (restarting.link.transmitting = some ⟨⟨0x9A, 5, [ReplyCode.ok.code]⟩, 0⟩ ∧ restarting.link.restartPending = true)
    ∧ restarting.lock.holdReq = true ∧ ({ restarting with lock.holdReq := false } : State).lock.holdReq = false
    ∧ 0 < cfgHoldMinimum restarting.store.image ∧ cfgHoldMinimum (imageWith 114 2 0) = 0
    ∧ (restarting.cell 0).service.working = false := by
  decide +kernel

/-- Table 7-6: RESTART drops the open campaign's timers, step count and hold mark. -/
theorem test_softReset_dropsTimers :
    (nextOf (exec .softReset { restarting with
      lock.holdMark := true, lock.rideThrough := some 1, lock.brakeConfirm := some 1, lock.resumeTimer := some 1,
      lock.rampCount := 3 })).map
      (fun t => (t.lock.holdMark, t.lock.rideThrough, t.lock.brakeConfirm, t.lock.resumeTimer, t.lock.rampCount))
      = some (false, none, none, none, 0) := by decide +kernel

/-- RESET_N and power-on are the two commands asked about, at any state. -/
theorem witness_ResetSetsTheRoster : (Instr.resetN = .resetN ∨ Instr.resetN = .powerOn) ∧ positionOf 5 = 6 ∧ positionOf 6 = 7 := by
  decide

theorem witness_FullResetRestoresTheResetState : Instr.powerOn = .resetN ∨ Instr.powerOn = .powerOn := by decide

theorem witness_SettingsWriteTheirFields :
    defaultImage.length = 125 ∧ [some 100, none, none, none, none, some 1].length = deviceSpecs.length
      ∧ firstRefused 250 0 deviceSpecs [some 100, none, none, none, none, some 1] = none
      ∧ firstRefused 250 0 deviceSpecs [some 1000, none, none, none, none, some 0] = none := by decide +kernel

/-- R140, R141: a value outside its range is refused or replaced by the nearer end; a period is rounded down to a step; a
slot start needs 30 µs of the period after it. -/
theorem test_judge :
    [judge 250 (.refuse 2 8) 9, judge 250 (.clamp 5 200) 4, judge 250 (.round 100 1000 10) 1000,
      judge 250 (.slotStart 1) 220, judge 250 (.slotStart 1) 221, judge 1000 (.slotStart 8) 0, judge 217 (.slotStart 8) 0]
      = [none, some 5, some 1000, some 220, none, some 0, none] := by decide +kernel

/-- CONFIG while a self-test runs. -/
def testing1 : State :=
  { State.reset with
    store.selfTest := some { ring := .b, cycle := 1, slot := 7, failingSlots := 0, failingFrames := 0 } }

theorem witness_SettingsRequestsWriteOrRefuse :
    Ready State.reset ∧ State.reset.store.mode = .config
      ∧ (requestOf (.setPlan 1 []) = some ⟨1, .setPlan []⟩ ∧ takenIn (RequestOp.setPlan []) .standby = false
        ∧ takenIn (RequestOp.setPlan []) .service = false ∧ (∀ ring, RequestOp.setPlan [] ≠ .selfTest ring)
        ∧ Ready testing1 ∧ testing1.store.selfTest.isSome = true)
      ∧ State.reset.store.selfTest = none ∧ phaseOfCode 0 = none ∧ phaseOfCode 4 = none
      ∧ (settingsFields (.setReporting [some 2, none, none]) = some (reportingSpecs, [some 2, none, none])
        ∧ firstRefused 250 0 reportingSpecs [some 2, none, none] = some (0, ⟨121, 1, .refuse 0 1, 0, 0⟩))
      ∧ firstRefused 250 0 deviceSpecs [none, some 400, none, none, none, none] = none
      ∧ firstRefused 250 0 (ringSpecs .c) (some 8 :: List.replicate 16 none) = none
      ∧ firstRefused 250 0 planSpecs (List.replicate 8 none ++ [some 10]) = none
      ∧ firstRefused 250 0 timingSpecs (List.replicate 14 none) = none
      ∧ firstRefused 250 0 reportingSpecs [none, some 1, some 255] = none :=
  ⟨by decide, by decide, ⟨by decide, by decide, by decide, nofun, by decide, by decide⟩, by decide, by decide, by decide,
    ⟨by decide, by decide +kernel⟩, by decide +kernel, by decide +kernel, by decide +kernel, by decide +kernel,
    by decide +kernel⟩

/-- Notices held and timers running, under the defaults. -/
def held (n : Nat) : State :=
  { State.reset with
    notices.cells := (allCells.take n).map fun c => ⟨c, false⟩
    notices.batchTimer := some 0
    lock.holdTimer := some 0
    lock.hoist := some { speed := 0, zone := .station, stamp := 0, fresh := true } }

/-- The effects of SET_PLAN, SET_TIMING and SET_REPORTING: a field carried and not, a timer that has run its time and one
that has not, the batch count reached and not. -/
theorem witness_SettingsRequestsWriteOrRefuse_effects :
    (carried [none, none, none, none, none, none, none, some 1, some 10] 7 = true
      ∧ carried [none, none, none, none, none, none, none, some 1, some 10] 8 = true
      ∧ cfgAttemptWindow State.reset.store.image < 601)
    ∧ (carried (List.replicate 11 none ++ [some 1, none, none]) 11 = true ∧ carried (List.replicate 14 none) 11 = false
      ∧ (late (held 0)).lock.holdTimer = some 0
      ∧ cfgHoldMinimum (late (held 0)).store.image * 1000 ≤ ((late (held 0)).gen.timebase - 0).toNat
      ∧ ((held 0).gen.timebase - 0).toNat < cfgHoldMinimum (held 0).store.image * 1000)
    ∧ (carried [none, some 1, none] 1 = true ∧ carried [none, none, some 1] 2 = true
      ∧ carried [some 1, none, none] 1 = false ∧ carried [some 1, none, none] 2 = false)
    ∧ ((held 4).notices.cells.countP (!·.released) = 4 ∧ cfgBatchCount (held 4).store.image = 4
      ∧ (held 3).notices.cells.countP (!·.released) = 3)
    ∧ (cfgBatchTimer (late (held 0)).store.image * 1000 ≤ ((late (held 0)).gen.timebase - 0).toNat
      ∧ ((held 3).gen.timebase - 0).toNat < cfgBatchTimer (held 3).store.image * 1000) := by decide +kernel

theorem witness_InstalledCountReshapesThePhase :
    phaseOf 0 ≠ .b ∧ phaseOf 14 = .b ∧ positionOf 14 = 7 ∧ State.reset.installed 14 = false
      ∧ State.reset.installed 13 = true := by decide +kernel

theorem witness_FreezeSealsTheSettings :
    (Ready State.reset ∧ State.reset.store.mode = .config)
      ∧ (Ready testing1 ∧ testing1.store.mode = .config ∧ testing1.store.selfTest.isSome = true)
      ∧ (State.reset.store.selfTest = none ∧ freezeFault State.reset = none)
      ∧ (freezeFault { State.reset with store.image := imageWith 83 1 7 }).isSome = true := by decide +kernel

/-- CONFIG with one setting altered. -/
def configured (offset width v : Nat) : State := { State.reset with store.image := imageWith offset width v }

/-- Each check of Table 8-4 that fails, at a boundary: two slots 19 µs apart; a window whose ends meet; seven cells asked of six;
a slot that begins 29 µs before the cycle's end. -/
theorem witness_FreezeSealsTheSettings_checks :
    (SlotsClash (configured 7 2 39) 0 1
      ∧ ∀ p q : CellRef, (p < 0 ∨ (p = 0 ∧ q < 1)) → ¬SlotsClash (configured 7 2 39) p q)
    ∧ ((∀ p q : CellRef, ¬SlotsClash (configured 90 2 1700) p q)
      ∧ cfgDcHigh (configured 90 2 1700).store.image ≤ cfgDcLow (configured 90 2 1700).store.image)
    ∧ ((∀ p q : CellRef, ¬SlotsClash (configured 83 1 7) p q)
      ∧ cfgDcLow (configured 83 1 7).store.image < cfgDcHigh (configured 83 1 7).store.image
      ∧ cfgInstalled (configured 83 1 7).store.image .b < cfgMinActive (configured 83 1 7).store.image)
    ∧ ((∀ p q : CellRef, ¬SlotsClash (configured 15 2 221) p q)
      ∧ cfgDcLow (configured 15 2 221).store.image < cfgDcHigh (configured 15 2 221).store.image
      ∧ (∀ p : Phase, cfgMinActive (configured 15 2 221).store.image ≤ cfgInstalled (configured 15 2 221).store.image p)
      ∧ (configured 15 2 221).installed 5 = true
      ∧ cfgCyclePeriod (configured 15 2 221).store.image < effectiveStart (configured 15 2 221).store.image 5 + 30
      ∧ ∀ d : CellRef, d < 5 → (configured 15 2 221).installed d = true →
          effectiveStart (configured 15 2 221).store.image d + 30 ≤ cfgCyclePeriod (configured 15 2 221).store.image) :=
  ⟨by decide +kernel, by decide +kernel,
    ⟨by decide +kernel, by decide +kernel, by decide +kernel⟩, by decide +kernel, by decide +kernel,
    fun p => by cases p <;> decide +kernel, by decide +kernel⟩

/-- R143, Table 12-4: the body names the positions, not the cell numbers. -/
theorem test_freezeFault_body :
    [freezeFault (configured 23 2 39), freezeFault (configured 31 2 221)]
      = [some [1, 2, 1, 2], some [4, 2, 6, 0]] := by decide +kernel

theorem witness_UnfreezeReturnsToConfig :
    Ready standby ∧ standby.store.mode = .standby ∧ Ready State.reset ∧ State.reset.store.mode ≠ .standby := by decide

/-- A cycle period of 180 µs, too short for the self-test. -/
def shortCycle : State := { State.reset with store.image := imageWith 0 2 180 }

theorem witness_SelfTestRunsToItsResult :
    (Ready State.reset ∧ State.reset.store.mode = .config ∧ phaseOfCode 0 = none ∧ phaseOfCode 3 = some .c
      ∧ testing1.store.selfTest.isSome = true ∧ State.reset.store.selfTest = none
      ∧ cfgCyclePeriod shortCycle.store.image < 190 ∧ 190 ≤ cfgCyclePeriod (imageWith 0 2 190))
    ∧ testing1.store.selfTest
        = some { ring := .b, cycle := 1, slot := (7 : Fin 8).val, failingSlots := 0, failingFrames := 0 }
    ∧ (({ State.reset with
          store.selfTest := some { ring := .b, cycle := 64, slot := 8, failingSlots := 0, failingFrames := 0 } }
        : State).store.selfTest).map (fun m => (m.cycle, m.slot)) = some (64, 8)
    ∧ (Quiet (sending testing1) ∧ (sending testing1).store.selfTest.isSome = true ∧ 1 < 64 ∧ 64 ≤ 64
      ∧ (some [1, 2, 3] : Option (List Byte)) = some ([1] ++ [2, 3])) := by decide +kernel

/-- R149, Table 8-6: virtual cell 1 in test cycle 1 answers NONE, and virtual cell 8 in test cycle 6 answers class 0 again. -/
theorem test_expectedAnswer :
    [expectedAnswer 1 1, expectedAnswer 6 8].map (fun r => (r.classCode, r.detail, r.dc, r.tag))
      = [(0, 1, 1365, 1), (0, 8, 1365, 6)] := by decide

theorem witness_GoOpensTheStartCampaign :
    Ready standby ∧ standby.store.mode = .standby ∧ standby.seq.state = .off ∧ standby.lock.trip = false
      ∧ standby.store.results.a ≠ .fail ∧ standby.store.results.b ≠ .fail ∧ standby.store.results.c ≠ .fail
      ∧ standby.store.storedCrc = some (crc16 standby.store.image) := by decide +kernel

theorem witness_GoIsRefusedInOrder :
    (Ready standby ∧ standby.store.mode = .standby)
      ∧ ({ standby with lock.trip := true } : State).lock.trip = true
      ∧ (standby.lock.trip = false
        ∧ ({ standby with store.results := ⟨.pass, .pass, .fail⟩ } : State).store.results.get .c = .fail)
      ∧ (∀ p ∈ phases, standby.store.results.get p ≠ .fail)
      ∧ ({ standby with store.image := standby.store.image.set 0 1 } : State).store.storedCrc
        ≠ some (crc16 (standby.store.image.set 0 1)) := by decide +kernel

theorem witness_StorageFaultAltersOneByte :
    standby.store.frozen = true ∧ standby.store.storedCrc = some (crc16 defaultImage)
      ∧ State.reset.store.frozen = false := by decide +kernel

theorem witness_BadCellNumberIsRange :
    (Instr.readCell 1 19 ∈ [Instr.readCell 1 19, .reinstate 1 19, .clearCell 1 19, .relink 1 19, .reenrol 1 19,
        .tunnel 1 19 [0]]
      ∧ requestOf (.readCell 1 19) = some ⟨1, .readCell 19⟩ ∧ (RequestOp.readCell 19).wellFormed = true
      ∧ (∀ t, RequestOp.readCell 19 ≠ .malformed t) ∧ Ready State.reset
      ∧ takenIn (RequestOp.readCell 19) State.reset.store.mode = true
      ∧ cfgInstalled defaultImage .a + cfgInstalled defaultImage .b + cfgInstalled defaultImage .c < (19 : Byte).toNat)
    ∧ State.reset.named 18 = some 21 :=
  ⟨⟨by decide, by decide, by decide, nofun, by decide, by decide, by decide +kernel⟩, by decide +kernel⟩

/-- A LOCKED_OUT cell 1 and a BYPASSED cell 2 with a hard fault record, under a strike limit of 2. -/
def repairs (st : SeqState) (reenrolled : Bool) : State :=
  withCell 0 { cellIn .lockedOut with strikes := 2 } (withCell 1 { cellIn .bypassed with
    strikes := 1
    fault := some { first := .overcurrent, detail := 0, stamp := 0, further := 0, kind := .hard, blind := false,
                    reenrolled := reenrolled } } (service st))

theorem witness_ClearCellAndReinstateMoveTheCell :
    (Ready (repairs .ready true) ∧ (repairs .ready true).named 1 = some 0 ∧ (repairs .ready true).named 2 = some 1
      ∧ (repairs .ready true).store.mode = .service ∧ (repairs .plan true).store.mode = .service)
    ∧ (((repairs .ready true).cell 1).service ≠ .lockedOut ∧ ((repairs .ready true).cell 0).service = .lockedOut
      ∧ (repairs .plan true).seq.state ≠ .ready ∧ (repairs .ready true).seq.state = .ready)
    ∧ (((repairs .ready true).cell 0).service ≠ .bypassed ∧ ((repairs .ready true).cell 1).service = .bypassed
      ∧ ((repairs .ready true).cell 1).strikes < cfgStrikeLimit (repairs .ready true).store.image)
    ∧ (withCell 1 { cellIn .bypassed with link := .dark } (service .ready)).cell 1 = { cellIn .bypassed with link := .dark }
    ∧ ((repairs .ready true).cell 1).link = .enrolled
    ∧ (((repairs .ready false).cell 1).fault.map fun f => (f.kind, f.reenrolled)) = some (.hard, false)
    ∧ (((repairs .ready true).cell 1).fault.map fun f => (f.kind, f.reenrolled)) = some (.hard, true) := by
  decide +kernel

/-- Cell 1 with a link in a state. -/
def linkedAs (l : LinkState) (run : Nat) : State :=
  withCell 0 { Cell.empty .awaiting with link := l, goodRun := run } (service .ready)

theorem witness_RelinkAndReenrolReinvite :
    (Ready (linkedAs .severed 48) ∧ (linkedAs .severed 48).store.mode = .service
      ∧ (linkedAs .severed 48).named 1 = some 0)
    ∧ ((linkedAs .severed 47).cell 0).goodRun < 48 ∧ ((linkedAs .severed 48).cell 0).link = .severed
    ∧ 48 ≤ ((linkedAs .severed 48).cell 0).goodRun
    ∧ (((linkedAs .dark 0).cell 0).link ≠ .rejected ∧ ((linkedAs .dark 0).cell 0).link ≠ .unsteady)
    ∧ ((linkedAs .rejected 0).cell 0).link = .rejected ∧ ((linkedAs .unsteady 0).cell 0).link = .unsteady := by
  decide +kernel

/-- TUNNEL enabled, with cell 1 enrolled. -/
def tunnelled (st : SeqState) (mail : Option Exchange) : State :=
  { withCell 0 (cellIn .reserve) (service st) with store.image := imageWith 122 1 1, rings.mail := ⟨mail, none, none⟩ }

/-- An exchange of cell 1 at a cycle count. -/
def exchangeAt (count : Nat) : Exchange where
  cell := 0
  tag := 9
  out := [1]
  sent := 0
  collecting := false
  reply := []
  poll := 0
  count := count

theorem witness_TunnelOpensAnExchange :
    (Ready (tunnelled .ready none) ∧ (tunnelled .ready none).store.mode = .service ∧ 1 ≤ [(1 : Byte)].length
      ∧ (List.replicate 16 (1 : Byte)).length ≤ 16 ∧ (tunnelled .ready none).named 1 = some 0)
    ∧ cfgTunnelEnable (service .ready).store.image = false ∧ cfgTunnelEnable (tunnelled .ready none).store.image = true
    ∧ (tunnelled .ready none).named 2 = some 1 ∧ ((tunnelled .ready none).cell 1).link ≠ .enrolled
    ∧ ((tunnelled .ready none).cell 0).link = .enrolled
    ∧ ((tunnelled .ready (some (exchangeAt 0))).rings.mail.get (phaseOf 0)).isSome = true
    ∧ (tunnelled .ready none).rings.mail.get (phaseOf 0) = none ∧ (tunnelled .plan none).seq.state ≠ .ready
    ∧ (tunnelled .ready none).seq.state = .ready := by decide +kernel

/-- A response that carries a TUNNEL chunk. -/
def chunkOf (final : Bool) (seq : BitVec 2) (length : BitVec 3) : Response :=
  { responseOf 0 with message := .tunnel final seq length [1, 2, 3, 4] }

/-- An exchange of cell 1 that polls for a chunk, after `n` reply bytes. -/
def pollingAt (poll n : Nat) : Exchange :=
  { exchangeAt 9 with sent := 1, collecting := true, poll := poll, reply := List.replicate n 7 }

/-- READY, quiet, with an exchange of cell 1 in flight. -/
def exchanging (x : Exchange) : State := sending (tunnelled .ready (some x))

theorem witness_TunnelOpensAnExchange_cycleStart :
    (Quiet (exchanging (exchangeAt 0)) ∧ (exchanging (exchangeAt 0)).store.mode = .service
      ∧ (exchanging (exchangeAt 0)).seq.state = .ready
      ∧ (exchanging (exchangeAt 0)).rings.mail.get .a = some (exchangeAt 0) ∧ phaseOf (exchangeAt 0).cell = .a
      ∧ (exchanging (exchangeAt 0)).installed 0 = true ∧ ((exchanging (exchangeAt 0)).cell 0).link = .enrolled
      ∧ (exchangeAt 63).count < 64)
    ∧ ((exchangeAt 0).collecting = false ∧ (exchangeAt 0).sent < ((exchangeAt 0).out.length + 3) / 4)
    ∧ ({ exchangeAt 1 with sent := 1 }.collecting = false
      ∧ ({ exchangeAt 1 with sent := 1 }.out.length + 3) / 4 ≤ { exchangeAt 1 with sent := 1 }.sent
      ∧ 1 ≤ { exchangeAt 1 with sent := 1 }.count)
    ∧ (pollingAt 0 0).collecting = true ∧ 1 ≤ (pollingAt 0 0).count := by decide +kernel

theorem witness_TunnelOpensAnExchange_chunks :
    (Quiet (exchanging (pollingAt 0 0)) ∧ (exchanging (pollingAt 0 0)).seq.state = .ready
      ∧ Answers (pollingAt 0 0).cell (slotWith (chunkOf true 0 4)) (chunkOf true 0 4) (exchanging (pollingAt 0 0))
      ∧ ((exchanging (pollingAt 0 0)).cell 0).link = .enrolled
      ∧ (chunkOf true 0 4).message = .tunnel true 0 4 [1, 2, 3, 4] ∧ (chunkOf true 0 4).classCode = 0
      ∧ insideWindow (exchanging (pollingAt 0 0)).store.image (chunkOf true 0 4).dc = true
      ∧ (exchanging (pollingAt 0 0)).rings.mail.get (phaseOf 0) = some (pollingAt 0 0))
    ∧ (4 < (5 : BitVec 3).toNat ∧ (1 : BitVec 2).toNat ≠ (pollingAt 0 0).poll ∧ (exchangeAt 0).collecting = false)
    ∧ (16 < (pollingAt 0 13).reply.length + (4 : BitVec 3).toNat
      ∧ (pollingAt 0 12).reply.length + (4 : BitVec 3).toNat ≤ 16)
    ∧ Answers (pollingAt 3 4).cell (slotWith (chunkOf false 3 4)) (chunkOf false 3 4) (exchanging (pollingAt 3 4))
    ∧ ((3 : BitVec 2).toNat = (pollingAt 3 4).poll ∧ (pollingAt 0 0).poll ≠ 3) := by decide +kernel

theorem witness_ReadoutsReport :
    Ready State.reset ∧ State.reset.named 1 = some 0 ∧ (campaignPart State.reset 9).isSome = true
      ∧ 9 < (10 : Byte).toNat ∧ (settingsPart State.reset 2).isSome = true ∧ 2 < (3 : Byte).toNat := by decide +kernel

/-- A campaign record whose set is full, a severed cell, a rejected one, and histories of 0 and 1 records. -/
theorem witness_ReadoutsReport_layouts :
    (List.replicate 24 24).length ≤ 24 ∧ (List.replicate 24 24).getD 23 0 < 256
      ∧ (withCell 0 { cellIn .reserve with link := .severed, severStamp := some 3 } State.reset).cell 0
        = { cellIn .reserve with link := .severed, severStamp := some 3 }
      ∧ (withCell 0 { cellIn .awaiting with link := .rejected, rejectCause := some .ratedDc } State.reset).cell 0
        = { cellIn .awaiting with link := .rejected, rejectCause := some .ratedDc }
      ∧ State.reset.seq.history.length < 256 ∧ State.reset.seq.attempts.length ≤ 8
      ∧ 600 < 256 ^ 2 ∧ (0xFFFFFFFF : Stamp).toNat < 256 ^ 4 := by decide +kernel

/-- Cell 18 alone has a report flag, and the scan position is 24. -/
def flagged : State :=
  { withCell 21 { cellIn .reserve with flags := 1 } (service .ready) with notices.scan := 24 }

theorem flagged_only : ∀ d : CellRef, (flagged.cell d).flags ≠ 0 → d = 21 := by decide +kernel

theorem flagged_number : ∀ m : Fin 25, flagged.named (BitVec.ofNat 8 m.val) = some 21 → m.val = 18 := by decide +kernel

/-- At reset no cell has a report flag, whatever number names it. -/
theorem witness_AttentionScanFindsTheNextCell :
    (Ready State.reset ∧ State.reset.notices.scan ≤ 24 ∧ ∀ c : CellRef, (State.reset.cell c).flags = 0)
    ∧ (Ready flagged ∧ flagged.notices.scan ≤ 24 ∧ flagged.named (BitVec.ofNat 8 18) = some 21
      ∧ (flagged.cell 21).flags ≠ 0)
    ∧ ∀ (m : Nat) (d : CellRef), 1 ≤ m → m ≤ 24 → flagged.named (BitVec.ofNat 8 m) = some d →
        (flagged.cell d).flags ≠ 0 →
        (18 + 23 - flagged.notices.scan) % 24 ≤ (m + 23 - flagged.notices.scan) % 24 := by
  refine ⟨by decide +kernel, by decide +kernel, fun m d _ h2 h3 h4 => ?_⟩
  obtain rfl := flagged_only d h4
  have h := flagged_number ⟨m, by omega⟩ h3
  simp only at h
  rw [h]

theorem witness_HoistStatusReplacesTheRecord :
    Ready State.reset ∧ zoneOfCode 0 = none ∧ zoneOfCode 5 = none ∧ zoneOfCode 4 = some .midShaft := by decide

theorem witness_RestartAnswersAndPends : Ready (tunnelled .ready (some (exchangeAt 0))) := by decide +kernel

theorem witness_HaltIsHeldOrTakesEffect :
    (Ready (service .plan) ∧ (service .plan).store.mode = .service ∧ (service .plan).seq.state ≠ .ready
      ∧ (service .plan).seq.state ≠ .tripped ∧ (service .plan).seq.state ≠ .locked)
    ∧ Ready (service .ready) ∧ (service .ready).seq.state = .ready ∧ (service .locked).seq.state = .locked := by
  decide +kernel

/-- A held HALT at each of the closes that it takes effect at. -/
def halting (st : SeqState) (style : Style) : State :=
  sending (late { inStage st (campaignOf .fault style []) with
    seq.heldHalt := true
    lock.resumeTimer := some 0
    lock.brakeConfirm := some 0
    lock.rampCount := 1599
    lock.driveRun := { pin := false, level := true, change := some 0 } })

theorem witness_HaltIsHeldOrTakesEffect_held :
    (Quiet (halting .awaitResume .held) ∧ (halting .awaitResume .held).seq.heldHalt = true
      ∧ (halting .awaitResume .held).seq.campaign = some (campaignOf .fault .held [])
      ∧ (halting .awaitResume .held).seq.state = .awaitResume ∧ (halting .awaitResume .held).lock.resumeTimer = some 0
      ∧ cfgResumeTimeout defaultImage * 1000 ≤ ((halting .awaitResume .held).gen.timebase - 0).toNat)
    ∧ ((halting .block .held).lock.brakeConfirm = some 0
      ∧ (halting .block .held).seq.state ∈ [SeqState.block, .isolate, .plan, .rephase, .awaitResume, .ramp]
      ∧ cfgBrakeConfirm defaultImage * 1000 ≤ ((halting .block .held).gen.timebase - 0).toNat)
    ∧ ((halting .ramp .held).lock.driveRun.change = some 0
      ∧ 1000 ≤ ((halting .ramp .held).gen.timebase - 0).toNat ∧ (halting .ramp .held).lock.driveRun.level = true)
    ∧ ((halting .ramp .running).seq.state = .ramp ∧ 0 < cfgRampTime (halting .ramp .running).store.image
      ∧ 1024 ≤ ((halting .ramp .running).lock.rampCount + 1) * 1024
          * cfgCyclePeriod (halting .ramp .running).store.image
          / (cfgRampTime (halting .ramp .running).store.image * 1000)) := by decide +kernel

theorem witness_TripIsClearedInStandby :
    Ready standby ∧ standby.store.mode = .standby ∧ standby.lock.trip = false
      ∧ ({ standby with lock.trip := true } : State).lock.trip = true := by decide +kernel

theorem witness_RecoverCampaignOpens :
    (Ready (service .tripped) ∧ (service .tripped).store.mode = .service
      ∧ (service .ready).seq.state ≠ .tripped ∧ (service .ready).seq.state ≠ .locked
      ∧ (service .tripped).lock.brakeSet.level = false)
    ∧ (Ready (atRest (service .locked)) ∧ (atRest (service .locked)).store.mode = .service
      ∧ (atRest (service .locked)).seq.state = .locked ∧ (atRest (service .locked)).lock.driveRun.level = false
      ∧ (atRest (service .locked)).lock.brakeSet.level = true
      ∧ (atRest (service .locked)).store.storedCrc = some (crc16 (atRest (service .locked)).store.image)) := by
  decide +kernel

theorem witness_RebalanceOpensAReplan :
    (Ready (service .plan) ∧ (service .plan).store.mode = .service ∧ (service .plan).seq.state ≠ .ready)
    ∧ ((service .ready).seq.state = .ready ∧ (service .ready).lock.brakeSet.level = false)
    ∧ (Ready (atRest (service .ready)) ∧ (atRest (service .ready)).lock.driveRun.level = false
      ∧ (atRest (service .ready)).lock.brakeSet.level = true
      ∧ (atRest (service .ready)).store.storedCrc = some (crc16 (atRest (service .ready)).store.image)) := by
  decide +kernel

/-- A settings image altered since its CRC was stored. -/
def corrupted (s : State) : State := { s with store.image := imageWith 93 2 500 }

/-- A storage fault found at the BLOCK entry of a RECOVER and of a REPLAN campaign. -/
theorem witness_RecoverCampaignOpens_corrupted :
    (∀ st ∈ [SeqState.tripped, .locked, .ready],
      Ready (corrupted (atRest (service st))) ∧ (corrupted (atRest (service st))).store.mode = .service
        ∧ (corrupted (atRest (service st))).seq.state = st
        ∧ (corrupted (atRest (service st))).lock.driveRun.level = false
        ∧ (corrupted (atRest (service st))).lock.brakeSet.level = true
        ∧ (corrupted (atRest (service st))).seq.heldHalt = false)
    ∧ ∀ s : State, s = corrupted (atRest (service .locked)) → s.store.storedCrc ≠ some (crc16 s.store.image) :=
  ⟨by decide +kernel, by rintro s rfl; decide +kernel⟩

/-- R86: the campaign that trips so closes with its style not decided. -/
theorem test_corrupted_recover :
    (nextOf (exec (.ackTrip 1) (corrupted (atRest (service .tripped))))).map
      (fun t => (t.seq.state, t.seq.tripCause, t.seq.history.map fun k => (k.style, k.outcome)))
      = some (.tripped, some .settingsCorrupt, [(none, some (.tripped .settingsCorrupt))]) := by decide +kernel

/-- ISOLATE with cells 1 and 2 FAULTED, cell 1 on a timer. -/
def isolating (timer : IsolationTimer) (image : List Byte) : State :=
  sending (late { withCell 0 { cellIn .faulted with isolation := some timer, ability := some anAbility }
    (withCell 1 (cellIn .faulted) (inStage .isolate (campaignOf .fault .stopped [0, 1]))) with store.image := image })

/-- A stage of a HELD campaign with its timers run out. -/
def timing (st : SeqState) : State :=
  sending (late { inStage st (campaignOf .fault .held []) with lock.brakeConfirm := some 0, lock.resumeTimer := some 0 })

theorem witness_StageTimersTrip :
    (Quiet (isolating (.bypass 0) defaultImage) ∧ (isolating (.bypass 0) defaultImage).seq.heldHalt = false
      ∧ (isolating (.bypass 0) defaultImage).seq.campaign = some (campaignOf .fault .stopped [0, 1])
      ∧ (isolating (.bypass 0) defaultImage).seq.state = .isolate
      ∧ ((isolating (.bypass 0) defaultImage).cell 0).isolation = some (.bypass 0)
      ∧ ((isolating (.bypass 0) defaultImage).cell 0).ability = some anAbility
      ∧ cfgBypassTimeout defaultImage anAbility.bypassKind * 1000
        ≤ ((isolating (.bypass 0) defaultImage).gen.timebase - 0).toNat)
    ∧ (((isolating (.blind 0) (imageWith 103 1 0)).cell 0).isolation = some (.blind 0)
      ∧ cfgBlindAssume (isolating (.blind 0) (imageWith 103 1 0)).store.image = false
      ∧ cfgBlindWait (imageWith 103 1 0) * 1000 ≤ ((isolating (.blind 0) (imageWith 103 1 0)).gen.timebase - 0).toNat)
    ∧ (Quiet (timing .block) ∧ (timing .block).seq.heldHalt = false ∧ (timing .block).lock.brakeConfirm = some 0
      ∧ cfgBrakeConfirm defaultImage * 1000 ≤ ((timing .block).gen.timebase - 0).toNat)
    ∧ (Quiet (timing .awaitResume) ∧ (timing .awaitResume).lock.resumeTimer = some 0
      ∧ cfgResumeTimeout defaultImage * 1000 ≤ ((timing .awaitResume).gen.timebase - 0).toNat) := by decide +kernel

/-- A BYPASS_FAIL of a working cell with a campaign open, and of an AWAITING one with none. -/
theorem witness_StageTimersTrip_bypassFail :
    (Quiet (withCell 0 (cellIn .active) (timing .plan)) ∧ (withCell 0 (cellIn .active) (timing .plan)).seq.heldHalt = false
      ∧ Answers 0 (slotWith (responseOf 7)) (responseOf 7) (withCell 0 (cellIn .active) (timing .plan))
      ∧ (responseOf 7).classCode = 7 ∧ (responseOf 7).message = .none
      ∧ ((withCell 0 (cellIn .active) (timing .plan)).cell 0).link = .enrolled
      ∧ (timing .plan).seq.state ≠ .off ∧ (timing .plan).seq.state ≠ .tripped ∧ (timing .plan).seq.state ≠ .locked
      ∧ ((withCell 0 (cellIn .active) (timing .plan)).cell 0).service.working = true
      ∧ insideWindow defaultImage (responseOf 7).dc = true)
    ∧ (Quiet (sending (linkedAs .trial 3)) ∧ (sending (linkedAs .trial 3)).seq.heldHalt = false
      ∧ Answers 0 (slotWith (responseOf 7)) (responseOf 7) (sending (linkedAs .trial 3))
      ∧ ((linkedAs .trial 3).cell 0).service = .awaiting ∧ ((linkedAs .trial 3).cell 0).link = .trial
      ∧ ((linkedAs .dark 0).cell 0).link ≠ .trial ∧ ((linkedAs .dark 0).cell 0).link ≠ .severed
      ∧ (sending (linkedAs .trial 3)).seq.campaign = none) := by decide +kernel

theorem witness_BlindWaitAcceptsTheBypass :
    Quiet (isolating (.blind 0) (imageWith 103 1 1)) ∧ (isolating (.blind 0) (imageWith 103 1 1)).seq.state = .isolate
      ∧ (isolating (.blind 0) (imageWith 103 1 1)).seq.campaign = some (campaignOf .fault .stopped [0, 1])
      ∧ ((isolating (.blind 0) (imageWith 103 1 1)).cell 0).isolation = some (.blind 0)
      ∧ cfgBlindAssume (isolating (.blind 0) (imageWith 103 1 1)).store.image = true
      ∧ (1 : CellRef) ≠ 0 ∧ 1 ∈ (campaignOf .fault .stopped [0, 1]).set
      ∧ ((isolating (.blind 0) (imageWith 103 1 1)).cell 1).service = .faulted
      ∧ cfgBlindWait (imageWith 103 1 1) * 1000 ≤ ((isolating (.blind 0) (imageWith 103 1 1)).gen.timebase - 0).toNat := by
  decide +kernel

theorem witness_BlindWaitAcceptsTheBypass_closed :
    (isolating (.bypass 0) defaultImage).seq.watch = none
      ∧ ((isolating (.bypass 0) defaultImage).cell 0).isolation = some (.bypass 0)
      ∧ ((isolating (.bypass 0) defaultImage).cell 0).service = .faulted
      ∧ ((isolating (.bypass 0) defaultImage).cell 0).link = .enrolled
      ∧ Answers 0 (slotWith (responseOf 0)) (responseOf 0) (isolating (.bypass 0) defaultImage)
      ∧ (responseOf 0).classCode = 0 ∧ (responseOf 0).message = .none ∧ (responseOf 0).bypass = 1
      ∧ ((isolating (.bypass 0) defaultImage).cell 1).service = .faulted := by decide +kernel

/-- The last FAULTED cell of the set, on its bypass timer and on its blind wait. -/
def lastIsolating (timer : IsolationTimer) : State := withCell 1 (cellIn .bypassed) (isolating timer (imageWith 103 1 1))

theorem witness_BlindWaitAcceptsTheBypass_last :
    (Quiet (lastIsolating (.blind 0)) ∧ (lastIsolating (.blind 0)).seq.state = .isolate
      ∧ (lastIsolating (.blind 0)).seq.campaign = some (campaignOf .fault .stopped [0, 1])
      ∧ (lastIsolating (.blind 0)).seq.heldHalt = false
      ∧ (∀ d ∈ (campaignOf .fault .stopped [0, 1]).set, d ≠ 0 → ((lastIsolating (.blind 0)).cell d).service ≠ .faulted)
      ∧ ((lastIsolating (.blind 0)).cell 0).isolation = some (.blind 0)
      ∧ cfgBlindAssume (lastIsolating (.blind 0)).store.image = true)
    ∧ (((lastIsolating (.bypass 0)).cell 0).isolation = some (.bypass 0)
      ∧ Answers 0 (slotWith (responseOf 0)) (responseOf 0) (lastIsolating (.bypass 0))) := by decide +kernel

/-- BLOCK of a START campaign whose watch has ended, over a roster. -/
def starting (starts : Nat) (set : List CellRef) (cells : Vector Cell 24) : State :=
  sending (late { inStage .block (campaignOf .start .stopped set) with
    seq.watch := some { cells := [], starts := starts }
    cells := cells })

/-- Every installed cell is enrolled and RESERVE with a good report. -/
def allReserve : Vector Cell 24 :=
  Vector.ofFn fun c =>
    if positionOf c ≤ 6 then
      { cellIn .reserve with
        report := some { gate := 0, bypass := 1, classCode := 0, detail := 0, dc := 2000, tag := 0, stamp := 0 } }
    else Cell.empty .vacant

theorem witness_EnrolWindowLetsBlockEnd :
    ((starting 0 [] allReserve).seq.state = .block
      ∧ (starting 0 [] allReserve).seq.campaign = some (campaignOf .start .stopped [])
      ∧ (campaignOf .start .stopped []).kind = .start ∧ (campaignOf .start .stopped []).iteration = 1
      ∧ (starting 0 [] allReserve).seq.enrolRun = false
      ∧ (starting 0 [] allReserve).seq.watch = some { cells := [], starts := 0 }
      ∧ cfgEnrolWindow (starting 0 [] allReserve).store.image * 1000
        ≤ ((starting 0 [] allReserve).gen.timebase - (campaignOf .start .stopped []).opened).toNat)
    ∧ (Quiet (starting 1 [0] (allReserve.set 0 (cellIn .faulted)))
      ∧ (starting 1 [0] (allReserve.set 0 (cellIn .faulted))).seq.watch = some { cells := [], starts := 1 }
      ∧ ((starting 1 [0] (allReserve.set 0 (cellIn .faulted))).cell 0).service = .faulted)
    ∧ (Quiet (starting 1 [] allReserve)
      ∧ (computePlan (starting 1 [] allReserve) true ((starting 1 [] allReserve).seq.lastTag + 1)).isSome = true) := by
  decide +kernel

/-- SERVICE with every record's timer running. -/
def recordTimers : State :=
  { noticed with
    seq.attempts := [0]
    notices.batchTimer := some 0
    lock.holdTimer := some 0
    lock.hoist := some { speed := 0, zone := .station, stamp := 0, fresh := true } }

/-- Each timer before its time and after it, HOLD_REQ with and without a demand, and a flag posted at a cell with and without
flags, below the batch count and at it. -/
theorem witness_RecordTimersExpire :
    (recordTimers.seq.attempts = 0 :: []
      ∧ cfgAttemptWindow defaultImage * 1000000 ≤ ((late recordTimers).gen.timebase - 0).toNat
      ∧ (recordTimers.gen.timebase - 0).toNat < cfgAttemptWindow defaultImage * 1000000)
    ∧ (recordTimers.lock.hoist = some { speed := 0, zone := .station, stamp := 0, fresh := true }
      ∧ cfgFreshness defaultImage * 1000 ≤ ((late recordTimers).gen.timebase - 0).toNat
      ∧ (recordTimers.gen.timebase - 0).toNat < cfgFreshness defaultImage * 1000)
    ∧ (recordTimers.notices.batchTimer = some 0
      ∧ cfgBatchTimer defaultImage * 1000 ≤ ((late recordTimers).gen.timebase - 0).toNat
      ∧ (recordTimers.gen.timebase - 0).toNat < cfgBatchTimer defaultImage * 1000)
    ∧ (recordTimers.lock.holdTimer = some 0 ∧ recordTimers.lock.holdReq = true
      ∧ (recordTimers.gen.timebase - 0).toNat < cfgHoldMinimum defaultImage * 1000
      ∧ cfgHoldMinimum defaultImage * 1000 ≤ ((late recordTimers).gen.timebase - 0).toNat
      ∧ holdDemand (late recordTimers) = false ∧ holdDemand (late State.reset) = true
      ∧ (late State.reset).lock.holdTimer = some 0 ∧ (late State.reset).lock.holdReq = true)
    ∧ ((flagged.cell 21).flags ≠ 0 ∧ ((held 3).cell 9).flags = 0
      ∧ cfgBatchCount (held 3).store.image ≤ (held 3).notices.cells.countP (!·.released) + 1
      ∧ (held 0).notices.cells.countP (!·.released) + 1 < cfgBatchCount (held 0).store.image) := by decide +kernel

/-- A pending change of DRIVE_RUN from a level, and one of BRAKE_SET to asserted. -/
def changing (level : Bool) (s : State) : State :=
  sending (late { s with
    lock.driveRun := { pin := !level, level := level, change := some 0 }
    lock.brakeSet := { pin := true, level := false, change := some 0 } })

theorem witness_InputChangesAreQualified :
    (changing false standby).seq.campaign = none ∧ (changing false standby).lock.driveRun.change = some 0
      ∧ (changing false standby).lock.brakeSet.change = some 0
      ∧ 1000 ≤ ((changing false standby).gen.timebase - 0).toNat
      ∧ (({ changing false standby with gen.timebase := 999 } : State).gen.timebase - 0).toNat < 1000
      ∧ (changing false standby).lock.brakeConfirm = none := by decide +kernel

/-- A RUNNING campaign with its ride-through budget running, and a STOPPED one, each with pending changes. -/
def converting (style : Style) : State :=
  { changing false (inStage .plan (campaignOf .fault style [])) with lock.rideThrough := some 0 }

theorem witness_ConversionToHeld :
    (Quiet (converting .running) ∧ (converting .running).seq.campaign = some (campaignOf .fault .running [])
      ∧ (converting .running).lock.rideThrough = some 0
      ∧ cfgRideThrough (converting .running).store.image * 1000 ≤ ((converting .running).gen.timebase - 0).toNat
      ∧ 1000 ≤ ((converting .running).gen.timebase - 0).toNat ∧ (converting .running).seq.state ≠ .ramp
      ∧ (converting .running).lock.brakeSet.level = false
      ∧ (converting .running).lock.brakeSet.change = some 0)
    ∧ (Quiet (converting .stopped) ∧ (converting .stopped).seq.campaign = some (campaignOf .fault .stopped [])
      ∧ (converting .stopped).lock.driveRun.change = some 0
      ∧ (converting .stopped).lock.driveRun.level = false) := by decide +kernel

/-- BRAKE_SET asserted in a campaign already HELD whose brake confirm timer runs, and BRAKE_SET deasserted. -/
theorem witness_ConversionToHeld_alreadyHeld :
    ((converting .held).lock.brakeSet.change = some 0 ∧ 1000 ≤ ((converting .held).gen.timebase - 0).toNat
      ∧ (converting .held).seq.campaign = some (campaignOf .fault .held []) ∧ (campaignOf .fault .held []).style = some .held
      ∧ (converting .held).lock.brakeSet.level = false)
    ∧ ({ converting .held with lock.brakeSet := { pin := false, level := true, change := some 0 } }
      : State).lock.brakeSet.level = true := by decide +kernel

/-- RAMP of a RUNNING campaign whose budget is spent. -/
theorem witness_ConversionToHeld_ramp :
    (halting .ramp .running).seq.campaign.map Campaign.style = some (some .running)
      ∧ (halting .ramp .running).seq.state = .ramp
      ∧ cfgRideThrough (halting .ramp .running).store.image * 1000
          ≤ ((late { halting .ramp .running with lock.rideThrough := some 0 }).gen.timebase - 0).toNat
      ∧ (late { halting .ramp .running with lock.rideThrough := some 0 }).lock.rideThrough = some 0 := by decide +kernel

/-- R125: the style stays RUNNING and the ramp goes on. -/
theorem test_budget_spent_in_ramp :
    (nextOf (exec .rideThroughExpiry (late { halting .ramp .running with lock.rideThrough := some 0 }))).map
      (fun t => (t.lock.budgetSpent, t.seq.state, t.seq.campaign.map Campaign.style))
      = some (true, .ramp, some (some .running)) := by decide +kernel

/-- R127: the assertion confirms the brake. -/
theorem test_brake_confirmed :
    (nextOf (exec .brakeSetQualified { converting .held with lock.brakeConfirm := some 9 })).map
      (fun t => (t.lock.brakeConfirm, t.lock.brakeSet.level)) = some (none, true) := by decide +kernel

theorem witness_WithdrawnRunDemandClosesTheCampaign_stages :
    Quiet (changing true (inStage .plan (campaignOf .fault .running [])))
      ∧ (changing true (inStage .plan (campaignOf .fault .running []))).seq.campaign = some (campaignOf .fault .running [])
      ∧ (changing true (inStage .plan (campaignOf .fault .running []))).seq.state
        ∈ [SeqState.block, .isolate, .plan, .rephase]
      ∧ (changing true (inStage .plan (campaignOf .fault .running []))).lock.driveRun.change = some 0
      ∧ 1000 ≤ ((changing true (inStage .plan (campaignOf .fault .running []))).gen.timebase - 0).toNat
      ∧ (changing true (inStage .plan (campaignOf .fault .running []))).lock.driveRun.level = true := by decide +kernel

theorem witness_WithdrawnRunDemandClosesTheCampaign :
    Quiet (changing true (inStage .ramp (campaignOf .fault .held [])))
      ∧ (changing true (inStage .ramp (campaignOf .fault .held []))).seq.heldHalt = false
      ∧ (changing true (inStage .ramp (campaignOf .fault .held []))).seq.campaign = some (campaignOf .fault .held [])
      ∧ (changing true (inStage .ramp (campaignOf .fault .held []))).seq.state = .ramp
      ∧ (changing true (inStage .ramp (campaignOf .fault .held []))).lock.driveRun.change = some 0
      ∧ 1000 ≤ ((changing true (inStage .ramp (campaignOf .fault .held []))).gen.timebase - 0).toNat
      ∧ (changing true (inStage .ramp (campaignOf .fault .held []))).lock.driveRun.level = true := by decide +kernel

/-- AWAIT_RESUME with a hoist status record and a plan in force whose speed ceiling is 5000 mm/s. -/
def resuming (style : Style) (speed : Int) : State :=
  { inStage .awaitResume (campaignOf .fault style []) with
    lock.hoist := some { speed := speed, zone := .midShaft, stamp := 0, fresh := true }
    plans.inForce := some { tag := 1, m := 4, active := ⟨[], [], []⟩, deselected := [], voltage := 5000, speed := 5000 } }

theorem witness_ResumeEntersTheRamp :
    (Ready (service .ready) ∧ (service .ready).seq.state ≠ .awaitResume)
    ∧ (Ready (resuming .held 0) ∧ (resuming .held 0).store.mode = .service
      ∧ (resuming .held 0).seq.campaign = some (campaignOf .fault .held [])
      ∧ (resuming .held 0).lock.brakeSet.level = false ∧ (atRest (resuming .held 0)).lock.brakeSet.level = true)
    ∧ (inStage .awaitResume (campaignOf .fault .running [])).lock.hoist = none
    ∧ ((resuming .running (-5001)).lock.hoist.map (fun h => (h.fresh, h.speed.natAbs)) = some (true, 5001)
      ∧ (resuming .running (-5001)).plans.inForce.map Plan.speed = some 5000)
    ∧ (resuming .running 5000).lock.hoist.map (fun h => (h.fresh, h.speed.natAbs)) = some (true, 5000) := by
  decide +kernel

/-- R132, R75: the OK reply and the CAMPAIGN notice of RAMP. -/
theorem test_resume_replies_and_posts :
    ((nextOf (exec (.resume 7) (atRest (inStage .awaitResume (campaignOf .fault .held []))))).map fun t =>
      (t.link.transmitting.map Transmission.record,
        t.notices.urgent.map fun n => match n with | .campaign st _ _ => st.code.toNat | _ => 0))
      = some (some ⟨0x8B, 7, [ReplyCode.ok.code]⟩, [8]) := by decide +kernel

/-- A cycle start from here gates an ACTIVE cell. -/
theorem witness_CycleStartBuildsTheFrames :
    Quiet (sending (withCell 0 (cellIn .active) (service .ready))) := by decide +kernel

/-- READY with DRIVE_RUN asserted: cell 1 ACTIVE, cell 2 on its CONFIRM wait, cell 3 SEVERED, the others DARK. -/
def assorted : State :=
  sending (withCell 0 (cellIn .active) (withCell 1 { cellIn .awaiting with link := .confirm, heldAbility := some anAbility }
    (withCell 2 { cellIn .active with link := .severed, missCount := 240 }
      { service .ready with lock.driveRun := { pin := true, level := true, change := none } })))

/-- R17, R28, R29, R76: the fields of those cells, of a DARK one, and of the positions A6 and A7 (not installed). -/
theorem test_cycleStart_fields :
    (nextOf (exec (.cycleStart none) assorted)).map (fun t => [0, 1, 2, 3, 6].map (fieldSent t))
      = some [
        some { gateOn := true, close := false, respond := true, slotStart := 20, message := .none },
        some { gateOn := false, close := true, respond := true, slotStart := 44, message := .accept 5 },
        some { gateOn := false, close := true, respond := true, slotStart := 68, message := .withdrawn },
        some { gateOn := false, close := true, respond := true, slotStart := 92, message := .invite },
        some { gateOn := false, close := true, respond := false, slotStart := 0, message := .none }] := by
  decide +kernel

/-- Table 12-8: a field with a PLAN message in the ACTIVE role. -/
theorem test_fieldByteList :
    fieldByteList { gateOn := false, close := true, respond := true, slotStart := 258, message := .plan 7 513 (some 66051) }
      = [0x62, 1, 2, 7, 2, 1, 1, 1, 2, 3] := by decide +kernel

/-- RAMP at a step count. -/
def ramping (count : Nat) : State :=
  sending { inStage .ramp (campaignOf .fault .running []) with lock.rampCount := count }

/-- With 250 µs and 400 ms, step 1 has scale 0, step 1599 scale 1023 and step 1600 scale 1024. -/
theorem witness_RampStepSetsTheScale :
    (Quiet (ramping 0) ∧ (ramping 0).seq.state = .ramp ∧ (ramping 0).seq.campaign = some (campaignOf .fault .running [])
      ∧ (ramping 0).seq.heldHalt = false ∧ 0 < cfgRampTime (ramping 0).store.image)
    ∧ (min 1024 (((ramping 1598).lock.rampCount + 1) * 1024 * cfgCyclePeriod (ramping 1598).store.image
        / (cfgRampTime (ramping 1598).store.image * 1000)) = 1023
      ∧ min 1024 (((ramping 1599).lock.rampCount + 1) * 1024 * cfgCyclePeriod (ramping 1599).store.image
        / (cfgRampTime (ramping 1599).store.image * 1000)) = 1024) := by decide +kernel

/-- BLOCK of a FAULT campaign whose watch has cell 1 left at the block confirm setting. -/
def watching : State :=
  sending { withCell 0 (cellIn .active) (inStage .block (campaignOf .fault .stopped [])) with
    seq.watch := some { cells := [0], starts := cfgBlockConfirm defaultImage } }

theorem witness_GateOffWatchFaultsTheSilent :
    Quiet watching ∧ watching.seq.state = .block ∧ watching.seq.campaign = some (campaignOf .fault .stopped [])
      ∧ (campaignOf .fault .stopped []).kind ≠ .start
      ∧ watching.seq.watch = some { cells := [0], starts := cfgBlockConfirm defaultImage }
      ∧ ([0] : List CellRef) ≠ [] ∧ cfgBlockConfirm watching.store.image < cfgBlockConfirm defaultImage + 1
      ∧ ∀ c ∈ ([0] : List CellRef), (watching.cell c).service = .active := by decide +kernel

/-- A watch over cell 1, and over cells 1 and 2, before and after the first cycle start; a set with and without a FAULTED
cell. -/
def watchedOver (cells set : List CellRef) (starts : Nat) : State :=
  { withCell 0 (cellIn .active) (withCell 1 (cellIn .active) (withCell 2 (cellIn .faulted) watching)) with
    seq.campaign := some (campaignOf .fault .stopped set)
    seq.watch := some { cells := cells, starts := starts } }

theorem witness_GateOffWatchFaultsTheSilent_response :
    (Quiet (watchedOver [0] [] 1) ∧ (watchedOver [0] [] 1).seq.state = .block
      ∧ (watchedOver [0] [] 1).seq.campaign = some (campaignOf .fault .stopped [])
      ∧ (watchedOver [0] [] 1).seq.watch = some { cells := [0], starts := 1 }
      ∧ Answers 0 (slotWith (responseOf 0)) (responseOf 0) (watchedOver [0] [] 1) ∧ (responseOf 0).classCode = 0
      ∧ (responseOf 0).message = .none ∧ ((watchedOver [0] [] 1).cell 0).link = .enrolled
      ∧ ((watchedOver [0] [] 1).cell 0).service = .active
      ∧ insideWindow (watchedOver [0] [] 1).store.image (responseOf 0).dc = true)
    ∧ (∀ d ∈ ([0, 1] : List CellRef), ((watchedOver [0, 1] [] 1).cell d).service = .active
        ∧ ((watchedOver [0, 1] [] 1).cell d).link ≠ .severed)
    ∧ ((responseOf 0).gate = 0 ∧ ({ responseOf 0 with gate := 1 } : Response).gate ≠ 0
      ∧ judgeSlot (slotWith { responseOf 0 with gate := 1 }) = .valid { responseOf 0 with gate := 1 })
    ∧ (1 ∈ ([0, 1] : List CellRef) ∧ (1 : CellRef) ≠ 0) ∧ (∀ d ∈ ([0] : List CellRef), d = 0)
    ∧ ((campaignOf .fault .stopped [2]).kind ≠ .start ∧ (watchedOver [0] [2] 1).seq.heldHalt = false
      ∧ ((watchedOver [0] [2] 1).cell 2).service = .faulted) := by decide +kernel

/-- R98, R100: with no plan to be found, a held HALT takes effect as the watch ends. -/
theorem test_held_halt_ends_block :
    (nextOf (exec (.slotEnd 0 (slotWith (responseOf 0)))
        { watchedOver [0] [] 1 with seq.heldHalt := true })).map
      (fun t => (t.store.mode, t.seq.state, (t.cell 0).service)) = some (.standby, .off, .awaiting) := by decide +kernel

theorem witness_EnrolmentAndTunnelTimeOut :
    (Quiet (sending (linkedAs .confirm 20)) ∧ (sending (linkedAs .confirm 20)).store.mode = .service
      ∧ (sending (linkedAs .confirm 20)).seq.state = .ready
      ∧ ((sending (linkedAs .confirm 20)).cell 0).link = .confirm
      ∧ 20 ≤ ((sending (linkedAs .confirm 20)).cell 0).goodRun)
    ∧ (Quiet (sending (tunnelled .ready (some (exchangeAt 64))))
      ∧ (sending (tunnelled .ready (some (exchangeAt 64)))).rings.mail.get .a = some (exchangeAt 64)
      ∧ 64 ≤ (exchangeAt 64).count) := by decide +kernel

/-- READY with cell 1 in enrolment, its ability held. -/
def enrolling (l : LinkState) (run : Nat) : State :=
  sending (withCell 0 { Cell.empty .awaiting with link := l, goodRun := run, heldAbility := some anAbility } (service .ready))

/-- A clean response with a message. -/
def answering (m : UpMessage) : Response := { responseOf 0 with message := m }

theorem witness_EnrolmentAndTunnelTimeOut_slots :
    (Quiet (enrolling .dark 0) ∧ (enrolling .dark 0).seq.state = .ready ∧ (enrolling .dark 0).rings.healthOn = true
      ∧ (enrolling .dark 0).expected 0 = true
      ∧ judgeSlot (slotWith (answering (.ability anAbility))) = .valid (answering (.ability anAbility))
      ∧ (answering (.ability anAbility)).classCode = 0 ∧ ((enrolling .dark 0).cell 0).link = .dark)
    ∧ (cfgNominalDc defaultImage * 8
          < (((1081 : BitVec 16).toNat : Int) * 100 - (cfgNominalDc defaultImage : Int) * 100).natAbs
      ∧ (((1080 : BitVec 16).toNat : Int) * 100 - (cfgNominalDc defaultImage : Int) * 100).natAbs
          ≤ cfgNominalDc defaultImage * 8
      ∧ cfgHalfRate defaultImage 0 = 0 ∧ cfgHalfRate (imageWith 53 1 2) 0 ≠ 0 ∧ anAbility.halfRateCapable = false)
    ∧ (((enrolling .confirm 0).cell 0).link = .confirm ∧ ((enrolling .confirm 0).cell 0).heldAbility = some anAbility
      ∧ judgeSlot (slotWith (answering (.accepted 5))) = .valid (answering (.accepted 5)) ∧ (5 : BitVec 32) = anAbility.serial
      ∧ judgeSlot (slotWith (answering (.accepted 6))) = .valid (answering (.accepted 6))
      ∧ (6 : BitVec 32) ≠ anAbility.serial)
    ∧ (((enrolling .trial 22).cell 0).link = .trial ∧ ((enrolling .trial 22).cell 0).goodRun + 1 < 24
      ∧ 24 ≤ ((enrolling .trial 23).cell 0).goodRun + 1)
    ∧ (judgeSlot missedSlot = .missed ∧ judgeSlot (slotWith (responseOf 1)) = .valid (responseOf 1)
      ∧ (responseOf 1).classCode ≠ 0 ∧ (responseOf 1).classCode ≠ 7 ∧ ((enrolling .trial 22).cell 0).service = .awaiting)
    ∧ (((enrolling .unsteady 0).cell 0).link ∈ [LinkState.dark, .confirm, .rejected, .unsteady]
      ∧ (enrolling .unsteady 0).seq.watch = none) := by decide +kernel

/-- The BLOCK of a START campaign, with cell 1 in enrolment. -/
def enrollingInBlock (l : LinkState) (run : Nat) : State :=
  { enrolling l run with
    seq.state := .block
    seq.campaign := some (campaignOf .start .stopped [])
    seq.watch := some { cells := [], starts := 1 } }

theorem witness_EnrolmentAndTunnelTimeOut_block :
    Quiet (enrollingInBlock .trial 23) ∧ (enrollingInBlock .trial 23).seq.state = .block
      ∧ (enrollingInBlock .trial 23).seq.enrolRun = false
      ∧ (enrollingInBlock .trial 23).seq.campaign = some (campaignOf .start .stopped [])
      ∧ (campaignOf .start .stopped []).kind = .start ∧ (campaignOf .start .stopped []).iteration = 1
      ∧ (enrollingInBlock .trial 23).rings.healthOn = true ∧ (enrollingInBlock .trial 23).expected 0 = true := by
  decide +kernel

/-- R147: a cell enrols while the window holds BLOCK. -/
theorem test_trial_completes_in_block :
    (nextOf (exec (.slotEnd 0 (slotWith (responseOf 0))) (enrollingInBlock .trial 23))).map
      (fun t => ((t.cell 0).link, (t.cell 0).service, t.seq.state)) = some (.enrolled, .reserve, .block) := by decide +kernel

/-- R51: the 24th clean response in TRIAL enrols the cell, and an AWAITING cell is RESERVE. -/
theorem test_trial_completes :
    (nextOf (exec (.slotEnd 0 (slotWith (responseOf 0))) (enrolling .trial 23))).map
      (fun t => ((t.cell 0).link, (t.cell 0).service)) = some (.enrolled, .reserve) := by decide +kernel

/-- A pending plan of one cell a phase. -/
def smallPlan : Plan where
  tag := 1
  m := 1
  active := ⟨[(0, 0)], [(8, 100)], [(16, 200)]⟩
  deselected := []
  voltage := 1000
  speed := 1000

/-- REPHASE one cycle before its epoch, with the plan's cells reporting a tag and bypass OPEN. -/
def rephasing (tag : Byte) : State :=
  sending { inStage .rephase { campaignOf .fault .stopped [] with pendingTag := some 1, issue := some 2 } with
    plans.pending := some smallPlan
    seq.rephase := some { lead := 4, epoch := 1 }
    cells := allReserve.map fun x => { x with
      report := x.report.map fun r => { r with bypass := 0, tag := tag } } }

theorem witness_EpochCheckDecides :
    (Quiet (rephasing 1) ∧ (rephasing 1).seq.heldHalt = false ∧ (rephasing 1).seq.state = .rephase
      ∧ (rephasing 1).seq.campaign
        = some { campaignOf .fault .stopped [] with pendingTag := some 1, issue := some 2 }
      ∧ (rephasing 1).plans.pending = some smallPlan
      ∧ (rephasing 1).seq.rephase = some { lead := 4, epoch := 1 } ∧ (1 : CycleNo) = (rephasing 1).gen.cycle + 1)
    ∧ planConfirmed (rephasing 1) smallPlan = true ∧ planConfirmed (rephasing 0) smallPlan = false := by decide +kernel

/-- R94, R166: a confirmation posts PLAN, and then the CAMPAIGN notice of the state entered. -/
theorem test_confirmation_notices :
    ((nextOf (exec .epochCheck (rephasing 1))).map fun t => (t.notices.urgent.take 2).map fun n =>
      match n with
      | .plan tag m _ _ => (0, tag.toNat, m)
      | .campaign st _ _ => (1, st.code.toNat, 0)
      | _ => (2, 0, 0)) = some [(0, 1, 1), (1, 2, 0)] := by decide +kernel

/-- A held HALT at the confirmation of a STOPPED campaign's plan. -/
theorem witness_HaltIsHeldOrTakesEffect_confirmed :
    Quiet { rephasing 1 with seq.heldHalt := true } ∧ (rephasing 1).seq.state = .rephase
      ∧ (rephasing 1).seq.campaign.map Campaign.style = some (some .stopped)
      ∧ planConfirmed { rephasing 1 with seq.heldHalt := true } smallPlan = true := by decide +kernel

/-- R29, R94: before the epoch a cell of the pending plan's active list is sent PLAN. -/
theorem test_cycleStart_plan :
    (nextOf (exec (.cycleStart none) { rephasing 0 with seq.rephase := some { lead := 4, epoch := 5 } })).bind
      (fun t => (fieldSent t 8).map CommandField.message) = some (.plan 1 5 (some 100)) := by decide +kernel

/-- The third issue, with a deselected cell that reports bypass CLOSED or does not. -/
def thirdIssue (closed : Bool) : State :=
  { withCell 3 { cellIn .active with
      report := some { gate := 0, bypass := if closed then 1 else 0, classCode := 0, detail := 0, dc := 2000, tag := 0, stamp := 0 } }
    (rephasing 0) with
    seq.campaign := some { campaignOf .fault .stopped [] with pendingTag := some 1, issue := some 3 }
    plans.pending := some { smallPlan with deselected := [3] } }

theorem witness_EpochCheckDecides_thirdIssue :
    (Quiet (thirdIssue true) ∧ (thirdIssue true).seq.heldHalt = false ∧ (thirdIssue true).seq.state = .rephase
      ∧ (thirdIssue true).seq.campaign = some { campaignOf .fault .stopped [] with pendingTag := some 1, issue := some 3 }
      ∧ (thirdIssue true).plans.pending = some { smallPlan with deselected := [3] }
      ∧ (thirdIssue true).seq.rephase = some { lead := 4, epoch := 1 } ∧ (1 : CycleNo) = (thirdIssue true).gen.cycle + 1
      ∧ planConfirmed (thirdIssue true) { smallPlan with deselected := [3] } = false)
    ∧ (((thirdIssue false).cell 3).report.map Report.bypass = some 0
      ∧ ((thirdIssue true).cell 3).report.map Report.bypass = some 1)
    ∧ ((campaignOf .fault .stopped []).iteration < 4
      ∧ (thirdIssue true).store.storedCrc = some (crc16 (thirdIssue true).store.image)
      ∧ (∀ d : CellRef, ({ smallPlan with deselected := [3] }.offsetOf d).isSome = true →
          ((thirdIssue true).cell d).service.working = true)
      ∧ ∀ d ∈ { smallPlan with deselected := [3] }.deselected, ((thirdIssue true).cell d).service = .active) := by
  decide +kernel

/-- R87: the BLOCK that a third failed issue begins watches the ACTIVE cell it does not fault, and none of the two it faults. -/
theorem test_noAck_leaves_the_watch :
    (nextOf (exec .epochCheck { thirdIssue true with
        cells := ((thirdIssue true).cells.set 4 ((thirdIssue true).cell 3)).set 5 ((thirdIssue true).cell 3)
        plans.pending := some { smallPlan with deselected := [3, 4] } })).bind
      (fun t => t.seq.watch) = some { cells := [5], starts := 0 } := by decide +kernel

/-- The same failure with the settings image altered since FREEZE. -/
theorem witness_EpochCheckDecides_corrupted :
    Quiet (corrupted (thirdIssue true)) ∧ (corrupted (thirdIssue true)).seq.heldHalt = false
      ∧ planConfirmed (corrupted (thirdIssue true)) { smallPlan with deselected := [3] } = false
      ∧ ((corrupted (thirdIssue true)).cell 3).report.map Report.bypass = some 1
      ∧ (corrupted (thirdIssue true)).seq.campaign.map Campaign.iteration = some 1
      ∧ (corrupted (thirdIssue true)).store.storedCrc ≠ some (crc16 (corrupted (thirdIssue true)).store.image)
      ∧ (∀ d : CellRef, ({ smallPlan with deselected := [3] }.offsetOf d).isSome = true →
          ((corrupted (thirdIssue true)).cell d).service.working = true)
      ∧ ((corrupted (thirdIssue true)).cell 3).service = .active := by decide +kernel

/-- PLAN with a plan pending whose cells have abilities, and one that moves no cell. -/
def planned (v : Service) : State :=
  sending { inStage .plan (campaignOf .fault .stopped []) with
    plans.pending := some smallPlan
    cells := allReserve.map fun x => { x with service := v, ability := some anAbility } }

theorem witness_EpochCheckDecides_entry :
    (Quiet (planned .reserve) ∧ (planned .reserve).seq.state = .plan
      ∧ (planned .reserve).seq.campaign = some (campaignOf .fault .stopped [])
      ∧ (planned .reserve).plans.pending = some smallPlan ∧ 0 < cfgCyclePeriod (planned .reserve).store.image)
    ∧ ((smallPlan.offsetOf 0).isSome = true ∧ ((planned .reserve).cell 0).service = .reserve
      ∧ ∀ e : CellRef, ((planned .reserve).cell e).ability = some anAbility)
    ∧ ∀ d : CellRef, d ∉ smallPlan.deselected
        ∧ ¬((smallPlan.offsetOf d).isSome = true ∧ ((planned .active).cell d).service = .reserve) := by decide +kernel

theorem witness_SlotOutcomesMoveTheMissCount :
    (State.reset.expected 0 = false)
    ∧ ((withCell 0 { cellIn .reserve with missCount := 53 } (service .ready)).expected 0 = true
      ∧ (service .ready).rings.healthOn = true ∧ (service .ready).seq.watch = none
      ∧ ((withCell 0 { cellIn .reserve with missCount := 53 } (service .ready)).cell 0).link = .enrolled
      ∧ judgeSlot ⟨false, none⟩ = .missed ∧ judgeSlot ⟨true, none⟩ = .invalid ∧ 53 + 6 < 60)
    ∧ (judgeSlot (slotWith (responseOf 0)) = .valid (responseOf 0) ∧ (responseOf 0).message = .none
      ∧ ((withCell 0 (cellIn .reserve) (service .ready)).cell 0).service.working = true
      ∧ ((withCell 0 (cellIn .reserve) (service .ready)).cell 0).isolation = none
      ∧ insideWindow (service .ready).store.image (responseOf 0).dc = true) := by decide +kernel

/-- READY with cell 1 enrolled, at a miss count and a debounce count. -/
def missing (v : Service) (misses debounce : Nat) : State :=
  sending (withCell 0 { cellIn v with missCount := misses, dcDebounce := debounce } (service .ready))

/-- A clean response below the DC window. -/
def lowDc : Response := { responseOf 0 with dc := 1699 }

/-- R31, Table 2-4: the outcomes of slots. -/
theorem test_judgeSlot :
    [judgeSlot ⟨false, none⟩, judgeSlot ⟨true, none⟩, judgeSlot ⟨true, some ⟨true, true, []⟩⟩,
      judgeSlot ⟨false, some ⟨true, false, responseBytes (responseOf 0)⟩⟩, judgeSlot (slotWith (responseOf 0))]
      = [.missed, .invalid, .overrun, .invalid, .valid (responseOf 0)] := by decide +kernel

/-- The 16 bytes of a response whose message code is `code`, with 0xFFFF volts and a byte `b` in each message position. -/
def rawResponse (code b : Byte) : List Byte :=
  let body : List Byte := [0x12, 3, 4, 0xFF, 0xFF, 5, code] ++ List.replicate 8 b
  body ++ [crc8 body]

/-- Responses with a good CRC-8 of each message code, and one with a bad one. -/
theorem witness_SlotOutcomesMoveTheMissCount_response :
    (∀ code ∈ ([0, 1, 2, 3, 4] : List Byte), (rawResponse code 0x52).length = 16
      ∧ byteField (rawResponse code 0x52) 15 1 = (crc8 ((rawResponse code 0x52).take 15)).toNat
      ∧ byteField (rawResponse code 0x52) 6 1 = code.toNat)
    ∧ byteField (List.replicate 16 0) 15 1 ≠ (crc8 ((List.replicate 16 (0 : Byte)).take 15)).toNat := by decide +kernel

/-- Table 12-9, R179: codes, the DC held at 4095, and a TUNNEL chunk of sequence 1 and length 2, final. -/
theorem test_readResponse_fields :
    (readResponse (rawResponse 3 0x52)).map (fun r => (r.gate, r.bypass, r.dc, r.tag, r.message))
      = some (1, 2, 4095, 5, .tunnel true 1 2 [0x52, 0x52, 0x52, 0x52]) := by decide +kernel

/-- Misses to 59, 60, 119, 120 and 239, by OVERRUN too; a report outside the window below the debounce setting and at it. -/
theorem witness_SlotOutcomesMoveTheMissCount_more :
    (Quiet (missing .active 54 0) ∧ (missing .active 54 0).expected 0 = true
      ∧ (missing .active 54 0).rings.healthOn = true ∧ (missing .active 54 0).seq.watch = none
      ∧ ((missing .active 54 0).cell 0).link = .enrolled ∧ (∀ r, judgeSlot missedSlot ≠ .valid r)
      ∧ (∀ r, judgeSlot overrunSlot ≠ .valid r) ∧ judgeSlot overrunSlot = .overrun
      ∧ [53, 54, 113, 114, 233].map (· + 6) = [59, 60, 119, 120, 239])
    ∧ (Answers 0 (slotWith lowDc) lowDc (missing .active 0 3) ∧ (missing .active 0 3).seq.state = .ready
      ∧ ((missing .active 0 3).cell 0).service.working = true ∧ lowDc.classCode = 0 ∧ lowDc.message = .none
      ∧ insideWindow (missing .active 0 3).store.image lowDc.dc = false
      ∧ ((missing .active 0 2).cell 0).dcDebounce + 1 < cfgDcDebounce (missing .active 0 2).store.image
      ∧ cfgDcDebounce (missing .active 0 3).store.image ≤ ((missing .active 0 3).cell 0).dcDebounce + 1
      ∧ ((missing .active 0 3).cell 0).service = .active
      ∧ (missing .active 0 3).seq.attempts.length < cfgAttemptBudget (missing .active 0 3).store.image
      ∧ (missing .active 0 3).store.storedCrc = some (crc16 (missing .active 0 3).store.image)) :=
  ⟨⟨by decide +kernel, by decide +kernel, by decide, by decide, by decide +kernel, missedSlot_not_valid,
    overrunSlot_not_valid, by decide +kernel, by decide⟩, by decide +kernel⟩

/-- A DC_WINDOW fault whose campaign finds the settings CRC changed. -/
theorem witness_SlotOutcomesMoveTheMissCount_corrupted :
    Quiet (corrupted (missing .active 0 3)) ∧ Answers 0 (slotWith lowDc) lowDc (corrupted (missing .active 0 3))
      ∧ insideWindow (corrupted (missing .active 0 3)).store.image lowDc.dc = false
      ∧ cfgDcDebounce (corrupted (missing .active 0 3)).store.image
          ≤ ((corrupted (missing .active 0 3)).cell 0).dcDebounce + 1
      ∧ (corrupted (missing .active 0 3)).seq.attempts.length
          < cfgAttemptBudget (corrupted (missing .active 0 3)).store.image
      ∧ (corrupted (missing .active 0 3)).seq.heldHalt = false
      ∧ (corrupted (missing .active 0 3)).store.storedCrc ≠ some (crc16 (corrupted (missing .active 0 3)).store.image) := by
  decide +kernel

/-- A SEVERED link at a relink run. -/
theorem witness_SlotOutcomesMoveTheMissCount_relink :
    (Quiet (enrolling .severed 46) ∧ (enrolling .severed 46).expected 0 = true
      ∧ (enrolling .severed 46).rings.healthOn = true ∧ (enrolling .severed 46).seq.watch = none
      ∧ (enrolling .severed 46).seq.state ≠ .isolate ∧ ((enrolling .severed 46).cell 0).link = .severed
      ∧ judgeSlot (slotWith (responseOf 0)) = .valid (responseOf 0) ∧ (responseOf 0).classCode = 0)
    ∧ ((enrolling .severed 46).cell 0).goodRun + 1 < 48 ∧ ((enrolling .severed 47).cell 0).goodRun + 1 = 48
    ∧ cfgRelinkHeld (enrolling .severed 47).store.image = true ∧ cfgRelinkHeld (imageWith 120 1 0) = false := by
  decide +kernel

/-- READY with cell 1 ACTIVE one miss away from severing. -/
def severing : State := sending (withCell 0 { cellIn .active with missCount := 234 } (service .ready))

theorem witness_SeveredActiveCellOpensAFaultCampaign :
    Quiet severing ∧ severing.expected 0 = true ∧ severing.rings.healthOn = true ∧ judgeSlot ⟨false, none⟩ = .missed
      ∧ (severing.cell 0).link = .enrolled ∧ (severing.cell 0).service = .active ∧ 234 ≤ (severing.cell 0).missCount
      ∧ severing.seq.state = .ready ∧ severing.seq.attempts.length < cfgAttemptBudget severing.store.image
      ∧ severing.store.storedCrc = some (crc16 severing.store.image) := by decide +kernel

/-- SERVICE with cell 1 about to be severed in a state, in an iteration of a RUNNING campaign. -/
def severingIn (st : SeqState) (iteration : Nat) : State :=
  { severing with
    seq.state := st
    seq.campaign := some { campaignOf .fault .running [] with iteration := iteration } }

/-- READY about to sever, with DRIVE_RUN asserted and a hoist status record of a zone. -/
def severingInZone (z : Zone) : State :=
  { severing with
    lock.driveRun := { pin := true, level := true, change := none }
    lock.hoist := some { speed := -6000, zone := z, stamp := 0, fresh := true } }

theorem witness_SeveredActiveCellOpensAFaultCampaign_ready :
    severing.lock.driveRun.level = false
    ∧ ((severingInZone .midShaft).lock.driveRun.level = true ∧ (severingInZone .midShaft).seq.state = .ready
      ∧ 0 < cfgRideThrough (severingInZone .midShaft).store.image
      ∧ (severingInZone .midShaft).lock.brakeSet.level = false
      ∧ (severingInZone .midShaft).lock.hoist.map (fun h => (h.fresh, h.zone)) = some (true, .midShaft)
      ∧ (-6000 : Int).natAbs ≤ cfgRunningSpeed (severingInZone .midShaft).store.image)
    ∧ (severingInZone .creep).lock.hoist.map HoistRecord.zone = some .creep
    ∧ (cfgAttemptBudget defaultImage ≤ ([0, 0, 0] : List Stamp).length ∧ severing.seq.heldHalt = false) := by
  decide +kernel

theorem witness_SeveredActiveCellOpensAFaultCampaign_stages :
    ((severingIn .isolate 1).seq.state = .isolate ∧ (severingIn .isolate 1).seq.watch = none)
    ∧ (Quiet (severingIn .plan 3) ∧ (severingIn .plan 3).seq.state ∈ [SeqState.plan, .rephase, .awaitResume, .ramp]
      ∧ (severingIn .plan 3).expected 0 = true ∧ (severingIn .plan 3).rings.healthOn = true
      ∧ ((severingIn .plan 3).cell 0).link = .enrolled ∧ ((severingIn .plan 3).cell 0).service = .active
      ∧ 234 ≤ ((severingIn .plan 3).cell 0).missCount
      ∧ (severingIn .plan 3).seq.campaign.map Campaign.iteration = some 3 ∧ 3 < 4
      ∧ (severingIn .plan 3).store.storedCrc = some (crc16 (severingIn .plan 3).store.image))
    ∧ ((severingIn .ramp 4).seq.campaign.map Campaign.iteration = some 4
      ∧ (severingIn .ramp 4).seq.state ∈ [SeqState.plan, .rephase, .awaitResume, .ramp]
      ∧ (severingIn .ramp 4).seq.heldHalt = false) := by decide +kernel

/-- A severing in TRIPPED and LOCKED, and in BLOCK with another cell watched, with none, and before the first cycle start. -/
theorem witness_SeveredActiveCellOpensAFaultCampaign_stopped :
    (∀ st ∈ [SeqState.tripped, .locked], Quiet { severing with seq.state := st }
      ∧ ({ severing with seq.state := st } : State).expected 0 = true
      ∧ ({ severing with seq.state := st } : State).rings.healthOn = true
      ∧ (({ severing with seq.state := st } : State).cell 0).service = .active
      ∧ ({ severing with seq.state := st } : State).seq.watch = none)
    ∧ (Quiet (severingIn .block 1) ∧ (severingIn .block 1).seq.state = .block
      ∧ (severingIn .block 1).seq.campaign = some (campaignOf .fault .running [])
      ∧ ∀ d ∈ ([0] : List CellRef), ((severingIn .block 1).cell d).service = .active
          ∧ ((severingIn .block 1).cell d).link ≠ .severed)
    ∧ (campaignOf .fault .running []).kind ≠ .start := by decide +kernel

/-- R72, R84: in LOCKED the entry stays queued and the state does not change. -/
theorem test_severed_in_locked :
    (nextOf (exec (.slotEnd 0 missedSlot) { severing with seq.state := .locked })).map
      (fun t => (t.seq.state, t.queue.map QueueEntry.cell, (t.cell 0).service)) = some (.locked, [0], .faulted) := by
  decide +kernel

/-- A severing whose BLOCK entry, the first and a re-entry, finds the settings CRC changed. -/
theorem witness_SeveredActiveCellOpensAFaultCampaign_corrupted :
    (Quiet (corrupted severing) ∧ (corrupted severing).expected 0 = true ∧ (corrupted severing).seq.state = .ready
      ∧ (corrupted severing).seq.heldHalt = false
      ∧ (corrupted severing).seq.attempts.length < cfgAttemptBudget (corrupted severing).store.image
      ∧ (corrupted severing).store.storedCrc ≠ some (crc16 (corrupted severing).store.image))
    ∧ (Quiet (corrupted (severingIn .plan 3)) ∧ (corrupted (severingIn .plan 3)).expected 0 = true
      ∧ (corrupted (severingIn .plan 3)).seq.state ∈ [SeqState.plan, .rephase, .awaitResume, .ramp]
      ∧ (corrupted (severingIn .plan 3)).seq.campaign.map Campaign.iteration = some 3
      ∧ (corrupted (severingIn .plan 3)).seq.heldHalt = false
      ∧ (corrupted (severingIn .plan 3)).store.storedCrc
          ≠ some (crc16 (corrupted (severingIn .plan 3)).store.image)) := by decide +kernel

/-- R86: at a re-entry the record keeps its style and carries the new iteration. -/
theorem test_corrupted_reentry :
    (nextOf (exec (.slotEnd 0 missedSlot) (corrupted (severingIn .plan 3)))).map
      (fun t => (t.seq.state, t.seq.history.map fun k => (k.style, k.iteration, k.outcome)))
      = some (.tripped, [(some .running, 4, some (.tripped .settingsCorrupt))]) := by decide +kernel

/-- A reported class 1 of an ACTIVE cell in READY, in BLOCK with another cell watched, in ISOLATE and in PLAN; and of a RESERVE
cell that reports its bypass OPEN. -/
theorem witness_SeveredActiveCellOpensAFaultCampaign_reported :
    (Quiet severing ∧ Answers 0 (slotWith (responseOf 1)) (responseOf 1) severing ∧ (responseOf 1).classCode ≠ 0
      ∧ (responseOf 1).classCode ≠ 7 ∧ (responseOf 1).message = .none ∧ (severing.cell 0).link = .enrolled
      ∧ insideWindow severing.store.image (responseOf 1).dc = true ∧ (severing.cell 0).isolation = none
      ∧ severing.seq.state = .ready ∧ severing.seq.attempts.length < cfgAttemptBudget severing.store.image)
    ∧ ((watchedOver [0, 1] [] 1).seq.state = .block
      ∧ (watchedOver [0, 1] [] 1).seq.watch = some { cells := [0, 1], starts := 1 }
      ∧ ((watchedOver [0, 1] [] 1).cell 1).service = .active ∧ ((watchedOver [0, 1] [] 1).cell 1).link ≠ .severed
      ∧ Answers 0 (slotWith (responseOf 1)) (responseOf 1) (watchedOver [0, 1] [] 1))
    ∧ ((severingIn .isolate 1).seq.watch = none
      ∧ Answers 0 (slotWith (responseOf 1)) (responseOf 1) (severingIn .isolate 1))
    ∧ Answers 0 (slotWith (responseOf 1)) (responseOf 1) (severingIn .plan 3)
    ∧ (Answers 0 (slotWith { responseOf 1 with bypass := 0 }) { responseOf 1 with bypass := 0 }
        (withCell 0 (cellIn .reserve) severing)
      ∧ ({ responseOf 1 with bypass := 0 } : Response).bypass ≠ 1) := by decide +kernel

/-- R62, R63: a coordinator class in a response is taken as INTERNAL with detail 0. -/
theorem test_reported_coordinator_class :
    (nextOf (exec (.slotEnd 0 (slotWith { responseOf 9 with detail := 5 })) severing)).map
      (fun t => t.queue.map fun e => (e.cell, e.first, e.detail)) = some [(0, .internal, 0)] := by decide +kernel

/-- READY with cell 1 RESERVE and enrolled. -/
def parked : State := sending (withCell 0 (cellIn .reserve) (service .ready))

theorem witness_ParkedCellFaultsByTheDirectRoute :
    (Quiet parked ∧ parked.expected 0 = true ∧ parked.rings.healthOn = true
      ∧ judgeSlot (slotWith (responseOf 11)) = .valid (responseOf 11) ∧ (responseOf 11).classCode ≠ 0
      ∧ (responseOf 11).classCode ≠ 7 ∧ (responseOf 11).bypass = 1 ∧ (responseOf 11).message = .none
      ∧ insideWindow parked.store.image (responseOf 11).dc = true ∧ parked.seq.state ≠ .off
      ∧ parked.seq.watch = none ∧ (parked.cell 0).service = .reserve ∧ (parked.cell 0).link = .enrolled
      ∧ (parked.cell 0).isolation = none)
    ∧ ∀ p, parked.plans.pending = some p → p.offsetOf 0 = none :=
  ⟨by decide +kernel, nofun⟩

/-- READY with cell 1 BYPASSED after an overcurrent, or with no fault record. -/
def faultedBefore (record : Bool) : State :=
  sending (withCell 0 { cellIn .bypassed with
    fault := if record then
      some { first := .overcurrent, detail := 0, stamp := 0, further := 2, kind := .hard, blind := false, reenrolled := false }
      else none } (service .ready))

theorem witness_ParkedCellFaultsByTheDirectRoute_further :
    (Quiet (faultedBefore true) ∧ Answers 0 (slotWith (responseOf 3)) (responseOf 3) (faultedBefore true)
      ∧ (responseOf 3).classCode ≠ 0 ∧ (responseOf 3).classCode ≠ 7 ∧ (responseOf 3).message = .none
      ∧ ((faultedBefore true).cell 0).link = .enrolled ∧ ((faultedBefore true).cell 0).isolation = none
      ∧ (faultedBefore true).seq.state ≠ .off ∧ (faultedBefore true).seq.watch = none
      ∧ ((faultedBefore true).cell 0).service = .bypassed)
    ∧ ((faultOfCode 1 0).1 = .overcurrent ∧ (faultOfCode 2 0).1 = .dcOvervolt ∧ (2 : BitVec 11) &&& FaultClass.dcOvervolt.mask ≠ 0)
    ∧ ((faultOfCode 3 0).1 ≠ .overcurrent ∧ (2 : BitVec 11) &&& (faultOfCode 3 0).1.mask = 0)
    ∧ ((faultedBefore false).cell 0).fault = none := by decide +kernel

/-- READY with cell 1 RESERVE one miss away from severing. -/
def severingParked : State := sending (withCell 0 { cellIn .reserve with missCount := 234 } (service .ready))

theorem witness_ParkedCellFaultsByTheDirectRoute_severed :
    (Quiet severingParked ∧ severingParked.expected 0 = true ∧ severingParked.rings.healthOn = true
      ∧ judgeSlot ⟨false, none⟩ = .missed ∧ (severingParked.cell 0).link = .enrolled
      ∧ (severingParked.cell 0).service = .reserve ∧ 234 ≤ (severingParked.cell 0).missCount
      ∧ (severingParked.cell 0).isolation = none ∧ severingParked.seq.state ≠ .off ∧ severingParked.seq.watch = none
      ∧ severingParked.plans.pending = none)
    ∧ (exchanging (exchangeAt 0)).rings.mail.get (phaseOf 0) = some (exchangeAt 0) ∧ (exchangeAt 0).cell = 0
    ∧ 8 ≤ (8 : Byte).toNat := by decide +kernel

/-- A frame in progress whose first gate of phase A alone is ON. -/
def gatedFrames : Rings DownFrame :=
  let off : CommandField := { gateOn := false, close := true, respond := true, slotStart := 20, message := .none }
  let fields : List CommandField := List.replicate 8 off
  ⟨⟨0, 0, { off with gateOn := true } :: fields.drop 1⟩, ⟨0, 0, fields⟩, ⟨0, 0, fields⟩⟩

/-- READY with that frame in progress. -/
def gated : State := sending { service .ready with rings.frames := some gatedFrames }

theorem witness_SecondTickAddsActiveTime :
    Quiet gated ∧ gated.rings.frames = some gatedFrames
      ∧ (((gatedFrames.get (phaseOf 0)).fields[positionOf 0 - 1]?).map CommandField.gateOn) = some true
      ∧ (((gatedFrames.get (phaseOf 9)).fields[positionOf 9 - 1]?).map CommandField.gateOn) = some false := by
  decide +kernel

theorem witness_CarrierPeriodIsRoundedHalfUp :
    200 ≤ cfgCarrier (imageWith 84 2 200) ∧ cfgCarrier (imageWith 84 2 2000) ≤ 2000 := by decide +kernel

theorem witness_CarrierOffsetsInterleave :
    20000 ≤ 20000 ∧ 20000 ≤ 200000 ∧ 1 ≤ 8 ∧ 8 ≤ 8 ∧ 2 < 3 ∧ 7 < 8 ∧ 3 * 6 + 2 < 3 * 7 + 0 := by decide

theorem witness_CeilingsAreBounded :
    (computePlan (starting 1 [] allReserve) true 1).isSome = true
      ∧ (500 ≤ cfgRatedSpeed defaultImage ∧ cfgRatedSpeed defaultImage ≤ 20000)
      ∧ (1000 ≤ cfgRatedVoltage defaultImage ∧ cfgRatedVoltage defaultImage ≤ 15000)
      ∧ (512 ≤ cfgModulation defaultImage ∧ cfgModulation defaultImage ≤ 1024) ∧ cfgDcHigh defaultImage ≤ 4094 := by
  decide +kernel

theorem witness_PlanTakesEquallyManyCandidates :
    6 = min (candidates (starting 1 [] allReserve) .a).length
        (min (candidates (starting 1 [] allReserve) .b).length (candidates (starting 1 [] allReserve) .c).length)
      ∧ (computePlan (starting 1 [] allReserve) true 1).isSome = true := by decide +kernel

/-- A step from here answers a next state: with no command waiting, one microsecond passes. -/
theorem service_steps : (nextOf (step (service .ready))).isSome = true := by decide +kernel

theorem witness_StepKeepsTheListBounds : ListsBounded (service .ready) := by decide +kernel

theorem witness_StepKeepsTheModeAgreement : ModeAgrees (service .ready) := by decide +kernel

theorem witness_StepKeepsOffsetsToActiveCells : OffsetOnlyWhileActive (service .ready) := by decide +kernel

theorem witness_StepKeepsMissCountMarkingSevered : MissCountMarksSevered (service .ready) := by decide +kernel

end Sys2Proof.Tests
end

section
/-! PROOFS. What a step does to one roster record at a time. `CellInvariant` lists the few ways in which the model changes the
service state, the carrier offset, the link state and the miss count of a record; a property of a single record that survives
these survives every step. The walk over the commands is made once here, for every such property. -/

namespace Sys2Proof.Machine

open Sys2Proof

/-- A property of one roster record that every kind of change the model makes to a record keeps. -/
structure CellInvariant (P : Cell → Prop) : Prop where
  /-- It says nothing of the other items of a record. -/
  frame : ∀ {x y : Cell}, P x → y.service = x.service → y.offset = x.offset → y.link = x.link →
    y.missCount = x.missCount → P y
  /-- A service state taken without a carrier offset. -/
  park : ∀ {x : Cell} (v : Service), P x → P { x with service := v, offset := none }
  /-- ACTIVE, with whatever carrier offset. -/
  activate : ∀ {x : Cell} (o : Option Nat), P x → P { x with service := .active, offset := o }
  /-- A link state entered, with the miss count of Table 3-2, whatever the miss count was. -/
  link : ∀ {x y : Cell} (l : LinkState), P x → y.service = x.service → y.offset = x.offset → y.link = l →
    y.missCount = (if l = .severed then 240 else 0) → P y
  /-- A VALID response of an ENROLLED cell lowers the miss count. -/
  lower : ∀ {x : Cell}, x.link = .enrolled → P x → P { x with missCount := x.missCount - 1 }
  /-- A miss of an ENROLLED cell raises the miss count to less than 240. -/
  raise : ∀ {x : Cell} {n : Nat}, x.link = .enrolled → n < 240 → P x → P { x with missCount := n }
  /-- An empty record. -/
  fresh : ∀ v : Service, P (Cell.empty v)

/-- Every roster record has the property. -/
abbrev EveryCell (P : Cell → Prop) (s : State) : Prop := ∀ c : CellRef, P (s.cell c)

/-- A trip in OFF, TRIPPED or LOCKED changes nothing (R64, R68, R84). -/
theorem trip_stopped (k : TripCause) {s : State} (h : s.seq.state = .off ∨ s.seq.state = .tripped ∨ s.seq.state = .locked) :
    trip k s = s := if_pos h

/-- A trip elsewhere drops the stage and the pending plan, closes the open campaign and stops (R98). -/
theorem trip_running (k : TripCause) {s : State}
    (h : ¬(s.seq.state = .off ∨ s.seq.state = .tripped ∨ s.seq.state = .locked)) :
    trip k s = enterStopped .tripped
      (closeCampaign (.tripped k) (discardPending (dropStage { s with seq.tripCause := some k }))).1
      (closeCampaign (.tripped k) (discardPending (dropStage { s with seq.tripCause := some k }))).2 := if_neg h

variable {P : Cell → Prop} {s t : State}

theorem everyCell_of_cells (e : t.cells = s.cells) (h : EveryCell P s) : EveryCell P t := by
  intro c
  simpa [State.cell, e] using h c

theorem everyCell_setCell {c : CellRef} {x : Cell} (hx : P x) (h : EveryCell P s) : EveryCell P (s.setCell c x) := by
  intro d
  by_cases e : d = c
  · rw [e, cell_setCell_same]; exact hx
  · rw [cell_setCell_ne _ _ _ _ e]; exact h d

theorem everyCell_modCell {c : CellRef} {f : Cell → Cell} (hf : P (f (s.cell c))) (h : EveryCell P s) :
    EveryCell P (s.modCell c f) := everyCell_setCell hf h

theorem everyCell_mapCells {g : CellRef → Cell → Cell} (h : ∀ c, P (g c (s.cell c))) : EveryCell P (s.mapCells g) := by
  intro c
  rw [cell_mapCells]; exact h c

theorem everyCell_foldl {α : Type} {f : State → α → State} (hf : ∀ s a, EveryCell P s → EveryCell P (f s a)) (l : List α)
    (h : EveryCell P s) : EveryCell P (l.foldl f s) :=
  List.foldlRecOn l f h fun t ht a _ => hf t a ht

namespace CellInvariant

/-! ### Flags, links and service states -/

theorem modCell (hP : CellInvariant P) (c : CellRef) {f : Cell → Cell}
    (hf : ∀ x, (f x).service = x.service ∧ (f x).offset = x.offset ∧ (f x).link = x.link ∧ (f x).missCount = x.missCount)
    (h : EveryCell P s) : EveryCell P (s.modCell c f) := by
  obtain ⟨hs, ho, hl, hm⟩ := hf (s.cell c)
  exact everyCell_modCell (hP.frame (h c) hs ho hl hm) h

theorem setFlag (hP : CellInvariant P) (f : ReportFlag) (c : CellRef) (h : EveryCell P s) : EveryCell P (setFlag f c s) := by
  intro d
  by_cases e : d = c
  · rw [e, setFlag_cell_same]; exact hP.frame (h c) rfl rfl rfl rfl
  · rw [setFlag_cell_ne _ _ e]; exact h d

theorem clearFlags (hP : CellInvariant P) (c : CellRef) (h : EveryCell P s) : EveryCell P (clearFlags c s) :=
  hP.modCell c (fun _ => ⟨rfl, rfl, rfl, rfl⟩) h

/-- An entry into a link state asks the property only of the record apart from its miss count. -/
theorem enterLink_of (hP : CellInvariant P) (l : LinkState) (a : Option Ability) (k : Option RejectCause) (c : CellRef)
    {x : Cell} (hs : (s.cell c).service = x.service) (ho : (s.cell c).offset = x.offset) (hx : P x)
    (h : ∀ d, d ≠ c → P (s.cell d)) : EveryCell P (enterLink l a k c s) := by
  have e : (enterLink l a k c s).cells = (s.modCell c (linkItems l a k s.now)).cells := by
    unfold enterLink; dsimp only; split <;> simp
  refine everyCell_of_cells e fun d => ?_
  by_cases hd : d = c
  · rw [hd, cell_modCell_same]
    exact hP.link l hx hs ho rfl rfl
  · rw [cell_modCell_ne _ _ _ _ hd]; exact h d hd

theorem enterLink (hP : CellInvariant P) (l : LinkState) (a : Option Ability) (k : Option RejectCause) (c : CellRef)
    (h : EveryCell P s) : EveryCell P (enterLink l a k c s) :=
  hP.enterLink_of l a k c rfl rfl (h c) fun d _ => h d

theorem darkenLinks (hP : CellInvariant P) (h : EveryCell P s) : EveryCell P (darkenLinks s) :=
  everyCell_mapCells fun c => hP.link .dark (h c) rfl rfl rfl rfl

theorem setService (hP : CellInvariant P) (v : Service) (c : CellRef) (h : EveryCell P s) :
    EveryCell P (setService v c s) := by
  have hx : P { s.cell c with
      service := v
      offset := if v = .active then (s.cell c).offset else none
      dcDebounce := if v.working then (s.cell c).dcDebounce else 0 } := by
    split
    · next e => subst e; exact hP.frame (hP.activate (s.cell c).offset (h c)) rfl rfl rfl rfl
    · exact hP.frame (hP.park v (h c)) rfl rfl rfl rfl
  unfold Machine.setService
  dsimp only
  split
  · exact everyCell_setCell hx h
  · exact hP.setFlag _ c (everyCell_setCell hx h)

theorem retireCells (hP : CellInvariant P) (h : EveryCell P s) : EveryCell P (retireCells s) := by
  refine everyCell_foldl (fun s c h => ?_) allCells h
  unfold retireCell
  split
  · exact hP.setService _ c h
  · exact h

theorem strikeAndBypass (hP : CellInvariant P) (c : CellRef) (h : EveryCell P s) : EveryCell P (strikeAndBypass c s) :=
  hP.setService _ c (hP.modCell c (fun _ => ⟨rfl, rfl, rfl, rfl⟩) h)

/-! ### The sequencer -/

theorem dropStage (hP : CellInvariant P) (h : EveryCell P s) : EveryCell P (dropStage s) := by
  intro c
  rw [dropStage_cell]; exact hP.frame (h c) rfl rfl rfl rfl

theorem haltDevice (hP : CellInvariant P) (k : ModeCause) (h : EveryCell P s) : EveryCell P (haltDevice k s) :=
  hP.retireCells (hP.darkenLinks (everyCell_of_cells (postMode_cells _ _) h))

theorem enterStopped (hP : CellInvariant P) (st : SeqState) (r : Option CampaignRecord) (h : EveryCell P s) :
    EveryCell P (enterStopped st r s) := by
  unfold Machine.enterStopped
  split
  · exact hP.haltDevice _ (everyCell_of_cells (by simp) h)
  · exact everyCell_of_cells (by simp) h

theorem trip (hP : CellInvariant P) (k : TripCause) (h : EveryCell P s) : EveryCell P (trip k s) := by
  by_cases hs : s.seq.state = .off ∨ s.seq.state = .tripped ∨ s.seq.state = .locked
  · rw [trip_stopped k hs]; exact h
  · have hd : EveryCell P (Machine.dropStage { s with seq.tripCause := some k }) := hP.dropStage h
    rw [trip_running k hs]
    exact hP.enterStopped _ _ (everyCell_of_cells (by rw [closeCampaign_cells, discardPending_cells]) hd)

theorem completeCampaign (hP : CellInvariant P) (h : EveryCell P s) : EveryCell P (completeCampaign s) := by
  have hd := everyCell_of_cells (closeCampaign_cells .completed _) (hP.dropStage h)
  unfold Machine.completeCampaign
  dsimp only
  split
  · exact everyCell_of_cells (syncLines_cells _ _) (hP.haltDevice _ (everyCell_of_cells (by simp) hd))
  · exact everyCell_of_cells (by simp) hd

@[simp] theorem restyle_cells (s : State) : (restyle s).cells = s.cells := by
  unfold restyle; split <;> simp

@[simp] theorem decideStyle_cells (k : CampaignKind) (s : State) : (decideStyle k s).cells = s.cells := by
  unfold decideStyle; (repeat' split) <;> simp

@[simp] theorem blockStyle_cells (b : Bool) (s : State) : (blockStyle b s).cells = s.cells := by
  unfold blockStyle; (repeat' split) <;> simp

theorem enterBlock (hP : CellInvariant P) (b : Bool) (h : EveryCell P s) : EveryCell P (enterBlock b s) := by
  have ht : EveryCell P (setSeq .block (Machine.dropStage s)) := everyCell_of_cells (setSeq_cells _ _) (hP.dropStage h)
  unfold Machine.enterBlock
  dsimp only
  split
  · exact everyCell_of_cells (by simp) ht
  · exact hP.trip _ (everyCell_of_cells (postOpen_cells _) ht)

theorem openCampaign (hP : CellInvariant P) (k : CampaignKind) (h : EveryCell P s) : EveryCell P (openCampaign k s) :=
  hP.enterBlock true h

theorem openFault (hP : CellInvariant P) (h : EveryCell P s) : EveryCell P (openFault s) := by
  unfold Machine.openFault
  split
  · exact hP.openCampaign _ h
  · exact hP.enterStopped _ _ h

theorem enterPlan (hP : CellInvariant P) (h : EveryCell P s) : EveryCell P (enterPlan s) := by
  have ht : EveryCell P (setSeq .plan (Machine.dropStage s)) := everyCell_of_cells (setSeq_cells _ _) (hP.dropStage h)
  unfold Machine.enterPlan
  dsimp only
  split
  · exact hP.trip _ (everyCell_of_cells (postOpen_cells _) ht)
  · exact everyCell_of_cells (postOpen_cells _) ht

theorem beginIsolation (hP : CellInvariant P) (c : CellRef) (h : EveryCell P s) : EveryCell P (beginIsolation s c) :=
  hP.modCell c (fun _ => ⟨rfl, rfl, rfl, rfl⟩) h

theorem enterIsolate (hP : CellInvariant P) (h : EveryCell P s) : EveryCell P (enterIsolate s) := by
  have ht : EveryCell P (postOpen (setSeq .isolate (Machine.dropStage s))) :=
    everyCell_of_cells (by simp) (hP.dropStage h)
  unfold Machine.enterIsolate
  dsimp only
  split
  · exact hP.enterPlan ht
  · exact everyCell_foldl (fun s c h => hP.beginIsolation c h) _ ht

theorem isolateCheck (hP : CellInvariant P) (h : EveryCell P s) : EveryCell P (isolateCheck s) := by
  unfold Machine.isolateCheck
  split
  · exact hP.enterPlan h
  · exact h

theorem acceptBypass (hP : CellInvariant P) (b : Bool) (c : CellRef) (h : EveryCell P s) :
    EveryCell P (acceptBypass b c s) := by
  have hc : EveryCell P (s.modCell c fun x => { x with
      isolation := none, fault := x.fault.map fun f => { f with blind := f.blind || b } }) :=
    hP.modCell c (fun _ => ⟨rfl, rfl, rfl, rfl⟩) h
  refine hP.isolateCheck (hP.strikeAndBypass c ?_)
  exact hc

theorem blockCheck (hP : CellInvariant P) (h : EveryCell P s) : EveryCell P (blockCheck s) := by
  rcases blockCheck_cases s with ⟨_, e⟩ | ⟨w, left, _, _, e | ⟨_, _, _, _, e⟩⟩ <;> rw [e]
  · exact h
  · exact h
  · exact hP.enterIsolate h

theorem reenterBlock (hP : CellInvariant P) (c : CellRef) (h : EveryCell P s) : EveryCell P (reenterBlock c s) := by
  unfold Machine.reenterBlock
  split
  · exact h
  · split
    · exact hP.trip _ h
    · exact hP.enterBlock _ h

theorem told (hP : CellInvariant P) (c : CellRef) (h : EveryCell P s) : EveryCell P (told c s) := by
  unfold Machine.told
  split
  · exact hP.openFault h
  · exact h
  · exact hP.beginIsolation c h
  iterate 4 exact hP.reenterBlock c h
  iterate 3 exact h

theorem applyPlan (hP : CellInvariant P) (p : Plan) (h : EveryCell P s) : EveryCell P (applyPlan p s) := by
  refine everyCell_foldl (fun s c h => ?_) allCells h
  unfold applyToCell
  split
  · next o _ =>
    have hc : EveryCell P (Machine.setService .active c s) := hP.setService _ c h
    have e : ((Machine.setService .active c s).cell c).service = .active := by
      unfold Machine.setService; dsimp only; split <;> simp [setFlag_cell_same]
    refine everyCell_modCell ?_ hc
    exact hP.frame (hP.activate (some o) (hc c)) (by simp [e]) rfl rfl rfl
  · split
    · exact hP.setService _ c h
    · exact h

theorem confirmPlan (hP : CellInvariant P) (p : Plan) (h : EveryCell P s) : EveryCell P (confirmPlan p s) := by
  have hu : EveryCell P (modCampaign (fun k => { k with pendingTag := none })
      (postUrgent (.plan p.tag p.m p.voltage p.speed) (Machine.applyPlan p s))) :=
    everyCell_of_cells (by simp) (hP.applyPlan p h)
  unfold Machine.confirmPlan
  dsimp only
  split
  · have hd := hP.dropStage hu
    exact everyCell_of_cells (by simp) hd
  · exact hP.completeCampaign hu

theorem toStopped (hP : CellInvariant P) (h : EveryCell P s) : EveryCell P (toStopped s) := by
  unfold Machine.toStopped
  dsimp only
  split
  · exact hP.completeCampaign h
  · exact everyCell_of_cells (by simp) h

theorem convertToHeld (h : EveryCell P s) : EveryCell P (convertToHeld s) :=
  everyCell_of_cells (by simp [Machine.convertToHeld]) h

/-! ### The fault intake -/

theorem makeFaulted (hP : CellInvariant P) (k : FaultClass) (detail : Byte) (c : CellRef) (h : EveryCell P s) :
    EveryCell P (makeFaulted k detail c s) :=
  everyCell_modCell (hP.frame (hP.park .faulted (h c)) rfl rfl rfl rfl) h

theorem tripOnBypassFail (hP : CellInvariant P) (k : FaultClass) (h : EveryCell P s) :
    EveryCell P (tripOnBypassFail k s) := by
  unfold Machine.tripOnBypassFail
  split
  · exact hP.trip _ h
  · exact h

theorem queuedRoute (hP : CellInvariant P) (k : FaultClass) (detail : Byte) (c : CellRef) (h : EveryCell P s) :
    EveryCell P (queuedRoute k detail c s) := by
  have hf := hP.makeFaulted k detail c h
  refine hP.told c (hP.setFlag _ c (hP.setFlag _ c (?_ : EveryCell P (if _ then _ else _))))
  split
  · exact hP.trip _ hf
  · exact hf

theorem directRoute (hP : CellInvariant P) (k : FaultClass) (detail : Byte) (c : CellRef) (h : EveryCell P s) :
    EveryCell P (directRoute k detail c s) :=
  hP.setFlag _ c (hP.strikeAndBypass c (hP.modCell c (fun _ => ⟨rfl, rfl, rfl, rfl⟩) h))

theorem furtherFault (hP : CellInvariant P) (k : FaultClass) (detail : Byte) (c : CellRef) (h : EveryCell P s) :
    EveryCell P (furtherFault k detail c s) := by
  unfold Machine.furtherFault
  split
  · exact hP.setFlag _ c (hP.modCell c (fun _ => ⟨rfl, rfl, rfl, rfl⟩) h)
  · next f _ =>
    split
    · have hm : EveryCell P (s.modCell c fun x => { x with fault := some { f with further := f.further ||| k.mask } }) :=
        hP.modCell c (fun _ => ⟨rfl, rfl, rfl, rfl⟩) h
      exact hP.setFlag _ c hm
    · exact h

theorem takeFault (hP : CellInvariant P) (k : FaultClass) (detail : Byte) (named : Bool) (c : CellRef)
    (h : EveryCell P s) : EveryCell P (takeFault k detail named c s) := by
  have hf := hP.furtherFault k (recordedDetail s.store.image k detail) c h
  unfold Machine.takeFault
  split
  · exact h
  · dsimp only
    split
    · exact h
    · exact hP.tripOnBypassFail k h
    · exact hP.queuedRoute k _ c h
    · split
      · exact hP.directRoute k _ c h
      · exact hP.queuedRoute k _ c h
    iterate 3 exact hP.tripOnBypassFail k hf

theorem watchCycle (hP : CellInvariant P) (h : EveryCell P s) : EveryCell P (watchCycle s) := by
  unfold Machine.watchCycle
  split
  · exact h
  · dsimp only
    split
    · exact hP.blockCheck (everyCell_foldl (fun s c h => hP.takeFault _ _ _ c h) _ h)
    · exact hP.blockCheck h

theorem epochStep (hP : CellInvariant P) (h : EveryCell P s) : EveryCell P (epochStep s) := by
  unfold Machine.epochStep
  split
  · next p r _ _ =>
    split
    · split
      · exact hP.confirmPlan p h
      · unfold failEpoch
        dsimp only
        split
        · exact h
        · split
          · exact hP.blockCheck (everyCell_foldl (fun s c h => hP.takeFault _ _ _ c h) _ h)
          · exact hP.trip _ h
    · exact h
  · exact h

/-! ### The end of a slot -/

theorem failAttempt (hP : CellInvariant P) (c : CellRef) (h : EveryCell P s) : EveryCell P (failAttempt c s) := by
  have hm := everyCell_modCell (f := fun x => { x with unsteadyCount := min 3 ((s.cell c).unsteadyCount + 1) })
    (hP.frame (h c) rfl rfl rfl rfl) h
  unfold Machine.failAttempt
  dsimp only
  split
  · exact hP.setFlag _ c (hP.enterLink _ _ _ c hm)
  · exact hP.enterLink _ _ _ c hm

theorem admitAwaiting (hP : CellInvariant P) (c : CellRef) (h : EveryCell P s) : EveryCell P (admitAwaiting c s) := by
  unfold Machine.admitAwaiting
  dsimp only
  split
  · exact hP.setService _ c h
  · exact h

theorem completeEnrolment (hP : CellInvariant P) (c : CellRef) (h : EveryCell P s) :
    EveryCell P (completeEnrolment c s) := by
  have hl := hP.enterLink .enrolled none none c h
  unfold Machine.completeEnrolment
  refine hP.modCell c (fun _ => ⟨rfl, rfl, rfl, rfl⟩) (hP.admitAwaiting c (hP.setFlag _ c ?_))
  exact hP.modCell c (fun _ => ⟨rfl, rfl, rfl, rfl⟩) hl

theorem relinkStep (hP : CellInvariant P) (c : CellRef) (h : EveryCell P s) : EveryCell P (relinkStep c s) := by
  have hm (n : Nat) := everyCell_modCell (f := fun x => { x with goodRun := n }) (hP.frame (h c) rfl rfl rfl rfl) h
  unfold Machine.relinkStep
  dsimp only
  split
  · exact h
  · split
    · exact hm _
    · split
      · exact hP.setFlag _ c (hm _)
      · exact hP.enterLink _ _ _ c h

theorem linkValid (hP : CellInvariant P) (c : CellRef) (r : Response) (h : EveryCell P s) :
    EveryCell P (linkValid c r s) := by
  unfold Machine.linkValid
  split
  · split
    · unfold takeAbility
      split
      · exact hP.enterLink _ _ _ c h
      · exact hP.setFlag _ c (hP.enterLink _ _ _ c h)
    · exact h
  · split
    · split
      · exact hP.enterLink _ _ _ c h
      · exact h
    · exact h
  · split
    · unfold trialStep
      split
      · exact hP.completeEnrolment c h
      · exact hP.modCell c (fun _ => ⟨rfl, rfl, rfl, rfl⟩) h
    · exact hP.failAttempt c h
  · next e => exact everyCell_modCell (hP.frame (hP.lower e (h c)) rfl rfl rfl rfl) h
  · exact hP.relinkStep c h
  · exact h
  · exact h

/-- The warnings of a miss write flags, marks and nothing else of the records. -/
theorem warnMiss_cell (n : Nat) (c d : CellRef) (s : State) :
    ((warnMiss n c s).cell d).service = (s.cell d).service ∧ ((warnMiss n c s).cell d).offset = (s.cell d).offset
      ∧ ((warnMiss n c s).cell d).link = (s.cell d).link ∧ ((warnMiss n c s).cell d).missCount = (s.cell d).missCount := by
  by_cases e : d = c
  · subst e
    unfold warnMiss
    dsimp only
    (repeat' split) <;> simp [setFlag_cell_same]
  · unfold warnMiss
    dsimp only
    (repeat' split) <;> simp [setFlag_cell_ne, e]

theorem raiseMiss (hP : CellInvariant P) (c : CellRef) (hc : (s.cell c).link = .enrolled) (h : EveryCell P s) :
    EveryCell P (raiseMiss c s) := by
  have hw (n : Nat) (d : CellRef) := warnMiss_cell n c d (s.modCell c fun x => { x with missCount := n })
  unfold Machine.raiseMiss
  dsimp only
  generalize hn : min 240 ((s.cell c).missCount + 6) = n
  have hother : ∀ d, d ≠ c → P ((warnMiss n c (s.modCell c fun x => { x with missCount := n })).cell d) := by
    intro d hd
    obtain ⟨h1, h2, h3, h4⟩ := hw n d
    rw [cell_modCell_ne _ _ _ _ hd] at h1 h2 h3 h4
    exact hP.frame (h d) h1 h2 h3 h4
  obtain ⟨h1, h2, h3, h4⟩ := hw n c
  rw [cell_modCell_same] at h1 h2 h3 h4
  split
  · exact hP.takeFault _ _ _ c (hP.setFlag _ c (hP.enterLink_of (x := s.cell c) _ _ _ c h1 h2 (h c) hother))
  · next hlt =>
    intro d
    by_cases hd : d = c
    · subst hd
      exact hP.frame (hP.raise hc (by omega) (h d)) h1 h2 h3 h4
    · exact hother d hd

theorem linkMiss (hP : CellInvariant P) (c : CellRef) (h : EveryCell P s) : EveryCell P (linkMiss c s) := by
  unfold Machine.linkMiss
  split
  · exact h
  · exact h
  · exact hP.failAttempt c h
  · next e => exact hP.raiseMiss c e h
  · exact hP.modCell c (fun _ => ⟨rfl, rfl, rfl, rfl⟩) h
  · exact h
  · exact h

@[simp] theorem takeChunk_cells (c : CellRef) (m : UpMessage) (s : State) : (takeChunk c m s).cells = s.cells := by
  unfold takeChunk
  dsimp only
  (repeat' split) <;> simp

theorem dcCheck (hP : CellInvariant P) (c : CellRef) (x : Cell) (dc : Nat) (h : EveryCell P s) :
    EveryCell P (dcCheck c x dc s) := by
  have hm (f : Cell → Nat) := everyCell_modCell (f := fun x => { x with dcDebounce := f x })
    (hP.frame (h c) rfl rfl rfl rfl) h
  unfold Machine.dcCheck
  split
  · split
    · exact hm _
    · split
      · exact hP.takeFault _ _ _ c (hm _)
      · exact hm _
  · exact h

theorem confirmBypass (hP : CellInvariant P) (c : CellRef) (x : Cell) (r : Response) (h : EveryCell P s) :
    EveryCell P (confirmBypass c x r s) := by
  unfold Machine.confirmBypass
  split
  · split
    · exact hP.acceptBypass _ c h
    · exact h
  · exact h

theorem takeReported (hP : CellInvariant P) (c : CellRef) (r : Response) (h : EveryCell P s) :
    EveryCell P (takeReported c r s) := by
  unfold Machine.takeReported
  split
  · exact h
  · exact hP.takeFault _ _ _ c h

@[simp] theorem confirmGateOff_cells (c : CellRef) (r : Response) (s : State) : (confirmGateOff c r s).cells = s.cells := by
  unfold confirmGateOff
  (repeat' split) <;> rfl

theorem takeValid (hP : CellInvariant P) (c : CellRef) (r : Response) (h : EveryCell P s) :
    EveryCell P (takeValid c r s) := by
  have hm := everyCell_modCell (f := fun x => { x with report := some (reportOf r s.now), reportAge := 0 })
    (hP.frame (h c) rfl rfl rfl rfl) h
  refine hP.blockCheck (everyCell_of_cells (confirmGateOff_cells _ _ _) (hP.confirmBypass c _ r (hP.dcCheck c _ _
    (hP.takeReported c r (everyCell_of_cells (takeChunk_cells _ _ _) (?_ : EveryCell P (if _ then _ else _)))))))
  split
  · exact hP.linkValid c r hm
  · exact hm

theorem takeMiss (hP : CellInvariant P) (c : CellRef) (h : EveryCell P s) : EveryCell P (takeMiss c s) := by
  have hm := everyCell_modCell (f := fun x => { x with reportAge := min 255 (x.reportAge + 1) })
    (hP.frame (h c) rfl rfl rfl rfl) h
  refine hP.blockCheck (?_ : EveryCell P (if _ then _ else _))
  split
  · exact hP.linkMiss c hm
  · exact hm

theorem slotStep (hP : CellInvariant P) (c : CellRef) (seen : SlotSeen) (h : EveryCell P s) :
    EveryCell P (slotStep c seen s) := by
  unfold Machine.slotStep
  split
  · split
    · exact hP.takeValid c _ h
    · exact hP.takeMiss c h
    · exact hP.takeMiss c (hP.setFlag _ c h)
    · exact hP.takeMiss c h
  · exact h

/-! ### A cycle start -/

theorem confirmCycle (hP : CellInvariant P) (c : CellRef) (h : EveryCell P s) : EveryCell P (confirmCycle s c) := by
  unfold Machine.confirmCycle
  split
  · split
    · exact hP.failAttempt c h
    · exact hP.modCell c (fun _ => ⟨rfl, rfl, rfl, rfl⟩) h
  · exact h

@[simp] theorem tunnelCycle_cells (s : State) (p : Phase) : (tunnelCycle s p).cells = s.cells := by
  unfold tunnelCycle
  (repeat' split) <;> simp

theorem ringCycle (hP : CellInvariant P) (h : EveryCell P s) : EveryCell P (ringCycle s) := by
  unfold Machine.ringCycle
  split
  · exact everyCell_foldl (fun s p h => everyCell_of_cells (tunnelCycle_cells s p) h) _
      (everyCell_foldl (fun s c h => hP.confirmCycle c h) _ h)
  · exact h

@[simp] theorem testCycle_cells (b : Option (List Byte)) (s : State) : (testCycle b s).cells = s.cells := by
  unfold testCycle
  (repeat' split) <;> rfl

@[simp] theorem sendFrames_cells (b : Bool) (s : State) : (sendFrames b s).cells = s.cells := by
  unfold sendFrames
  split <;> rfl

@[simp] theorem enterRephase_cells (s : State) : (enterRephase s).cells = s.cells := by
  unfold enterRephase
  split <;> simp

theorem seqCycle (hP : CellInvariant P) (h : EveryCell P s) : EveryCell P (seqCycle s) := by
  unfold Machine.seqCycle
  split
  · exact hP.watchCycle h
  · exact everyCell_of_cells (enterRephase_cells s) h
  · exact hP.epochStep h
  · unfold rampStep
    dsimp only
    split
    · exact hP.completeCampaign h
    · exact h
  iterate 6 exact h

theorem cycleStep (hP : CellInvariant P) (b : Option (List Byte)) (h : EveryCell P s) : EveryCell P (cycleStep b s) :=
  have hr : EveryCell P (Machine.ringCycle (lightRings (startCycle s))) := hP.ringCycle h
  everyCell_of_cells (sendFrames_cells _ _) (hP.seqCycle (everyCell_of_cells (testCycle_cells _ _) hr))

/-! ### Requests and the link -/

theorem reshape (hP : CellInvariant P) (p : Phase) (n : Nat) (h : EveryCell P s) : EveryCell P (reshape p n s) := by
  refine everyCell_foldl (fun s c h => ?_) (cellsOf p) h
  have hv : EveryCell P (s.setCell c (Cell.empty .vacant)) := everyCell_setCell (hP.fresh _) h
  unfold reshapeCell
  split
  · split
    · exact h
    · exact everyCell_setCell (hP.fresh _) h
  · split
    · exact everyCell_of_cells (withdrawNotice_cells c _) hv
    · exact h

theorem settingsRequest (t tag : Byte) (specs : List FieldSpec) (fields : List (Option Nat)) (extra : Nat)
    {effects : State → State} (he : ∀ s, EveryCell P s → EveryCell P (effects s)) (h : EveryCell P s) :
    EveryCell P (settingsRequest t tag specs fields extra effects s) := by
  unfold Machine.settingsRequest
  dsimp only
  split
  · exact h
  · exact he _ h

@[simp] theorem planEffects_cells (w : Nat) (fs : List (Option Nat)) (s : State) : (planEffects w fs s).cells = s.cells := by
  unfold planEffects trimWindow
  dsimp only
  (repeat' split) <;> rfl

@[simp] theorem timingEffects_cells (fs : List (Option Nat)) (s : State) : (timingEffects fs s).cells = s.cells := by
  unfold timingEffects recheckHoldMinimum
  dsimp only
  (repeat' split) <;> rfl

@[simp] theorem reportingEffects_cells (fs : List (Option Nat)) (s : State) : (reportingEffects fs s).cells = s.cells := by
  unfold reportingEffects recheckBatch
  dsimp only
  (repeat' split) <;> simp

@[simp] theorem releaseTrip_cells (s : State) : (releaseTrip s).cells = s.cells := by
  unfold releaseTrip
  split <;> simp

theorem serveSetDevice (tag : Byte) (fields : List (Option Nat)) (h : EveryCell P s) :
    EveryCell P (Machine.serveSetDevice tag fields s) := by
  unfold Machine.serveSetDevice
  (repeat' split)
  · exact h
  · exact settingsRequest _ _ _ _ _ (fun _ h => h) h
  · exact settingsRequest _ _ _ _ _ (fun _ h => h) h

theorem serveSetRing (hP : CellInvariant P) (tag : Byte) (phaseCode : Byte) (fields : List (Option Nat)) (h : EveryCell P s) :
    EveryCell P (Machine.serveSetRing tag phaseCode fields s) := by
  unfold Machine.serveSetRing
  (repeat' split)
  · exact h
  · exact h
  · refine settingsRequest _ _ _ _ _ (fun t ht => ?_) h
    unfold ringEffects
    split
    · exact hP.reshape _ _ ht
    · exact ht

theorem serveSetPlan (tag : Byte) (fields : List (Option Nat)) (h : EveryCell P s) :
    EveryCell P (Machine.serveSetPlan tag fields s) := by
  unfold Machine.serveSetPlan
  split
  · exact h
  · exact settingsRequest _ _ _ _ _ (fun t ht => everyCell_of_cells (planEffects_cells _ _ _) ht) h

theorem serveSetTiming (tag : Byte) (fields : List (Option Nat)) (h : EveryCell P s) :
    EveryCell P (Machine.serveSetTiming tag fields s) := by
  unfold Machine.serveSetTiming
  split
  · exact h
  · exact settingsRequest _ _ _ _ _ (fun t ht => everyCell_of_cells (timingEffects_cells _ _) ht) h

theorem serveSetReporting (tag : Byte) (fields : List (Option Nat)) (h : EveryCell P s) :
    EveryCell P (Machine.serveSetReporting tag fields s) := by
  unfold Machine.serveSetReporting
  split
  · exact h
  · exact settingsRequest _ _ _ _ _ (fun t ht => everyCell_of_cells (reportingEffects_cells _ _) ht) h

theorem serveFreeze (tag : Byte) (h : EveryCell P s) :
    EveryCell P (Machine.serveFreeze tag s) := by
  refine everyCell_of_cells ?_ h
  unfold Machine.serveFreeze
  (repeat' split) <;> simp

theorem serveSelfTest (tag : Byte) (ring : Byte) (h : EveryCell P s) :
    EveryCell P (Machine.serveSelfTest tag ring s) := by
  refine everyCell_of_cells ?_ h
  unfold Machine.serveSelfTest
  (repeat' split) <;> simp

theorem serveGo (hP : CellInvariant P) (tag : Byte) (h : EveryCell P s) :
    EveryCell P (Machine.serveGo tag s) := by
  unfold Machine.serveGo
  (repeat' split)
  · exact h
  · exact h
  · exact hP.openCampaign _ (everyCell_of_cells (postMode_cells _ _) h)
  · exact everyCell_of_cells (postMode_cells _ _) h

theorem serveHalt (hP : CellInvariant P) (tag : Byte) (h : EveryCell P s) :
    EveryCell P (Machine.serveHalt tag s) := by
  unfold Machine.serveHalt
  split
  · have hc : EveryCell P (postCampaign none (setSeq .off (Machine.dropStage s))) :=
      everyCell_of_cells (by simp) (hP.dropStage h)
    have hh := hP.haltDevice .haltAtOnce hc
    have hl := everyCell_of_cells (syncLines_cells false _) hh
    exact everyCell_of_cells (pushReply_cells _ _ _ _ _) hl
  · exact h

theorem serveResume (hP : CellInvariant P) (tag : Byte) (h : EveryCell P s) :
    EveryCell P (Machine.serveResume tag s) := by
  unfold Machine.serveResume
  split
  · exact h
  · exact everyCell_of_cells (by simp) (hP.dropStage h)

theorem serveAckTrip (hP : CellInvariant P) (tag : Byte) (h : EveryCell P s) :
    EveryCell P (Machine.serveAckTrip tag s) := by
  unfold Machine.serveAckTrip
  (repeat' split)
  · exact everyCell_of_cells (clearTrip_cells _) h
  · exact h
  · exact hP.openCampaign _ (everyCell_of_cells (releaseTrip_cells _) h)
  · exact h

theorem serveClearLockout (hP : CellInvariant P) (tag : Byte) (h : EveryCell P s) :
    EveryCell P (Machine.serveClearLockout tag s) := by
  unfold Machine.serveClearLockout
  (repeat' split)
  · exact everyCell_of_cells (clearTrip_cells _) h
  · exact h
  · exact hP.openCampaign _ (everyCell_of_cells (releaseTrip_cells _) h)
  · exact h

theorem serveClearCell (hP : CellInvariant P) (tag : Byte) (cell : Byte) (h : EveryCell P s) :
    EveryCell P (Machine.serveClearCell tag cell s) := by
  unfold Machine.serveClearCell
  (repeat' split)
  iterate 3 exact h
  exact hP.setService _ _ (hP.modCell _ (fun _ => ⟨rfl, rfl, rfl, rfl⟩) h)

theorem serveReinstate (hP : CellInvariant P) (tag : Byte) (cell : Byte) (h : EveryCell P s) :
    EveryCell P (Machine.serveReinstate tag cell s) := by
  unfold Machine.serveReinstate
  dsimp only
  (repeat' split)
  iterate 5 exact h
  exact hP.setService _ _ (hP.modCell _ (fun _ => ⟨rfl, rfl, rfl, rfl⟩) h)

theorem serveRebalance (hP : CellInvariant P) (tag : Byte) (h : EveryCell P s) :
    EveryCell P (Machine.serveRebalance tag s) := by
  unfold Machine.serveRebalance
  (repeat' split)
  · exact h
  · exact hP.openCampaign _ h
  · exact h

theorem serveRelink (hP : CellInvariant P) (tag : Byte) (cell : Byte) (h : EveryCell P s) :
    EveryCell P (Machine.serveRelink tag cell s) := by
  unfold Machine.serveRelink
  (repeat' split)
  iterate 2 exact h
  exact hP.enterLink _ _ _ _ h

theorem serveReenrol (hP : CellInvariant P) (tag : Byte) (cell : Byte) (h : EveryCell P s) :
    EveryCell P (Machine.serveReenrol tag cell s) := by
  unfold Machine.serveReenrol
  (repeat' split)
  iterate 2 exact h
  exact hP.enterLink _ _ _ _ (hP.modCell _ (fun _ => ⟨rfl, rfl, rfl, rfl⟩) h)

theorem serveReadCell (hP : CellInvariant P) (tag : Byte) (cell : Byte) (h : EveryCell P s) :
    EveryCell P (Machine.serveReadCell tag cell s) := by
  unfold Machine.serveReadCell
  split
  · exact h
  · exact everyCell_of_cells (withdrawNotice_cells _ _) (hP.clearFlags _ h)

theorem serveTunnel (tag : Byte) (cell : Byte) (bytes : List Byte) (h : EveryCell P s) :
    EveryCell P (Machine.serveTunnel tag cell bytes s) := by
  unfold Machine.serveTunnel
  (repeat' split) <;> exact h

theorem serveHoistStatus (tag : Byte) (speed : BitVec 16) (zone : Byte) (h : EveryCell P s) :
    EveryCell P (Machine.serveHoistStatus tag speed zone s) := by
  unfold Machine.serveHoistStatus
  split <;> exact h

theorem serveReadCampaign (tag : Byte) (part : Byte) (h : EveryCell P s) :
    EveryCell P (Machine.serveReadCampaign tag part s) := by
  unfold Machine.serveReadCampaign
  split <;> exact h

theorem serveReadSettings (tag : Byte) (part : Byte) (h : EveryCell P s) :
    EveryCell P (Machine.serveReadSettings tag part s) := by
  unfold Machine.serveReadSettings
  split <;> exact h

theorem serveAttentionScan (tag : Byte) (h : EveryCell P s) :
    EveryCell P (Machine.serveAttentionScan tag s) := by
  unfold Machine.serveAttentionScan
  split <;> exact h

theorem serve (hP : CellInvariant P) (r : Request) (h : EveryCell P s) : EveryCell P (serve r s) := by
  unfold Machine.serve
  cases r.op with
  | setDevice fields => exact serveSetDevice r.tag fields h
  | setRing phaseCode fields => exact hP.serveSetRing r.tag phaseCode fields h
  | setPlan fields => exact serveSetPlan r.tag fields h
  | setTiming fields => exact serveSetTiming r.tag fields h
  | setReporting fields => exact serveSetReporting r.tag fields h
  | freeze => exact serveFreeze r.tag h
  | selfTest ring => exact serveSelfTest r.tag ring h
  | unfreeze => exact everyCell_of_cells (by simp [serveUnfreeze]) h
  | go => exact hP.serveGo r.tag h
  | halt => exact hP.serveHalt r.tag h
  | resume => exact hP.serveResume r.tag h
  | ackTrip => exact hP.serveAckTrip r.tag h
  | clearLockout => exact hP.serveClearLockout r.tag h
  | clearCell cell => exact hP.serveClearCell r.tag cell h
  | reinstate cell => exact hP.serveReinstate r.tag cell h
  | rebalance => exact hP.serveRebalance r.tag h
  | relink cell => exact hP.serveRelink r.tag cell h
  | reenrol cell => exact hP.serveReenrol r.tag cell h
  | tunnel cell bytes => exact serveTunnel r.tag cell bytes h
  | hoistStatus speed zone => exact serveHoistStatus r.tag speed zone h
  | readStatus => exact h
  | readCell cell => exact hP.serveReadCell r.tag cell h
  | readCampaign part => exact serveReadCampaign r.tag part h
  | readSettings part => exact serveReadSettings r.tag part h
  | attentionScan => exact serveAttentionScan r.tag h
  | restart => exact everyCell_of_cells (by simp [serveRestart]) h
  | unknown t => exact h
  | malformed t => exact h

theorem dispatch (hP : CellInvariant P) (r : Request) (h : EveryCell P s) : EveryCell P (dispatch r s) := by
  unfold Machine.dispatch
  split
  · exact hP.serve r h
  · exact h

theorem dispatchLoop (hP : CellInvariant P) (n : Nat) (h : EveryCell P s) : EveryCell P (dispatchLoop n s) := by
  induction n generalizing s with
  | zero => exact h
  | succ n ih =>
    unfold Machine.dispatchLoop
    split
    · exact h
    · next r rest _ =>
      split
      · have hr : EveryCell P { s with link.buffer := rest } := h
        exact ih (hP.dispatch r hr)
      · exact h

theorem pump (hP : CellInvariant P) (h : EveryCell P s) : EveryCell P (pump s) := by
  unfold Machine.pump
  (repeat' split)
  iterate 3 exact h
  · next n _ =>
    have hn : EveryCell P { s with notices.cells := s.notices.cells.filter (·.cell ≠ n.cell) } := h
    exact hP.clearFlags n.cell hn
  · exact h

theorem settle (hP : CellInvariant P) (h : EveryCell P s) : EveryCell P (settle s) :=
  hP.dispatchLoop _ (hP.pump (hP.dispatchLoop _ h))

theorem arrive (r : Request) (h : EveryCell P s) : EveryCell P (arrive r s) := by
  unfold Machine.arrive
  (repeat' split) <;> exact h

theorem takeByte (hP : CellInvariant P) (b : Byte) (h : EveryCell P s) : EveryCell P (takeByte b s) := by
  unfold Machine.takeByte
  split
  · split <;> exact h
  · split <;> exact h
  · split <;> exact h
  · exact h
  · unfold judgeFrame
    dsimp only
    split
    · split
      · exact hP.settle (arrive _ h)
      · exact h
    · exact h

theorem endAtGap (h : EveryCell P s) : EveryCell P (endAtGap s) := by
  unfold Machine.endAtGap
  split <;> exact h

theorem takeChar (hP : CellInvariant P) (ch : RxChar) (h : EveryCell P s) : EveryCell P (takeChar s ch) := by
  have ht : EveryCell P (if ch.gapBefore then Machine.endAtGap s else s) := by
    split
    · exact endAtGap h
    · exact h
  unfold Machine.takeChar
  generalize (if ch.gapBefore then Machine.endAtGap s else s) = t at ht ⊢
  dsimp only
  split
  · exact hP.takeByte _ ht
  · split <;> exact ht

theorem takeChars (hP : CellInvariant P) (chars : List RxChar) (h : EveryCell P s) : EveryCell P (takeChars chars s) :=
  everyCell_foldl (fun _ ch h => hP.takeChar ch h) chars h

/-! ### Resets and timed events -/

theorem softReset (hP : CellInvariant P) (h : EveryCell P s) : EveryCell P (softReset s) := by
  have ht : EveryCell P (dropCampaign (closeCampaign .abandoned s).2) :=
    everyCell_of_cells (by rw [dropCampaign_cells, closeCampaign_cells]) h
  have hm : EveryCell P ((dropCampaign (closeCampaign .abandoned s).2).mapCells fun _ x => { x with isolation := none }) :=
    everyCell_mapCells fun c => hP.frame (ht c) rfl rfl rfl rfl
  refine everyCell_of_cells ?_ (hP.darkenLinks (hP.retireCells hm))
  unfold Machine.softReset
  rw [followDemand_cells]

theorem fullReset (hP : CellInvariant P) : EveryCell P (fullReset s) := by
  intro c
  show P ((Vector.ofFn fun c => Cell.empty (if positionOf c ≤ 6 then .awaiting else .vacant))[c.val])
  rw [Vector.getElem_ofFn]
  exact hP.fresh _

theorem frameSent (hP : CellInvariant P) (h : EveryCell P s) : EveryCell P (frameSent s) := by
  unfold Machine.frameSent
  (repeat' split)
  · exact h
  · exact hP.softReset h
  · exact h

theorem qualifyDriveRun (hP : CellInvariant P) (h : EveryCell P s) : EveryCell P (qualifyDriveRun s) := by
  unfold Machine.qualifyDriveRun driveRunChanged
  (repeat' split)
  · exact convertToHeld h
  · exact h
  · exact hP.toStopped h
  · exact h
  · exact h

theorem qualifyBrakeSet (h : EveryCell P s) : EveryCell P (qualifyBrakeSet s) := by
  unfold Machine.qualifyBrakeSet brakeSetChanged
  dsimp only
  (repeat' split)
  · exact convertToHeld h
  iterate 3 exact h

theorem secondStep (hP : CellInvariant P) (h : EveryCell P s) : EveryCell P (secondStep s) := by
  refine everyCell_mapCells fun c => ?_
  split
  · exact hP.frame (h c) rfl rfl rfl rfl
  · exact h c

theorem blindWaitEnds (hP : CellInvariant P) (c : CellRef) (h : EveryCell P s) : EveryCell P (blindWaitEnds c s) := by
  unfold Machine.blindWaitEnds
  (repeat' split)
  · exact hP.acceptBypass _ c h
  · exact hP.trip _ h
  · exact h

theorem rideThroughEnds (h : EveryCell P s) : EveryCell P (rideThroughEnds s) := by
  unfold Machine.rideThroughEnds
  dsimp only
  (repeat' split)
  · exact convertToHeld h
  · exact h
  · exact h

/-- A cycle start that a named event stands for, where it would cause that event. -/
theorem cycleStep_if (hP : CellInvariant P) (b : Bool) (h : EveryCell P s) :
    EveryCell P (if b then Machine.cycleStep none s else s) := by
  split
  · exact hP.cycleStep none h
  · exact h

/-! ### Every command, and every step -/

theorem exec (hP : CellInvariant P) {c : Instr} (h : EveryCell P s) (e : exec c s = .next t) : EveryCell P t := by
  have hstep {u : State} (e : stepTo u = .next t) (hu : EveryCell P u) : EveryCell P t := by
    cases e
    exact hP.settle hu
  cases hr : requestOf c with
  | some r =>
    rw [exec_request s hr] at e
    exact hstep e (arrive r h)
  | none =>
    cases c with
    | frameReceived chars => exact hstep e (hP.takeChars chars h)
    | frameAborted chars => exact hstep e (endAtGap (hP.takeChars chars h))
    | transmitDone => exact hstep e (hP.frameSent h)
    | softReset =>
      refine hstep e ?_
      split
      · exact hP.softReset h
      · exact h
    | resetN => exact hstep e hP.fullReset
    | powerOn => exact hstep e hP.fullReset
    | inputPinChange line b =>
      refine hstep e ?_
      cases line <;> exact h
    | driveRunQualified => exact hstep e (hP.qualifyDriveRun h)
    | brakeSetQualified => exact hstep e (qualifyBrakeSet h)
    | cycleStart b => exact hstep e (hP.cycleStep b h)
    | secondTick => exact hstep e (hP.secondStep h)
    | slotEnd c seen => exact hstep e (hP.slotStep c seen h)
    | gateOffWatchTimeout => exact hstep e (hP.cycleStep_if _ h)
    | confirmTimeout c => exact hstep e (hP.cycleStep_if _ h)
    | tunnelTimeout p => exact hstep e (hP.cycleStep_if _ h)
    | epochCheck => exact hstep e (hP.cycleStep_if _ h)
    | rampComplete => exact hstep e (hP.cycleStep_if _ h)
    | enrolWindowExpiry =>
      refine hstep e ?_
      unfold enrolWindowRuns
      split
      · exact hP.blockCheck h
      · exact h
    | bypassTimerExpiry c =>
      refine hstep e ?_
      unfold bypassTimerEnds
      split
      · exact hP.trip _ h
      · exact h
    | blindWaitExpiry c => exact hstep e (hP.blindWaitEnds c h)
    | rideThroughExpiry => exact hstep e (rideThroughEnds h)
    | brakeConfirmExpiry =>
      refine hstep e ?_
      unfold brakeConfirmEnds
      split
      · exact hP.trip _ h
      · exact h
    | resumeTimerExpiry =>
      refine hstep e ?_
      unfold resumeTimerEnds
      split
      · exact hP.trip _ h
      · exact h
    | holdMinimumExpiry =>
      refine hstep e ?_
      unfold holdMinimumEnds
      split
      · exact everyCell_of_cells (syncLines_cells _ _) h
      · exact h
    | attemptEntryExpiry =>
      refine hstep e ?_
      unfold attemptExpires
      split <;> exact h
    | freshnessExpiry =>
      refine hstep e ?_
      unfold hoistStales
      split <;> exact h
    | batchTimerExpiry =>
      refine hstep e ?_
      unfold batchTimerEnds
      split <;> exact h
    | selfTestSlotEnd p seen =>
      refine hstep e ?_
      unfold testSlotEnds
      (repeat' split) <;> exact h
    | selfTestEnd =>
      refine hstep e (everyCell_of_cells ?_ h)
      unfold testEnds
      (repeat' split) <;> simp
    | storageFault target v =>
      refine hstep e ?_
      unfold disturb
      (repeat' split) <;> exact h
    | _ => exact absurd hr (by simp [requestOf])

theorem step (hP : CellInvariant P) (h : EveryCell P s) (e : step s = .next t) : EveryCell P t := by
  unfold Machine.step at e
  split at e
  · next c rest _ =>
    have hs : EveryCell P { s with pending := rest } := h
    exact hP.exec hs e
  · cases e; exact h

end CellInvariant

/-! ### The carrier offset -/

/-- A record holds a carrier offset only while it is ACTIVE. -/
abbrev OffsetMeansActive (x : Cell) : Prop := x.offset.isSome = true → x.service = .active

theorem offsetMeansActive_invariant : CellInvariant OffsetMeansActive where
  frame h hs ho _ _ := by simpa only [OffsetMeansActive, hs, ho] using h
  park _ _ := by simp [OffsetMeansActive]
  activate _ _ _ := rfl
  link _ h hs ho _ _ := by simpa only [OffsetMeansActive, hs, ho] using h
  lower _ h := h
  raise _ _ h := h
  fresh _ := by simp [OffsetMeansActive, Cell.empty]

end Sys2Proof.Machine

open Sys2Proof Sys2Proof.Machine

/-- Settles O58: the offset's rule is a property of one record that every kind of change of a record keeps. -/
theorem stepKeepsOffsetsToActiveCells : Obligations.StepKeepsOffsetsToActiveCells := by
  unfold Obligations.StepKeepsOffsetsToActiveCells
  intro s t h e
  exact offsetMeansActive_invariant.step h e

end


section
namespace Sys2Proof.Machine
open Sys2Proof

/-! ### The full reset -/

/-- After a full reset the link has nothing to do. -/
theorem settle_fullReset (s : State) : settle (fullReset s) = fullReset s := settle_empty rfl

@[simp] theorem fullReset_cell (s : State) (c : CellRef) :
    (fullReset s).cell c = Cell.empty (if positionOf c ≤ 6 then .awaiting else .vacant) := by
  show (Vector.ofFn fun d => Cell.empty (if positionOf d ≤ 6 then .awaiting else .vacant))[c.val] = _
  rw [Vector.getElem_ofFn]

theorem exec_reset {c : Instr} (s : State) (h : c = .resetN ∨ c = .powerOn) : exec c s = .next (fullReset s) := by
  rw [← settle_fullReset]
  rcases h with rfl | rfl <;> rfl

theorem cfgInstalled_default (p : Phase) : cfgInstalled defaultImage p = 6 := by cases p <;> decide

theorem numberOf_default (c : CellRef) : numberOf defaultImage c = 6 * (phaseOf c).index + positionOf c := by
  simp only [numberOf, cfgInstalled_default]
  cases phaseOf c <;> simp [Phase.index]

/-! ### Writes to one record, one after another -/

@[simp] theorem setCell_setCell (s : State) (c : CellRef) (x y : Cell) : (s.setCell c x).setCell c y = s.setCell c y := by
  simp [State.setCell]

theorem modCell_modCell (s : State) (c : CellRef) (f g : Cell → Cell) :
    (s.modCell c f).modCell c g = s.modCell c fun x => g (f x) := by simp [State.modCell]

/-- A change of service state is a write and its flag. -/
theorem setService_changed {v : Service} {c : CellRef} {s : State} (h : (s.cell c).service ≠ v) :
    setService v c s = setFlag .stateChanged c (s.modCell c fun x => { x with
      service := v
      offset := if v = .active then x.offset else none
      dcDebounce := if v.working then x.dcDebounce else 0 }) := by
  unfold setService
  simp only [if_neg h]
  rfl

/-! ### Requests -/

/-- A request that the mode takes, and that leaves the buffer, ends its step with its block's effect and the next frame. -/
theorem exec_served {c : Instr} {tag : Byte} {op : RequestOp} {s u : State} (hc : requestOf c = some ⟨tag, op⟩)
    (h : Ready s) (hm : takenIn op s.store.mode = true) (hu : serve ⟨tag, op⟩ s = u) (hb : u.link.buffer = []) :
    exec c s = .next (pump u) := by
  have e : dispatch ⟨tag, op⟩ s = u := by simp [dispatch, hm, hu]
  rw [exec_request s hc, request_ready h (by rw [e]; exact hb), e]

/-- A request that is only replied to. -/
theorem exec_replied {c : Instr} {tag : Byte} {op : RequestOp} {s : State} {t : Byte} {code : ReplyCode}
    (hc : requestOf c = some ⟨tag, op⟩) (h : Ready s) (hm : takenIn op s.store.mode = true)
    (hu : serve ⟨tag, op⟩ s = pushReply t tag code [] s) : exec c s = .next (replyOnly t tag code [] s) :=
  exec_served hc h hm hu h.1

/-- A cell number outside the numbering names no record (R2). -/
theorem named_none {number : Byte} {s : State} (h : number = 0 ∨ installedTotal s.store.image < number.toNat) :
    s.named number = none := if_pos h

/-- A cell number that names a record names an installed one with that number (R1, R2). -/
theorem named_some {number : Byte} {c : CellRef} {s : State} (h : s.named number = some c) :
    s.installed c = true ∧ numberOf s.store.image c = number.toNat := by
  unfold State.named at h
  split at h
  · cases h
  · simpa using List.find?_some h

theorem installed_iff (s : State) (c : CellRef) : s.installed c = true ↔ (s.cell c).service ≠ .vacant := by
  simp [State.installed]

/-! ### The second tick -/

theorem gatedInFrame_iff (s : State) (c : CellRef) :
    gatedInFrame s c = true ↔ ∃ f x, s.rings.frames = some f ∧ (f.get (phaseOf c)).fields[positionOf c - 1]? = some x
      ∧ x.gateOn = true := by
  unfold gatedInFrame
  cases hf : s.rings.frames with
  | none => simp
  | some f =>
    cases hx : (f.get (phaseOf c)).fields[positionOf c - 1]? <;> simp [hx]

theorem secondStep_cell (s : State) (c : CellRef) :
    (secondStep s).cell c = if gatedInFrame s c then
      { s.cell c with activeTime := min 4294967295 ((s.cell c).activeTime + 1) } else s.cell c := cell_mapCells _ _ _

end Sys2Proof.Machine

open Sys2Proof Sys2Proof.Machine

/-- Settles O60: every record of the reset state is empty. -/
theorem resetMeetsTheInvariants : Obligations.ResetMeetsTheInvariants := by
  unfold Obligations.ResetMeetsTheInvariants
  have hc (c : CellRef) : State.reset.cell c = Cell.empty (if positionOf c ≤ 6 then .awaiting else .vacant) :=
    fullReset_cell State.reset c
  refine ⟨by decide, by decide, fun c => ?_, fun c => ?_⟩ <;> rw [hc] <;> simp [Cell.empty]

/-- Settles O11: the roster and the image of a full reset are those of the reset state. -/
theorem resetSetsTheRoster : Obligations.ResetSetsTheRoster := by
  unfold Obligations.ResetSetsTheRoster
  intro s c hc
  have himage : (fullReset s).store.image = defaultImage := rfl
  refine ⟨fullReset s, exec_reset s hc, fun p => ?_, fun d => ?_⟩
  · rw [himage, cfgInstalled_default]
  rw [fullReset_cell, himage]
  exact ⟨rfl, fun _ => numberOf_default d, rfl, rfl, rfl, rfl, rfl, rfl, rfl, rfl⟩

/-- Settles O12: a full reset leaves nothing for the link to do. -/
theorem fullResetRestoresTheResetState : Obligations.FullResetRestoresTheResetState := by
  unfold Obligations.FullResetRestoresTheResetState
  exact ⟨fun s c hc => exec_reset s hc, rfl, rfl, rfl, rfl, rfl, rfl, rfl, rfl, rfl, rfl, rfl⟩

/-- Settles O51: a second tick maps the records by the gates of the frames in progress. -/
theorem secondTickAddsActiveTime : Obligations.SecondTickAddsActiveTime := by
  unfold Obligations.SecondTickAddsActiveTime
  intro s hq
  have hs : exec .secondTick s = .next (secondStep s) := congrArg _ (settle_quiet (s := secondStep s) hq)
  refine ⟨secondStep s, hs, rfl, fun d => ⟨fun hg => ?_, fun hg => ?_⟩⟩
  · rw [secondStep_cell, if_pos ((gatedInFrame_iff s d).2 hg)]
  · have hd : ¬gatedInFrame s d = true := by
      rw [gatedInFrame_iff]
      rintro ⟨f, x, hf, hx, hon⟩
      simp [hg f x hf hx] at hon
    rw [secondStep_cell, if_neg hd]

/-- Settles O23: every request that names a cell asks for its record first. -/
theorem badCellNumberIsRange : Obligations.BadCellNumberIsRange := by
  unfold Obligations.BadCellNumberIsRange
  refine ⟨fun tag number bytes c r s hc hr _ hm hs ht hn => ?_, fun number c s h => ?_⟩
  · have hnone : s.named number = none := named_none hn
    simp only [List.mem_cons, List.not_mem_nil, or_false] at hc
    rcases hc with rfl | rfl | rfl | rfl | rfl | rfl
    case inr.inr.inr.inr.inr =>
      by_cases hb : 1 ≤ bytes.length ∧ bytes.length ≤ 16
      · obtain rfl : (⟨tag, .tunnel number bytes⟩ : Request) = r := by simpa [requestOf, hb] using hr
        exact exec_replied (by simp [requestOf, hb]) hs ht (by simp [serve, serveTunnel, hnone]; rfl)
      · obtain rfl : (⟨tag, .malformed 0x13⟩ : Request) = r := by simpa [requestOf, hb] using hr
        exact absurd rfl (hm 0x13)
    all_goals
      cases hr
      exact exec_replied rfl hs ht (by
        simp [serve, serveReadCell, serveReinstate, serveClearCell, serveRelink, serveReenrol, hnone]; rfl)
  · obtain ⟨hi, hn⟩ := named_some h
    exact ⟨(installed_iff s c).1 hi, hn⟩

/-- Settles O24: each check of CLEAR_CELL and REINSTATE in its order, and their two moves. -/
theorem clearCellAndReinstateMoveTheCell : Obligations.ClearCellAndReinstateMoveTheCell := by
  unfold Obligations.ClearCellAndReinstateMoveTheCell
  intro tag number c s hs hn
  refine ⟨fun hmode => ?_, fun hmode => ?_⟩
  · have ht : takenIn (.clearCell number) s.store.mode = true := by
      rcases hmode with h | h <;> simp [takenIn, h]
    refine ⟨fun hv => exec_replied rfl hs ht ?_, fun hv hm hst => exec_replied rfl hs ht ?_,
      fun hv hm => exec_served rfl hs ht ?_ ?_⟩
    · simp [serve, serveClearCell, hn, hv]
    · simp [serve, serveClearCell, hn, hv, hm, hst]
    · have hc : ¬(s.store.mode = .service ∧ s.seq.state ≠ .ready) := by
        rcases hm with h | h <;> simp [h]
      simp only [serve, serveClearCell, hn, hv, ne_eq, not_true, if_false, if_neg hc]
      rw [setService_changed (by simp [hv]), modCell_modCell]
      rfl
    · simpa using hs.1
  · have ht : takenIn (.reinstate number) s.store.mode = true := by simp [takenIn, hmode]
    refine ⟨fun hv => exec_replied rfl hs ht ?_, fun hv hk => ⟨fun hst => exec_replied rfl hs ht ?_,
      fun hst => ⟨fun hl => exec_replied rfl hs ht ?_, fun hl => ⟨fun f hf hh hr => exec_replied rfl hs ht ?_,
        fun hf => exec_served rfl hs ht ?_ ?_⟩⟩⟩⟩
    · simp [serve, serveReinstate, hn, hv]
    · simp [serve, serveReinstate, hn, hv, Nat.not_le.2 hk, hst]
    · simp [serve, serveReinstate, hn, hv, Nat.not_le.2 hk, hst, hl]
    · simp [serve, serveReinstate, hn, hv, Nat.not_le.2 hk, hst, hl, needsRepair, hf, hh, hr]
    · have hrep : needsRepair (s.cell c) = false := by
        unfold needsRepair
        split
        · next f he => simpa using hf f he
        · rfl
      simp only [serve, serveReinstate, hn, hv, ne_eq, not_true, false_or, Nat.not_le.2 hk, if_false, hst, hl, hrep]
      rw [setService_changed (by simp [hv]), modCell_modCell]
      rfl
    · simpa using hs.1
end


section
namespace Sys2Proof.Machine
open Sys2Proof

/-! ### A change of each record of a list in turn -/

theorem cell_of_cells {s t : State} (e : t.cells = s.cells) (c : CellRef) : t.cell c = s.cell c := by
  simp only [State.cell, e]

/-- An operation that changes one record, by itself, as long as some condition stands: taken over a list of records it changes
each of them once. -/
theorem foldl_cell {f : State → CellRef → State} {g : CellRef → Cell → Cell} (Q : State → Prop)
    (hQ : ∀ s c, Q s → Q (f s c)) (hsame : ∀ s c, Q s → (f s c).cell c = g c (s.cell c))
    (hne : ∀ s c d, Q s → d ≠ c → (f s c).cell d = s.cell d) {l : List CellRef} (hl : l.Nodup) {s : State} (hs : Q s)
    (d : CellRef) : (l.foldl f s).cell d = if d ∈ l then g d (s.cell d) else s.cell d := by
  induction l generalizing s with
  | nil => rfl
  | cons c l ih =>
    obtain ⟨hc, hl⟩ := List.nodup_cons.1 hl
    rw [List.foldl_cons, ih hl (hQ s c hs)]
    by_cases e : d = c
    · subst e
      rw [if_neg hc, if_pos (List.mem_cons_self ..), hsame s d hs]
    · rw [hne s c d hs e]
      simp [e]

theorem mem_allCells (c : CellRef) : c ∈ allCells := List.mem_finRange c

theorem nodup_allCells : allCells.Nodup := List.nodup_finRange 24

theorem mem_cellsOf {p : Phase} {c : CellRef} : c ∈ cellsOf p ↔ phaseOf c = p := by
  simp [cellsOf, mem_allCells]

theorem nodup_cellsOf (p : Phase) : (cellsOf p).Nodup := nodup_allCells.filter _

/-- An operation taken over every record changes every record. -/
theorem foldl_allCells_cell {f : State → CellRef → State} {g : CellRef → Cell → Cell} (Q : State → Prop)
    (hQ : ∀ s c, Q s → Q (f s c)) (hsame : ∀ s c, Q s → (f s c).cell c = g c (s.cell c))
    (hne : ∀ s c d, Q s → d ≠ c → (f s c).cell d = s.cell d) {s : State} (hs : Q s) (d : CellRef) :
    (allCells.foldl f s).cell d = g d (s.cell d) := by
  rw [foldl_cell Q hQ hsame hne nodup_allCells hs, if_pos (mem_allCells d)]

/-! ### The reshaping of a phase (R3) -/

/-- What a new installed count makes of a record. -/
def reshapedCell (n : Nat) (c : CellRef) (x : Cell) : Cell :=
  if positionOf c ≤ n then (if x.service ≠ .vacant then x else Cell.empty .awaiting)
  else if x.service ≠ .vacant then Cell.empty .vacant else x

/-- The position leaves the installed range. -/
abbrev Leaves (n : Nat) (s : State) (c : CellRef) : Prop := n < positionOf c ∧ s.installed c = true

theorem withdrawNotice_notices (c : CellRef) (s : State) :
    (withdrawNotice c s).notices.cells = s.notices.cells.filter (·.cell ≠ c) := by
  unfold withdrawNotice
  dsimp only
  split <;> rfl

theorem withdrawNotice_cell (c d : CellRef) (s : State) : (withdrawNotice c s).cell d = s.cell d := by
  simp [State.cell]

theorem reshapeCell_leaves {n : Nat} {s : State} {c : CellRef} (h : Leaves n s c) :
    reshapeCell n s c = withdrawNotice c { s.setCell c (Cell.empty .vacant) with
      queue := s.queue.filter (·.cell ≠ c) } := by
  unfold reshapeCell
  rw [if_neg (Nat.not_le.2 h.1), if_pos h.2]
  rfl

/-- A position that does not leave the range changes in its record alone. -/
theorem reshapeCell_stays {n : Nat} {s : State} {c : CellRef} (h : ¬Leaves n s c) :
    reshapeCell n s c = s.setCell c (reshapedCell n c (s.cell c)) ∨ reshapeCell n s c = s := by
  unfold reshapeCell
  by_cases hn : positionOf c ≤ n
  · rw [if_pos hn]
    split
    · exact .inr rfl
    · next hi =>
      rw [installed_iff, not_not] at hi
      exact .inl (by simp [reshapedCell, hn, hi])
  · rw [if_neg hn, if_neg fun hi => h ⟨Nat.not_le.1 hn, hi⟩]
    exact .inr rfl

theorem reshapeCell_same (n : Nat) (s : State) (c : CellRef) :
    (reshapeCell n s c).cell c = reshapedCell n c (s.cell c) := by
  unfold reshapeCell reshapedCell
  simp only [installed_iff]
  (repeat' split)
  · rfl
  · simp
  · rw [withdrawNotice_cell]
    exact cell_setCell_same s c _
  · rfl

theorem reshapeCell_ne (n : Nat) (s : State) (c d : CellRef) (h : d ≠ c) : (reshapeCell n s c).cell d = s.cell d := by
  by_cases hl : Leaves n s c
  · rw [reshapeCell_leaves hl, withdrawNotice_cell]
    exact cell_setCell_ne s c d _ h
  · rcases reshapeCell_stays hl with e | e <;> rw [e]
    exact cell_setCell_ne s c d _ h

theorem mem_reshapeCell_queue (n : Nat) (s : State) (c : CellRef) (e : QueueEntry) :
    e ∈ (reshapeCell n s c).queue ↔ e ∈ s.queue ∧ ¬(e.cell = c ∧ Leaves n s c) := by
  by_cases hl : Leaves n s c
  · simp [reshapeCell_leaves hl, hl]
  · rcases reshapeCell_stays hl with h | h <;> simp [h, hl]

theorem mem_reshapeCell_notices (n : Nat) (s : State) (c : CellRef) (q : CellNotice) :
    q ∈ (reshapeCell n s c).notices.cells ↔ q ∈ s.notices.cells ∧ ¬(q.cell = c ∧ Leaves n s c) := by
  by_cases hl : Leaves n s c
  · simp [reshapeCell_leaves hl, withdrawNotice_notices, hl]
  · rcases reshapeCell_stays hl with h | h <;> simp [h, hl]

theorem reshapeCell_keeps (n : Nat) (s : State) (c : CellRef) :
    (reshapeCell n s c).store = s.store ∧ (reshapeCell n s c).seq = s.seq ∧ (reshapeCell n s c).link = s.link := by
  by_cases hl : Leaves n s c
  · simp [reshapeCell_leaves hl]
  · rcases reshapeCell_stays hl with h | h <;> simp [h]

/-- What holds of an item that each position which leaves takes away, holds of the whole list of positions. -/
theorem mem_foldl_reshapeCell {α : Type} {items : State → List α} {at_ : α → CellRef} {n : Nat}
    (h1 : ∀ s c e, e ∈ items (reshapeCell n s c) ↔ e ∈ items s ∧ ¬(at_ e = c ∧ Leaves n s c)) {l : List CellRef}
    (hl : l.Nodup) (s : State) (e : α) :
    e ∈ items (l.foldl (reshapeCell n) s) ↔ e ∈ items s ∧ ¬(at_ e ∈ l ∧ Leaves n s (at_ e)) := by
  induction l generalizing s with
  | nil => simp
  | cons c l ih =>
    obtain ⟨hc, hl⟩ := List.nodup_cons.1 hl
    rw [List.foldl_cons, ih hl, h1, List.mem_cons]
    by_cases he : at_ e = c
    · subst he
      simp [hc]
    · have hi : (reshapeCell n s c).installed (at_ e) = s.installed (at_ e) := by
        simp [State.installed, reshapeCell_ne n s c _ he]
      simp [he, Leaves, hi]

/-! ### Retiring and darkening every record -/

/-- What HALT and RESTART make of a record's service state (R21, R22). -/
def retiredCell (x : Cell) : Cell :=
  if x.service.working then
    { x with service := .awaiting, offset := none, dcDebounce := 0, flags := x.flags ||| ReportFlag.stateChanged.mask }
  else x

theorem retireCells_cell (s : State) (d : CellRef) : (retireCells s).cell d = retiredCell (s.cell d) := by
  have hw {x : Cell} (h : x.service.working = true) : x.service ≠ .awaiting := by
    intro e
    rw [e] at h
    exact absurd h (by decide)
  refine foldl_allCells_cell (f := retireCell) (g := fun _ => retiredCell) (fun _ => True) (fun _ _ _ => trivial)
    (fun s c _ => ?_) (fun s c d _ h => ?_) trivial d
  · unfold retireCell retiredCell
    split
    · next h => rw [setService_changed (hw h), setFlag_cell_same, cell_modCell_same]; rfl
    · rfl
  · unfold retireCell
    split
    · next hx => rw [setService_changed (hw hx), setFlag_cell_ne _ _ h, cell_modCell_ne _ _ _ _ h]
    · rfl

theorem darkenLinks_cell (s : State) (d : CellRef) :
    (darkenLinks s).cell d
      = { linkItems .dark none none s.now (s.cell d) with unsteadyCount := 0, dcDebounce := 0 } := cell_mapCells _ _ _

/-! ### The close of a campaign and the hold demand -/

theorem closeCampaign_none {s : State} (o : CampaignOutcome) (h : s.seq.campaign = none) : closeCampaign o s = (none, s) := by
  simp [closeCampaign, h]

theorem closeCampaign_some {s : State} {k : Campaign} (o : CampaignOutcome) (h : s.seq.campaign = some k) :
    closeCampaign o s = (some (closedWith s k o),
      dropCampaign { s with seq.campaign := none, seq.history := historyWith s (closedWith s k o) }) := by
  simp only [closeCampaign, h, appendHistory, List.length_append, List.length_singleton]

/-- In OFF the hold demand is on: HOLD_REQ is asserted, and its timer starts where it was not (R128, R129). -/
theorem followDemand_off_lock {s : State} (h : s.seq.state = .off) :
    (followDemand s).lock = { s.lock with
      holdReq := true
      holdTimer := if s.lock.holdReq then s.lock.holdTimer
        else if cfgHoldMinimum s.store.image = 0 then none else some s.now
      holdMet := if s.lock.holdReq then s.lock.holdMet else decide (cfgHoldMinimum s.store.image = 0) } := by
  have hd : holdDemand s = true := by simp [holdDemand, h]
  unfold followDemand
  rw [if_pos hd]
  cases hr : s.lock.holdReq
  · by_cases h0 : cfgHoldMinimum s.store.image = 0 <;> simp [h0]
  · rw [if_pos rfl, if_pos rfl, if_pos rfl, ← hr]

/-! ### The soft reset -/

theorem softReset_cell (s : State) (d : CellRef) :
    (softReset s).cell d = { linkItems .dark none none s.now { retiredCell (s.cell d) with isolation := none } with
      unsteadyCount := 0, dcDebounce := 0 } := by
  have e : (softReset s).cells = (darkenLinks (retireCells
      ((dropCampaign (closeCampaign .abandoned s).2).mapCells fun _ x => { x with isolation := none }))).cells := by
    unfold softReset
    rw [followDemand_cells]
  have hc : (dropCampaign (closeCampaign .abandoned s).2).cell d = s.cell d := by simp [State.cell]
  rw [cell_of_cells e, darkenLinks_cell, retireCells_cell, cell_mapCells, hc]
  have hn : (retireCells ((dropCampaign (closeCampaign .abandoned s).2).mapCells
      fun _ x => { x with isolation := none })).now = s.now := by simp [State.now]
  rw [hn]
  by_cases hw : (s.cell d).service.working = true <;> simp [retiredCell, linkItems, hw]

/-- A soft reset leaves the link with nothing to do. -/
theorem settle_softReset (s : State) : settle (softReset s) = softReset s := by
  have hl : (softReset s).link = State.reset.link := by unfold softReset; rw [followDemand_link]; rfl
  have hn : (softReset s).notices = State.reset.notices := by unfold softReset; rw [followDemand_notices]; rfl
  rw [settle_empty (by rw [hl]; rfl)]
  simp [pump, hl, hn, State.reset]

end Sys2Proof.Machine

open Sys2Proof Sys2Proof.Machine

/-- Settles O15, record by record over the positions of the phase. -/
theorem installedCountReshapesThePhase : Obligations.InstalledCountReshapesThePhase := by
  unfold Obligations.InstalledCountReshapesThePhase
  intro p n s
  have hcell (d : CellRef) : (reshape p n s).cell d = if d ∈ cellsOf p then reshapedCell n d (s.cell d) else s.cell d :=
    foldl_cell (fun _ => True) (fun _ _ _ => trivial) (fun s c _ => reshapeCell_same n s c)
      (fun s c d _ => reshapeCell_ne n s c d) (nodup_cellsOf p) trivial d
  have hkeep : (reshape p n s).store = s.store ∧ (reshape p n s).seq = s.seq ∧ (reshape p n s).link = s.link := by
    refine List.foldlRecOn (cellsOf p) (reshapeCell n) (motive := fun t => t.store = s.store ∧ t.seq = s.seq ∧ t.link = s.link)
      ⟨rfl, rfl, rfl⟩ fun t ⟨h1, h2, h3⟩ c _ => ?_
    obtain ⟨k1, k2, k3⟩ := reshapeCell_keeps n t c
    exact ⟨k1.trans h1, k2.trans h2, k3.trans h3⟩
  refine ⟨fun d hd => ?_, fun d hd => ?_, fun e => ?_, fun q => ?_, hkeep⟩
  · rw [hcell, if_neg (mt mem_cellsOf.1 hd)]
  · rw [hcell, if_pos (mem_cellsOf.2 hd)]
    simp only [reshapedCell, installed_iff]
  · rw [← mem_cellsOf]
    exact mem_foldl_reshapeCell (items := State.queue) (mem_reshapeCell_queue n) (nodup_cellsOf p) s e
  · rw [← mem_cellsOf]
    exact mem_foldl_reshapeCell (items := fun s => s.notices.cells) (mem_reshapeCell_notices n) (nodup_cellsOf p) s q

/-- Settles O10: the soft reset, block by block and record by record. -/
theorem restartOkSentResetsSoftly : Obligations.RestartOkSentResetsSoftly := by
  unfold Obligations.RestartOkSentResetsSoftly
  intro x s c hx hp ht hb hc
  have hok : sendingRestartOk s = true := by simp [sendingRestartOk, hx, hp, ht, hb]
  have he : exec c s = .next (softReset s) := by
    rw [← settle_softReset]
    rcases hc with rfl | rfl
    · show Host.Outcome.next (settle (frameSent s)) = _
      simp [frameSent, hx, hok]
    · show Host.Outcome.next (settle (if sendingRestartOk s then softReset s else s)) = _
      rw [if_pos hok]
  refine ⟨softReset s, he, ?_⟩
  have hseq : (softReset s).seq = { s.seq with
      state := .off, scale := 0, heldHalt := false, watch := none, rephase := none, enrolRun := false, campaign := none
      history := match s.seq.campaign with
        | some k => historyWith s (closedWith s k .abandoned)
        | none => s.seq.history } := by
    unfold softReset
    rw [followDemand_seq]
    cases hk : s.seq.campaign with
    | none => simp [closeCampaign_none _ hk, dropCampaign, hk]
    | some k => simp [closeCampaign_some _ hk, dropCampaign]
  have hlock : (softReset s).lock = { s.lock with
      hoist := none, resumeTimer := none, rampCount := 0, holdMark := false, rideThrough := none, budgetSpent := false
      brakeConfirm := none, holdReq := true
      holdTimer := if s.lock.holdReq then s.lock.holdTimer
        else if cfgHoldMinimum s.store.image = 0 then none else some s.now
      holdMet := if s.lock.holdReq then s.lock.holdMet else decide (cfgHoldMinimum s.store.image = 0) } := by
    unfold softReset
    rw [followDemand_off_lock rfl]
    cases hk : s.seq.campaign with
    | none => simp [closeCampaign_none _ hk, dropCampaign, State.now]
    | some k => simp [closeCampaign_some _ hk, dropCampaign, State.now]
  have hrest : (softReset s).store = { s.store with mode := .config, frozen := false, storedCrc := none, selfTest := none }
      ∧ (softReset s).gen = s.gen ∧ (softReset s).queue = s.queue ∧ (softReset s).pending = s.pending := by
    unfold softReset
    simp
  obtain ⟨hstore, hgen, hqueue, hpend⟩ := hrest
  rw [hseq, hlock]
  refine ⟨hstore, hgen, ?_, ?_, ?_, ?_, hqueue, hpend, rfl, rfl, rfl, rfl, rfl, rfl, rfl, rfl, rfl, rfl, rfl, rfl, rfl, rfl,
    rfl, rfl, rfl, rfl, rfl, rfl, rfl, rfl, rfl, ?_, ?_, ?_, fun d => ?_⟩
  · unfold softReset; rw [followDemand_rings]
  · unfold softReset; rw [followDemand_link]; rfl
  · unfold softReset; rw [followDemand_notices]; rfl
  · unfold softReset; rw [followDemand_plans]
  · intro hr; simp [hr]
  · intro hr h0; simp [hr, Nat.ne_of_gt h0, State.now]
  · intro hr h0; simp [hr, h0]
  · rw [softReset_cell]
    by_cases hw : (s.cell d).service.working = true <;> simp [retiredCell, linkItems, hw]
end


section
/-! PROOFS. What no event of the rings and of the sequencer touches. `Keeps s t` lists the items of the device that a slot's
end, the sequencer's part of a cycle start and the isolation timers leave as they were, whatever they do: the link but for its
reply list, the cycle generator, the settings, the inputs, the frames in progress and the waiting commands. -/

namespace Sys2Proof.Machine

open Sys2Proof

/-- What the sequencer, the fault intake and the ring controllers leave as it was. -/
structure Keeps (s t : State) : Prop where
  link : t.link = { s.link with replies := t.link.replies }
  rings : t.rings = { s.rings with healthOn := t.rings.healthOn, mail := t.rings.mail }
  store : t.store = { s.store with mode := t.store.mode }
  gen : t.gen = s.gen
  pending : t.pending = s.pending
  driveRun : t.lock.driveRun = s.lock.driveRun
  brakeSet : t.lock.brakeSet = s.lock.brakeSet
  hoist : t.lock.hoist = s.lock.hoist
  /-- An exchange in flight was in flight, with the same cell. -/
  mail : ∀ p x, t.rings.mail.get p = some x → ∃ y, s.rings.mail.get p = some y ∧ y.cell = x.cell

namespace Keeps

theorem refl (s : State) : Keeps s s := ⟨rfl, rfl, rfl, rfl, rfl, rfl, rfl, rfl, fun _ x h => ⟨x, h, rfl⟩⟩

theorem trans {s t u : State} (h : Keeps s t) (k : Keeps t u) : Keeps s u where
  link := by rw [k.link, h.link]
  rings := by rw [k.rings, h.rings]
  store := by rw [k.store, h.store]
  gen := k.gen.trans h.gen
  pending := k.pending.trans h.pending
  driveRun := k.driveRun.trans h.driveRun
  brakeSet := k.brakeSet.trans h.brakeSet
  hoist := k.hoist.trans h.hoist
  mail := fun p x hx => by
    obtain ⟨y, hy, hc⟩ := k.mail p x hx
    obtain ⟨z, hz, hd⟩ := h.mail p y hy
    exact ⟨z, hz, hd.trans hc⟩

theorem after {s t u : State} (k : Keeps t u) (h : Keeps s t) : Keeps s u := h.trans k

/-- An operation that leaves the link, the rings and the settings alone, and the inputs. -/
theorem of_eq {s t : State} (hl : t.link = s.link) (hr : t.rings = s.rings) (hs : t.store = s.store) (hg : t.gen = s.gen)
    (hp : t.pending = s.pending)
    (hk : t.lock.driveRun = s.lock.driveRun ∧ t.lock.brakeSet = s.lock.brakeSet ∧ t.lock.hoist = s.lock.hoist) :
    Keeps s t where
  link := by rw [hl]
  rings := by rw [hr]
  store := by rw [hs]
  gen := hg
  pending := hp
  driveRun := hk.1
  brakeSet := hk.2.1
  hoist := hk.2.2
  mail := fun p x hx => ⟨x, by rw [← hr]; exact hx, rfl⟩

/-- An operation that leaves the link, the rings, the settings and the interlock unit alone. -/
theorem of_lock {s t : State} (hl : t.link = s.link) (hr : t.rings = s.rings) (hs : t.store = s.store) (hg : t.gen = s.gen)
    (hp : t.pending = s.pending) (hk : t.lock = s.lock) : Keeps s t :=
  of_eq hl hr hs hg hp (by rw [hk]; exact ⟨rfl, rfl, rfl⟩)

theorem seq (s : State) (q : Sequencer) : Keeps s { s with seq := q } := of_lock rfl rfl rfl rfl rfl rfl

theorem queue (s : State) (l : List QueueEntry) : Keeps s { s with queue := l } := of_lock rfl rfl rfl rfl rfl rfl

theorem plans (s : State) (u : PlanUnit) : Keeps s { s with plans := u } := of_lock rfl rfl rfl rfl rfl rfl

theorem plans_seq (s : State) (u : PlanUnit) (q : Sequencer) : Keeps s { s with plans := u, seq := q } :=
  of_lock rfl rfl rfl rfl rfl rfl

/-- The interlock unit's items beside its inputs. -/
theorem lock (s : State) (l : Interlock)
    (h : l.driveRun = s.lock.driveRun ∧ l.brakeSet = s.lock.brakeSet ∧ l.hoist = s.lock.hoist) :
    Keeps s { s with lock := l } := of_eq rfl rfl rfl rfl rfl h

theorem seq_lock (s : State) (q : Sequencer) (l : Interlock)
    (h : l.driveRun = s.lock.driveRun ∧ l.brakeSet = s.lock.brakeSet ∧ l.hoist = s.lock.hoist) :
    Keeps s { s with seq := q, lock := l } := of_eq rfl rfl rfl rfl rfl h

theorem image {s t : State} (h : Keeps s t) : t.store.image = s.store.image := by rw [h.store]

theorem quiet {s t : State} (h : Keeps s t) (hq : Quiet s) : Quiet t := by
  unfold Quiet
  rw [h.link]
  exact hq

/-- What a step whose event keeps the link quiet ends with. -/
theorem settle {s t : State} (h : Keeps s t) (hq : Quiet s) : settle t = t := settle_quiet (h.quiet hq)

theorem foldl {α : Type} {f : State → α → State} (hf : ∀ s a, Keeps s (f s a)) (l : List α) (s : State) :
    Keeps s (l.foldl f s) :=
  List.foldlRecOn (motive := Keeps s) l f (refl s) fun _ h a _ => h.trans (hf _ a)

end Keeps

/-! ### Flags, links and service states -/

theorem keeps_setFlag (f : ReportFlag) (c : CellRef) (s : State) : Keeps s (setFlag f c s) :=
  .of_lock (by simp) (by simp) (by simp) (by simp) (by simp) (by simp)

theorem keeps_modCell (c : CellRef) (f : Cell → Cell) (s : State) : Keeps s (s.modCell c f) :=
  .of_lock rfl rfl rfl rfl rfl rfl

theorem Rings.get_set {α : Type} (r : Rings α) (p q : Phase) (x : α) :
    (r.set p x).get q = if q = p then x else r.get q := by
  cases p <;> cases q <;> rfl

/-- An exchange ends with its mailbox EMPTY and its reply. -/
theorem keeps_endExchange (p : Phase) (k : ReplyCode) (s : State) : Keeps s (endExchange p k s) := by
  unfold endExchange
  split
  · exact .refl s
  · refine ⟨rfl, rfl, rfl, rfl, rfl, rfl, rfl, rfl, fun q y hy => ?_⟩
    have hy : (s.rings.mail.set p none).get q = some y := hy
    rw [Rings.get_set] at hy
    split at hy
    · cases hy
    · exact ⟨y, hy, rfl⟩

theorem keeps_abortExchanges (s : State) : Keeps s (abortExchanges s) := .foldl (fun s p => keeps_endExchange p _ s) _ s

theorem keeps_enterLink (l : LinkState) (a : Option Ability) (k : Option RejectCause) (c : CellRef) (s : State) :
    Keeps s (enterLink l a k c s) := by
  have hm := keeps_modCell c (linkItems l a k s.now) s
  unfold enterLink endExchangeWith
  dsimp only
  split
  · split
    · split
      · exact hm.trans (keeps_endExchange _ _ _)
      · exact hm
    · exact hm
  · exact hm

theorem keeps_setService (v : Service) (c : CellRef) (s : State) : Keeps s (setService v c s) :=
  .of_lock (by simp) (by simp) (by simp) (by simp) (by simp) (by simp)

theorem keeps_strikeAndBypass (c : CellRef) (s : State) : Keeps s (strikeAndBypass c s) :=
  .of_lock (by simp) (by simp) (by simp) (by simp) (by simp) (by simp)

/-! ### The sequencer -/

theorem keeps_postUrgent (n : Urgent) (s : State) : Keeps s (postUrgent n s) :=
  .of_lock (by simp) (by simp) (by simp) (by simp) (by simp) (by simp)

theorem keeps_postOpen (s : State) : Keeps s (postOpen s) := keeps_postUrgent _ s

theorem followDemand_inputs (s : State) : (followDemand s).lock.driveRun = s.lock.driveRun
    ∧ (followDemand s).lock.brakeSet = s.lock.brakeSet ∧ (followDemand s).lock.hoist = s.lock.hoist := by
  unfold followDemand
  (repeat' split) <;> exact ⟨rfl, rfl, rfl⟩

theorem keeps_syncLines (b : Bool) (s : State) : Keeps s (syncLines b s) := by
  refine .of_eq (by simp) (by simp) (by simp) (by simp) (by simp) ?_
  unfold syncLines
  dsimp only
  split
  · exact followDemand_inputs _
  · rw [postLines_lock]; exact followDemand_inputs _

theorem keeps_setSeq (st : SeqState) (s : State) : Keeps s (setSeq st s) := by
  have h : Keeps s (if s.seq.state = .ready ∧ st ≠ .ready then abortExchanges s else s) := by
    split
    · exact keeps_abortExchanges s
    · exact .refl s
  exact h.trans (.of_lock rfl rfl rfl rfl rfl rfl)

theorem keeps_dropStage (s : State) : Keeps s (dropStage s) :=
  .of_eq (by simp) (by simp) (by simp) (by simp) (by simp) (by rw [dropStage_lock]; exact ⟨rfl, rfl, rfl⟩)

theorem keeps_closeCampaign (o : CampaignOutcome) (s : State) : Keeps s (closeCampaign o s).2 := by
  unfold closeCampaign
  split
  · exact .refl s
  · exact .of_eq rfl rfl rfl rfl rfl ⟨rfl, rfl, rfl⟩

theorem keeps_darkenLinks (s : State) : Keeps s (darkenLinks s) :=
  .of_lock (by simp) (by simp) (by simp) (by simp) (by simp) (by simp)

theorem keeps_retireCells (s : State) : Keeps s (retireCells s) :=
  .of_lock (by simp) (by simp) (by simp) (by simp) (by simp) (by simp)

theorem keeps_modCampaign (f : Campaign → Campaign) (s : State) : Keeps s (modCampaign f s) := .seq s _

theorem keeps_discardPending (s : State) : Keeps s (discardPending s) := (keeps_modCampaign _ _).after (.plans s _)

theorem keeps_haltDevice (k : ModeCause) (s : State) : Keeps s (haltDevice k s) := by
  refine (keeps_retireCells _).after ((keeps_darkenLinks _).after ((keeps_postUrgent _ _).after ?_))
  exact ⟨rfl, rfl, rfl, rfl, rfl, rfl, rfl, rfl, fun _ x h => ⟨x, h, rfl⟩⟩

theorem keeps_enterStopped (st : SeqState) (r : Option CampaignRecord) (s : State) : Keeps s (enterStopped st r s) := by
  have h (st : SeqState) : Keeps s (syncLines true (postCampaign r (setSeq st s))) :=
    ((keeps_setSeq st s).trans (keeps_postUrgent _ _)).trans (keeps_syncLines _ _)
  unfold enterStopped
  split
  · exact (h .off).trans (keeps_haltDevice _ _)
  · exact h st

theorem keeps_trip (k : TripCause) (s : State) : Keeps s (trip k s) := by
  by_cases hs : s.seq.state = .off ∨ s.seq.state = .tripped ∨ s.seq.state = .locked
  · rw [trip_stopped k hs]; exact .refl s
  · rw [trip_running k hs]
    exact (keeps_enterStopped _ _ _).after ((keeps_closeCampaign _ _).after ((keeps_discardPending _).after
      ((keeps_dropStage _).after (.seq s _))))

theorem keeps_completeCampaign (s : State) : Keeps s (completeCampaign s) := by
  have h := (keeps_dropStage s).trans (keeps_closeCampaign .completed _)
  unfold completeCampaign
  dsimp only
  split
  · exact (((h.trans (keeps_setSeq _ _)).trans (keeps_postUrgent _ _)).trans (keeps_haltDevice _ _)).trans
      (keeps_syncLines _ _)
  · exact ((h.trans (keeps_setSeq _ _)).trans (keeps_postUrgent _ _)).trans (keeps_syncLines _ _)

theorem keeps_toHeld (s : State) : Keeps s (toHeld s) := .of_eq rfl rfl rfl rfl rfl ⟨rfl, rfl, rfl⟩

theorem keeps_blockStyle (b : Bool) (s : State) : Keeps s (blockStyle b s) := by
  unfold blockStyle
  split
  · split
    · unfold decideStyle
      split
      · exact .of_lock rfl rfl rfl rfl rfl rfl
      · split
        · exact .of_eq rfl rfl rfl rfl rfl ⟨rfl, rfl, rfl⟩
        · exact keeps_toHeld s
    · unfold restyle
      split
      · exact keeps_toHeld s
      · exact .refl s
  · exact .refl s

theorem keeps_enterBlock (b : Bool) (s : State) : Keeps s (enterBlock b s) := by
  have h := (keeps_dropStage s).trans (keeps_setSeq .block _)
  unfold enterBlock
  dsimp only
  split
  · exact (keeps_syncLines _ _).after ((keeps_postOpen _).after ((Keeps.seq _ _).after (h.trans (keeps_blockStyle b _))))
  · exact (h.trans (keeps_postOpen _)).trans (keeps_trip _ _)

theorem keeps_openCampaign (k : CampaignKind) (s : State) : Keeps s (openCampaign k s) :=
  (keeps_enterBlock true _).after (.seq_lock s _ _ ⟨rfl, rfl, rfl⟩)

theorem keeps_openFault (s : State) : Keeps s (openFault s) := by
  unfold openFault
  split
  · exact (keeps_openCampaign _ _).after (.seq s _)
  · exact (keeps_enterStopped _ _ _).after (.seq s _)

theorem keeps_enterPlan (s : State) : Keeps s (enterPlan s) := by
  have h := (keeps_dropStage s).trans (keeps_setSeq .plan _)
  unfold enterPlan
  dsimp only
  split
  · exact (h.trans (keeps_postOpen _)).trans (keeps_trip _ _)
  · exact (keeps_postOpen _).after ((Keeps.plans_seq _ _ _).after ((keeps_modCampaign _ _).after h))

theorem keeps_beginIsolation (s : State) (c : CellRef) : Keeps s (beginIsolation s c) := keeps_modCell c _ s

theorem keeps_enterIsolate (s : State) : Keeps s (enterIsolate s) := by
  have h := ((keeps_dropStage s).trans (keeps_setSeq .isolate _)).trans (keeps_postOpen _)
  unfold enterIsolate
  dsimp only
  split
  · exact h.trans (keeps_enterPlan _)
  · exact h.trans (.foldl keeps_beginIsolation _ _)

theorem keeps_isolateCheck (s : State) : Keeps s (isolateCheck s) := by
  unfold isolateCheck
  split
  · exact keeps_enterPlan s
  · exact .refl s

theorem keeps_acceptBypass (b : Bool) (c : CellRef) (s : State) : Keeps s (acceptBypass b c s) :=
  (keeps_isolateCheck _).after ((keeps_strikeAndBypass c _).after ((Keeps.queue _ _).after (keeps_modCell c _ s)))

theorem keeps_blockCheck (s : State) : Keeps s (blockCheck s) := by
  rcases blockCheck_cases s with ⟨_, e⟩ | ⟨w, left, _, _, e | ⟨_, _, _, _, e⟩⟩ <;> rw [e]
  · exact .refl s
  · exact .seq s _
  · exact (keeps_enterIsolate _).after (.seq s _)

theorem keeps_reenterBlock (c : CellRef) (s : State) : Keeps s (reenterBlock c s) := by
  unfold reenterBlock
  split
  · exact .refl s
  · split
    · exact keeps_trip _ s
    · exact (keeps_enterBlock _ _).after ((keeps_modCampaign _ _).after ((keeps_discardPending _).after
        (keeps_modCampaign _ s)))

theorem keeps_told (c : CellRef) (s : State) : Keeps s (told c s) := by
  unfold told
  split
  · exact keeps_openFault s
  · exact keeps_modCampaign _ s
  · exact (keeps_beginIsolation _ c).after (keeps_modCampaign _ s)
  iterate 4 exact keeps_reenterBlock c s
  iterate 3 exact .refl s

theorem keeps_applyPlan (p : Plan) (s : State) : Keeps s (applyPlan p s) := by
  refine Keeps.after (.foldl (fun s c => ?_) allCells _) (.plans s _)
  unfold applyToCell
  split
  · exact (keeps_setService _ c s).trans (keeps_modCell c _ _)
  · split
    · exact keeps_setService _ c s
    · exact .refl s

theorem keeps_confirmPlan (p : Plan) (s : State) : Keeps s (confirmPlan p s) := by
  have h := (keeps_applyPlan p s).trans (keeps_postUrgent (.plan p.tag p.m p.voltage p.speed) _)
  have hu := h.trans (keeps_modCampaign (fun k => { k with pendingTag := none }) _)
  unfold confirmPlan
  dsimp only
  split
  · refine (keeps_postOpen _).after ((keeps_setSeq _ _).after (.trans (hu.trans (keeps_dropStage _)) ?_))
    exact .lock _ _ ⟨rfl, rfl, rfl⟩
  · exact hu.trans (keeps_completeCampaign _)

theorem keeps_enterRephase (s : State) : Keeps s (enterRephase s) := by
  unfold enterRephase
  split
  · exact .refl s
  · exact (keeps_postOpen _).after ((keeps_setSeq _ _).after ((Keeps.seq _ _).after (keeps_modCampaign _ s)))

/-! ### The fault intake -/

theorem keeps_makeFaulted (k : FaultClass) (detail : Byte) (c : CellRef) (s : State) :
    Keeps s (makeFaulted k detail c s) := by
  unfold makeFaulted
  exact keeps_modCell c _ s

theorem keeps_tripOnBypassFail (k : FaultClass) (s : State) : Keeps s (tripOnBypassFail k s) := by
  unfold tripOnBypassFail
  split
  · exact keeps_trip _ s
  · exact .refl s

theorem keeps_queuedRoute (k : FaultClass) (detail : Byte) (c : CellRef) (s : State) :
    Keeps s (queuedRoute k detail c s) := by
  have hf : Keeps s (if k = .bypassFail then trip .bypassFail (makeFaulted k detail c s) else makeFaulted k detail c s) := by
    split
    · exact (keeps_makeFaulted k detail c s).trans (keeps_trip _ _)
    · exact keeps_makeFaulted k detail c s
  exact (keeps_told c _).after ((keeps_setFlag _ c _).after ((keeps_setFlag _ c _).after ((Keeps.queue _ _).after hf)))

theorem keeps_directRoute (k : FaultClass) (detail : Byte) (c : CellRef) (s : State) :
    Keeps s (directRoute k detail c s) :=
  ((keeps_modCell c _ s).trans (keeps_strikeAndBypass c _)).trans (keeps_setFlag _ c _)

theorem keeps_furtherFault (k : FaultClass) (detail : Byte) (c : CellRef) (s : State) :
    Keeps s (furtherFault k detail c s) := by
  unfold furtherFault
  split
  · exact (keeps_modCell c _ s).trans (keeps_setFlag _ c _)
  · split
    · exact (keeps_setFlag _ c _).after ((Keeps.queue _ _).after (keeps_modCell c _ s))
    · exact .refl s

theorem keeps_takeFault (k : FaultClass) (detail : Byte) (named : Bool) (c : CellRef) (s : State) :
    Keeps s (takeFault k detail named c s) := by
  have hf := (keeps_furtherFault k (recordedDetail s.store.image k detail) c s).trans (keeps_tripOnBypassFail k _)
  unfold takeFault
  split
  · exact .refl s
  · dsimp only
    split
    · exact .refl s
    · exact keeps_tripOnBypassFail k s
    · exact keeps_queuedRoute k _ c s
    · split
      · exact keeps_directRoute k _ c s
      · exact keeps_queuedRoute k _ c s
    iterate 3 exact hf

/-! ### A cycle start -/

theorem keeps_watchCycle (s : State) : Keeps s (watchCycle s) := by
  unfold watchCycle
  split
  · exact .refl s
  · dsimp only
    split
    · exact (keeps_blockCheck _).after (Keeps.after (.foldl (fun s c => keeps_takeFault _ _ _ c s) _ _) (.seq s _))
    · exact (keeps_blockCheck _).after (.seq s _)

theorem keeps_failEpoch (p : Plan) (r : Rephase) (s : State) : Keeps s (failEpoch p r s) := by
  unfold failEpoch
  dsimp only
  split
  · exact (Keeps.seq _ _).after (keeps_modCampaign _ s)
  · split
    · exact (keeps_blockCheck _).after (.foldl (fun s c => keeps_takeFault _ _ _ c s) _ s)
    · exact keeps_trip _ s

theorem keeps_epochStep (s : State) : Keeps s (epochStep s) := by
  unfold epochStep
  split
  · split
    · split
      · exact keeps_confirmPlan _ s
      · exact keeps_failEpoch _ _ s
    · exact .refl s
  · exact .refl s

theorem keeps_seqCycle (s : State) : Keeps s (seqCycle s) := by
  unfold seqCycle
  split
  · exact keeps_watchCycle s
  · exact keeps_enterRephase s
  · exact keeps_epochStep s
  · unfold rampStep
    dsimp only
    split
    · exact (keeps_completeCampaign _).after (.seq_lock s _ _ ⟨rfl, rfl, rfl⟩)
    · exact .seq_lock s _ _ ⟨rfl, rfl, rfl⟩
  iterate 6 exact .refl s

/-! ### The end of a slot -/

theorem keeps_failAttempt (c : CellRef) (s : State) : Keeps s (failAttempt c s) := by
  have h := keeps_modCell c (fun x => { x with unsteadyCount := min 3 ((s.cell c).unsteadyCount + 1) }) s
  unfold failAttempt
  dsimp only
  split
  · exact (h.trans (keeps_enterLink _ _ _ c _)).trans (keeps_setFlag _ c _)
  · exact h.trans (keeps_enterLink _ _ _ c _)

theorem keeps_completeEnrolment (c : CellRef) (s : State) : Keeps s (completeEnrolment c s) := by
  have ha (u : State) : Keeps u (admitAwaiting c u) := by
    unfold admitAwaiting
    dsimp only
    split
    · exact keeps_setService _ c u
    · exact .refl u
  unfold completeEnrolment
  exact ((((keeps_enterLink _ _ _ c s).trans (keeps_modCell c _ _)).trans (keeps_setFlag _ c _)).trans (ha _)).trans
    (keeps_modCell c _ _)

theorem keeps_linkValid (c : CellRef) (r : Response) (s : State) : Keeps s (linkValid c r s) := by
  unfold linkValid
  split
  · split
    · unfold takeAbility
      split
      · exact keeps_enterLink _ _ _ c s
      · exact (keeps_enterLink _ _ _ c s).trans (keeps_setFlag _ c _)
    · exact .refl s
  · split
    · split
      · exact keeps_enterLink _ _ _ c s
      · exact .refl s
    · exact .refl s
  · split
    · unfold trialStep
      split
      · exact keeps_completeEnrolment c s
      · exact keeps_modCell c _ s
    · exact keeps_failAttempt c s
  · exact keeps_modCell c _ s
  · unfold relinkStep
    dsimp only
    (repeat' split)
    · exact .refl s
    · exact keeps_modCell c _ s
    · exact (keeps_modCell c _ s).trans (keeps_setFlag _ c _)
    · exact keeps_enterLink _ _ _ c s
  · exact .refl s
  · exact .refl s

theorem keeps_warnMiss (n : Nat) (c : CellRef) (s : State) : Keeps s (warnMiss n c s) := by
  have h : Keeps s (if 60 ≤ n ∧ (s.cell c).degradedArmed then
      setFlag .degraded c (s.modCell c fun x => { x with degradedArmed := false }) else s) := by
    split
    · exact (keeps_modCell c _ s).trans (keeps_setFlag _ c _)
    · exact .refl s
  unfold warnMiss
  generalize (if 60 ≤ n ∧ (s.cell c).degradedArmed then
    setFlag .degraded c (s.modCell c fun x => { x with degradedArmed := false }) else s) = t at h ⊢
  dsimp only
  split
  · exact h.trans ((keeps_modCell c _ t).trans (keeps_setFlag _ c _))
  · exact h

theorem keeps_raiseMiss (c : CellRef) (s : State) : Keeps s (raiseMiss c s) := by
  unfold raiseMiss
  dsimp only
  generalize min 240 ((s.cell c).missCount + 6) = n
  have h := (keeps_warnMiss n c _).after (keeps_modCell c (fun x => { x with missCount := n }) s)
  split
  · unfold sever faultNow
    exact (keeps_takeFault _ _ _ c _).after ((keeps_setFlag _ c _).after ((keeps_enterLink _ _ _ c _).after h))
  · exact h

theorem keeps_linkMiss (c : CellRef) (s : State) : Keeps s (linkMiss c s) := by
  unfold linkMiss
  split
  · exact .refl s
  · exact .refl s
  · exact keeps_failAttempt c s
  · exact keeps_raiseMiss c s
  · exact keeps_modCell c _ s
  · exact .refl s
  · exact .refl s

theorem keeps_takeChunk (c : CellRef) (m : UpMessage) (s : State) : Keeps s (takeChunk c m s) := by
  unfold takeChunk
  dsimp only
  split
  · next final seq length data x hx =>
    split
    · exact .refl s
    · split
      · exact keeps_endExchange _ _ s
      · have h (y : Exchange) (hy : y.cell = x.cell) :
            Keeps s { s with rings.mail := s.rings.mail.set (phaseOf c) (some y) } := by
          refine ⟨rfl, rfl, rfl, rfl, rfl, rfl, rfl, rfl, fun q z hz => ?_⟩
          have hz : (s.rings.mail.set (phaseOf c) (some y)).get q = some z := hz
          rw [Rings.get_set] at hz
          split at hz
          · next e => cases hz; exact ⟨x, by rw [e]; exact hx, hy.symm⟩
          · exact ⟨z, hz, rfl⟩
        split
        · exact (keeps_endExchange _ _ _).after (h _ rfl)
        · split
          · exact (keeps_endExchange _ _ _).after (h _ rfl)
          · exact h _ rfl
  · exact .refl s

theorem keeps_dcCheck (c : CellRef) (x : Cell) (dc : Nat) (s : State) : Keeps s (dcCheck c x dc s) := by
  unfold dcCheck
  (repeat' split)
  · exact keeps_modCell c _ s
  · exact (keeps_modCell c _ s).trans (keeps_takeFault _ _ _ c _)
  · exact keeps_modCell c _ s
  · exact .refl s

theorem keeps_confirmBypass (c : CellRef) (x : Cell) (r : Response) (s : State) : Keeps s (confirmBypass c x r s) := by
  unfold confirmBypass
  (repeat' split)
  · exact keeps_acceptBypass _ c s
  · exact .refl s
  · exact .refl s

theorem keeps_confirmGateOff (c : CellRef) (r : Response) (s : State) : Keeps s (confirmGateOff c r s) := by
  unfold confirmGateOff
  (repeat' split) <;> exact .of_lock rfl rfl rfl rfl rfl rfl

theorem keeps_takeReported (c : CellRef) (r : Response) (s : State) : Keeps s (takeReported c r s) := by
  unfold takeReported
  split
  · exact .refl s
  · exact keeps_takeFault _ _ _ c s

theorem keeps_slotStep (c : CellRef) (seen : SlotSeen) (s : State) : Keeps s (slotStep c seen s) := by
  have hmiss (u : State) : Keeps u (takeMiss c u) := by
    have h := keeps_modCell c (fun x => { x with reportAge := min 255 (x.reportAge + 1) }) u
    unfold takeMiss
    dsimp only
    split
    · exact (h.trans (keeps_linkMiss c _)).trans (keeps_blockCheck _)
    · exact h.trans (keeps_blockCheck _)
  unfold slotStep
  split
  · split
    · next r _ =>
      have h := keeps_modCell c (fun x => { x with report := some (reportOf r s.now), reportAge := 0 }) s
      have hl (u : State) : Keeps u (blockCheck (confirmGateOff c r (confirmBypass c (s.cell c) r
          (dcCheck c (s.cell c) r.dc (takeReported c r (takeChunk c r.message u)))))) :=
        (((((keeps_takeChunk c _ u).trans (keeps_takeReported c r _)).trans (keeps_dcCheck c _ _ _)).trans
          (keeps_confirmBypass c _ r _)).trans (keeps_confirmGateOff c r _)).trans (keeps_blockCheck _)
      unfold takeValid
      dsimp only
      split
      · exact (h.trans (keeps_linkValid c r _)).trans (hl _)
      · exact h.trans (hl _)
    · exact hmiss s
    · exact (keeps_setFlag _ c s).trans (hmiss _)
    · exact hmiss s
  · exact .refl s

/-- With the link quiet, a slot's end is its effect alone. -/
theorem exec_slotEnd {s : State} (hq : Quiet s) (c : CellRef) (seen : SlotSeen) :
    exec (.slotEnd c seen) s = .next (slotStep c seen s) := congrArg _ ((keeps_slotStep c seen s).settle hq)

end Sys2Proof.Machine
end


section
/-! PROOFS. What the sequencer's entries do: one lemma for each shared operation (the lines, a trip, a BLOCK entry, the end of
BLOCK), which says the whole of what it writes. -/

namespace Sys2Proof.Machine

open Sys2Proof

/-! ### Posted notices -/

/-- A step that leaves the urgent list and the overrun flag posts nothing. -/
theorem posts_nil {s t : State} (hu : t.notices.urgent = s.notices.urgent) (ho : t.notices.overrun = s.notices.overrun) :
    Posts s t [] := by
  refine ⟨?_, ?_⟩
  · rw [hu]; simp
  · rw [ho]; simp

theorem posts_refl (s : State) : Posts s s [] := posts_nil rfl rfl

/-- What is posted rests on the notice queue at the step's start alone. -/
theorem posts_of_notices {s s' t : State} {l : List Urgent} (h : Posts s t l) (e : s.notices = s'.notices) : Posts s' t l := by
  unfold Posts at h ⊢
  rw [← e]; exact h

theorem postCampaign_posts (r : Option CampaignRecord) (s : State) :
    Posts s (postCampaign r s) [.campaign s.seq.state s.seq.tripCause r] := postUrgent_posts _ s

theorem setSeq_tripCause (st : SeqState) (s : State) : (setSeq st s).seq.tripCause = s.seq.tripCause := by
  rw [setSeq_seq]

theorem postCellNotice_posts (c : CellRef) (s : State) : Posts s (postCellNotice c s) [] := by
  unfold postCellNotice
  dsimp only
  (repeat' split) <;> exact posts_nil rfl rfl

theorem setFlag_posts (f : ReportFlag) (c : CellRef) (s : State) : Posts s (setFlag f c s) [] := by
  unfold setFlag
  dsimp only
  split
  · exact postCellNotice_posts c _
  · exact posts_nil rfl rfl

/-! ### The lines -/

/-- HOLD_REQ under a hold demand (R129). -/
theorem followDemand_on_lock {s : State} (h : holdDemand s = true) :
    (followDemand s).lock = { s.lock with
      holdReq := true
      holdTimer := if s.lock.holdReq then s.lock.holdTimer
        else if cfgHoldMinimum s.store.image = 0 then none else some s.now
      holdMet := if s.lock.holdReq then s.lock.holdMet else decide (cfgHoldMinimum s.store.image = 0) } := by
  unfold followDemand
  rw [if_pos h]
  cases hr : s.lock.holdReq
  · by_cases h0 : cfgHoldMinimum s.store.image = 0 <;> simp [h0]
  · rw [if_pos rfl, if_pos rfl, if_pos rfl, ← hr]

/-- HOLD_REQ without a hold demand (R129). -/
theorem followDemand_off_demand_lock {s : State} (h : holdDemand s = false) :
    (followDemand s).lock = { s.lock with holdReq := holdAfterDemand s } := by
  unfold followDemand
  rw [if_neg (by simp [h])]
  by_cases hb : (s.lock.holdReq && s.lock.holdMet) = true
  · rw [if_pos hb]
    obtain ⟨_, hm⟩ := Bool.and_eq_true_iff.1 hb
    simp [holdAfterDemand, hm]
  · rw [if_neg hb]
    have e : holdAfterDemand s = s.lock.holdReq := by
      cases hr : s.lock.holdReq <;> simp_all [holdAfterDemand]
    rw [e]

theorem syncLines_lock (b : Bool) (s : State) :
    (syncLines b s).lock = (followDemand { s with lock.trip := s.lock.trip || b }).lock := by
  unfold syncLines
  dsimp only
  split
  · rfl
  · exact postLines_lock _

/-- The one LINES notice of a change of either line (R129, R130). -/
theorem syncLines_posts (b : Bool) (s : State) : Posts s (syncLines b s) (lineChange s (syncLines b s)) := by
  have hl := syncLines_lock b s
  have hn := followDemand_notices { s with lock.trip := s.lock.trip || b }
  unfold lineChange
  rw [hl]
  unfold syncLines
  dsimp only
  split
  · exact posts_nil (by rw [hn]) (by rw [hn])
  · exact posts_of_notices (postUrgent_posts _ _) hn

theorem lineChange_congr {s s' t : State} (h : s.lock = s'.lock) : lineChange s t = lineChange s' t := by
  unfold lineChange
  rw [h]

/-- The lines at a step's start stand in two items of the interlock unit. -/
theorem lineChange_start {s s' t : State} (hr : s.lock.holdReq = s'.lock.holdReq) (ht : s.lock.trip = s'.lock.trip) :
    lineChange s t = lineChange s' t := by
  unfold lineChange
  rw [hr, ht]

/-- The hold demand rests on the sequencer and the hold mark. -/
theorem holdDemand_iff (s : State) : holdDemand s = true ↔
    s.seq.state = .off ∨ s.seq.state = .tripped ∨ s.seq.state = .locked
      ∨ (s.seq.campaign.isSome = true ∧ s.lock.holdMark = true) := by
  simp [holdDemand, or_assoc]

/-! ### Mailboxes -/

theorem Rings.set_get {α : Type} {r : Rings α} {p : Phase} {x : α} (h : r.get p = x) : r.set p x = r := by
  subst h
  cases p <;> rfl

theorem Rings.ext_get {α : Type} {r q : Rings α} (h : ∀ p, r.get p = q.get p) : r = q := by
  rcases r with ⟨a, b, c⟩
  rcases q with ⟨x, y, z⟩
  have ha : a = x := h .a
  have hb : b = y := h .b
  have hc : c = z := h .c
  rw [ha, hb, hc]

/-- Every exchange has ended. -/
theorem abortExchanges_mail (s : State) : (abortExchanges s).rings.mail = ⟨none, none, none⟩ := by
  have h (p : Phase) (s : State) : (endExchange p .aborted s).rings.mail = s.rings.mail.set p none := by
    unfold endExchange
    split
    · next hp => exact (Rings.set_get hp).symm
    · rfl
  simp [abortExchanges, phases, h, Rings.set]

/-- A mailbox EMPTY stays so while the rings only end exchanges. -/
theorem Keeps.mail_empty {s t : State} (h : Keeps s t) (hs : s.rings.mail = ⟨none, none, none⟩) :
    t.rings.mail = ⟨none, none, none⟩ := by
  refine Rings.ext_get fun p => ?_
  cases hx : t.rings.mail.get p with
  | none => cases p <;> rfl
  | some x =>
    obtain ⟨y, hy, _⟩ := h.mail p x hx
    rw [hs] at hy
    cases p <;> cases hy

theorem setSeq_mail {st : SeqState} {s : State} (h : s.seq.state = .ready) (hst : st ≠ .ready) :
    (setSeq st s).rings.mail = ⟨none, none, none⟩ := by
  simp [setSeq, h, hst, abortExchanges_mail]

/-! ### Entry into TRIPPED and LOCKED -/

theorem enterStopped_eq {s : State} (h : s.seq.heldHalt = false) (st : SeqState) (r : Option CampaignRecord) :
    enterStopped st r s = syncLines true (postCampaign r (setSeq st s)) := if_neg (by simp [h])

/-- What an entry into TRIPPED or LOCKED writes, with no HALT held (R83, R98, R130). -/
structure StopEntry (st : SeqState) (r : Option CampaignRecord) (s t : State) : Prop where
  seq : t.seq = { s.seq with state := st, scale := 0 }
  plans : t.plans = s.plans
  cells : t.cells = s.cells
  queue : t.queue = s.queue
  store : t.store = s.store
  lock : ∃ timer met, t.lock = { s.lock with trip := true, holdReq := true, holdTimer := timer, holdMet := met }
  posts : Posts s t ([.campaign st s.seq.tripCause r] ++ lineChange s t)
  mail : s.seq.state = .ready → t.rings.mail = ⟨none, none, none⟩

theorem enterStopped_entry {s : State} {st : SeqState} (r : Option CampaignRecord) (h : s.seq.heldHalt = false)
    (hst : st = .tripped ∨ st = .locked) : StopEntry st r s (enterStopped st r s) := by
  rw [enterStopped_eq h]
  have hscale : entryScale st = 0 := by rcases hst with rfl | rfl <;> rfl
  have hready : st ≠ .ready := by rcases hst with rfl | rfl <;> simp
  have hdemand : holdDemand { postCampaign r (setSeq st s) with
      lock.trip := (postCampaign r (setSeq st s)).lock.trip || true } = true := by
    rw [holdDemand_iff]
    rcases hst with rfl | rfl <;> simp
  refine ⟨?_, ?_, ?_, ?_, ?_, ?_, ?_, fun hr => ?_⟩
  · rw [syncLines_seq, postCampaign_seq, setSeq_seq, hscale]
  · simp
  · simp
  · simp
  · simp
  · rw [syncLines_lock, followDemand_on_lock hdemand]
    simp only [postCampaign_lock, setSeq_lock, Bool.or_true]
    exact ⟨_, _, rfl⟩
  · have h1 : Posts s (postCampaign r (setSeq st s)) [.campaign st s.seq.tripCause r] := by
      have hp := postCampaign_posts r (setSeq st s)
      rw [setSeq_state, setSeq_tripCause] at hp
      exact posts_of_notices hp (setSeq_notices st s)
    have h2 := syncLines_posts true (postCampaign r (setSeq st s))
    have hlock : (postCampaign r (setSeq st s)).lock = s.lock := by simp
    rw [lineChange_congr hlock] at h2
    exact posts_append h1 h2
  · exact Keeps.mail_empty ((keeps_syncLines _ _).after (keeps_postUrgent _ _)) (setSeq_mail hr hready)

/-! ### A trip -/

/-- What a trip of an open campaign writes, with no HALT held (R98). -/
structure TripEntry (cause : TripCause) (k : Campaign) (s t : State) : Prop where
  seq : t.seq = { s.seq with
    state := .tripped, scale := 0, tripCause := some cause, campaign := none, watch := none, rephase := none
    enrolRun := false, history := historyWith s (closedWith s k (.tripped cause)) }
  plans : t.plans = { pending := none, inForce := s.plans.inForce }
  cell : ∀ c : CellRef, t.cell c = { s.cell c with isolation := none }
  queue : t.queue = s.queue
  store : t.store = s.store
  lock : ∃ timer met, t.lock = { s.lock with
    trip := true, holdReq := true, holdTimer := timer, holdMet := met, holdMark := false, rideThrough := none
    budgetSpent := false, brakeConfirm := none, resumeTimer := none, rampCount := 0 }
  posts : Posts s t ([.campaign .tripped (some cause) (some (closedWith s k (.tripped cause)))] ++ lineChange s t)
  mail : s.seq.state = .ready → t.rings.mail = ⟨none, none, none⟩

theorem trip_entry {cause : TripCause} {k : Campaign} {s : State} (hk : s.seq.campaign = some k)
    (hh : s.seq.heldHalt = false) (hs : ¬(s.seq.state = .off ∨ s.seq.state = .tripped ∨ s.seq.state = .locked)) :
    TripEntry cause k s (trip cause s) := by
  have hc : (discardPending (dropStage { s with seq.tripCause := some cause })).seq.campaign
      = some { k with issue := none, pendingTag := none } := by
    simp [discardPending, modCampaign, dropStage_seq, hk]
  rw [trip_running cause hs, closeCampaign_some _ hc]
  generalize hu : discardPending (dropStage { s with seq.tripCause := some cause }) = u at hc
  have hseq : u.seq = { s.seq with
      tripCause := some cause, campaign := some { k with issue := none, pendingTag := none }, watch := none
      rephase := none } := by
    rw [← hu]; simp [discardPending, modCampaign, dropStage_seq, hk]
  have hplans : u.plans = { pending := none, inForce := s.plans.inForce } := by
    rw [← hu]; simp [discardPending, modCampaign]
  have hcell (c : CellRef) : u.cell c = { s.cell c with isolation := none } := by
    rw [← hu, cell_of_cells (discardPending_cells _), dropStage_cell]; rfl
  have hlock : u.lock = { s.lock with resumeTimer := none, rampCount := 0 } := by
    rw [← hu, discardPending_lock, dropStage_lock]
  have hrest : u.store = s.store ∧ u.queue = s.queue ∧ u.notices = s.notices := by
    rw [← hu]; simp
  obtain ⟨hstore, hqueue, hnotices⟩ := hrest
  have hrec : closedWith u { k with issue := none, pendingTag := none } (.tripped cause) = closedWith s k (.tripped cause) := by
    simp [closedWith, openRecord, hseq, hstore]
  rw [hrec]
  have he := enterStopped_entry (s := dropCampaign { u with
      seq.campaign := none, seq.history := historyWith u (closedWith s k (.tripped cause)) })
    (some (closedWith s k (.tripped cause))) (show u.seq.heldHalt = false by rw [hseq]; exact hh) (.inl rfl)
  obtain ⟨timer, met, hl⟩ := he.lock
  refine ⟨?_, he.plans.trans hplans, fun c => ?_, he.queue.trans hqueue, he.store.trans hstore, ⟨timer, met, ?_⟩, ?_,
    fun hr => he.mail (by show u.seq.state = .ready; rw [hseq]; exact hr)⟩
  · have hh : historyWith u (closedWith s k (.tripped cause)) = historyWith s (closedWith s k (.tripped cause)) := by
      unfold historyWith
      rw [hseq]
    rw [he.seq, hh]
    simp [dropCampaign, hseq]
  · rw [cell_of_cells he.cells]; exact hcell c
  · rw [hl]; simp [dropCampaign, hlock]
  · have hp := posts_of_notices he.posts hnotices
    have hcause : u.seq.tripCause = some cause := by rw [hseq]
    rw [lineChange_start (s' := s) (by show u.lock.holdReq = _; rw [hlock]) (by show u.lock.trip = _; rw [hlock])] at hp
    rw [← hcause]
    exact hp

end Sys2Proof.Machine
end


section
/-! PROOFS. What a BLOCK entry, the end of the gate-off watch and the close of a campaign at READY write. -/

namespace Sys2Proof.Machine

open Sys2Proof

theorem postOpen_posts {s : State} {k : Campaign} (hk : s.seq.campaign = some k) :
    Posts s (postOpen s) [.campaign s.seq.state s.seq.tripCause (some (openRecord s k))] := by
  have hp : Posts s (postOpen s) [.campaign s.seq.state s.seq.tripCause (s.seq.campaign.map (openRecord s))] :=
    postCampaign_posts _ s
  rwa [hk] at hp

/-! ### The style part of a BLOCK entry -/

theorem toHeld_seq {s : State} {k : Campaign} (hk : s.seq.campaign = some k) :
    (toHeld s).seq = { s.seq with campaign := some { k with style := some .held } } := by
  simp [toHeld, setStyle, modCampaign, hk]

theorem decideStyle_seq {s : State} {k : Campaign} (kind : CampaignKind) (hk : s.seq.campaign = some k) :
    ∃ st, (decideStyle kind s).seq = { s.seq with campaign := some { k with style := st } } := by
  unfold decideStyle
  split
  · exact ⟨some .stopped, by simp [setStyle, modCampaign, hk]⟩
  · split
    · exact ⟨some .running, by simp [setStyle, modCampaign, hk]⟩
    · exact ⟨some .held, toHeld_seq hk⟩

theorem restyle_seq {s : State} {k : Campaign} (hk : s.seq.campaign = some k) :
    (restyle s).seq = { s.seq with campaign := some { k with
      style := if k.style = some .running ∧ s.lock.budgetSpent = true then some .held else k.style } } := by
  have hs : s.style = k.style := by simp [State.style, hk]
  unfold restyle
  rw [hs]
  split
  · exact toHeld_seq hk
  · rw [← hk]

/-- The style part of a BLOCK entry changes the record's style alone. -/
theorem blockStyle_seq {s : State} {k : Campaign} (b : Bool) (hk : s.seq.campaign = some k) :
    ∃ st, (blockStyle b s).seq = { s.seq with campaign := some { k with style := st } }
      ∧ (b = false → st = if k.style = some .running ∧ s.lock.budgetSpent = true then some .held else k.style) := by
  unfold blockStyle
  rw [hk]
  cases b
  · exact ⟨_, restyle_seq hk, fun _ => rfl⟩
  · obtain ⟨st, h⟩ := decideStyle_seq k.kind hk
    exact ⟨st, h, fun h => by cases h⟩

/-- The items of the interlock unit that the style part leaves. -/
theorem blockStyle_lock (b : Bool) (s : State) :
    (blockStyle b s).lock.trip = s.lock.trip ∧ (blockStyle b s).lock.holdReq = s.lock.holdReq
      ∧ (blockStyle b s).lock.rampCount = s.lock.rampCount
      ∧ (s.seq.state ≠ .awaitResume → (blockStyle b s).lock.resumeTimer = s.lock.resumeTimer) := by
  have hh : (toHeld s).lock.trip = s.lock.trip ∧ (toHeld s).lock.holdReq = s.lock.holdReq
      ∧ (toHeld s).lock.rampCount = s.lock.rampCount
      ∧ (s.seq.state ≠ .awaitResume → (toHeld s).lock.resumeTimer = s.lock.resumeTimer) :=
    ⟨rfl, rfl, rfl, fun h => if_neg h⟩
  unfold blockStyle
  split
  · split
    · unfold decideStyle
      split
      · exact ⟨rfl, rfl, rfl, fun _ => rfl⟩
      · split
        · exact ⟨rfl, rfl, rfl, fun _ => rfl⟩
        · exact hh
    · unfold restyle
      split
      · exact hh
      · exact ⟨rfl, rfl, rfl, fun _ => rfl⟩
  · exact ⟨rfl, rfl, rfl, fun _ => rfl⟩

theorem blockStyle_keeps_queue (b : Bool) (s : State) :
    (blockStyle b s).queue = s.queue ∧ (blockStyle b s).plans = s.plans ∧ (blockStyle b s).notices = s.notices
      ∧ (blockStyle b s).store = s.store := by
  unfold blockStyle decideStyle restyle
  (repeat' split) <;> simp

/-! ### A BLOCK entry -/

/-- The state in which a BLOCK entry has taken its style. -/
abbrev styled (b : Bool) (s : State) : State := blockStyle b (setSeq .block (dropStage s))

/-- What a BLOCK entry over unchanged settings writes; `k` is the record with which it ends (R86, R87). -/
structure BlockEntry (b : Bool) (k : Campaign) (s t : State) : Prop where
  seq : t.seq = { s.seq with
    state := .block, scale := 0, campaign := some k, watch := some { cells := watchedCells s, starts := 0 }
    rephase := none }
  plans : t.plans = s.plans
  cell : ∀ c : CellRef, t.cell c = { s.cell c with isolation := none }
  queue : t.queue = s.queue
  store : t.store = s.store
  lock : ∃ req timer met, t.lock = { (styled b s).lock with holdReq := req, holdTimer := timer, holdMet := met }
    ∧ ((styled b s).lock.holdMark = true → req = true)
  trip : t.lock.trip = s.lock.trip
  ramp : t.lock.rampCount = 0
  resume : t.lock.resumeTimer = none
  posts : Posts s t ([.campaign .block s.seq.tripCause (some (recordAt s k .block))] ++ lineChange s t)
  mail : s.seq.state = .ready → t.rings.mail = ⟨none, none, none⟩

theorem watchedCells_of_cell {s t : State}
    (h : ∀ c, (t.cell c).service = (s.cell c).service ∧ (t.cell c).link = (s.cell c).link) :
    watchedCells t = watchedCells s := by
  unfold watchedCells
  simp only [(h _).1, (h _).2]

theorem mem_watchedCells {s : State} {c : CellRef} :
    c ∈ watchedCells s ↔ (s.cell c).service = .active ∧ (s.cell c).link ≠ .severed := by
  simp [watchedCells, mem_allCells]

theorem settingsMatch_iff (s : State) : settingsMatch s = true ↔ s.store.storedCrc = some (crc16 s.store.image) := by
  simp [settingsMatch, settingsCrc]

theorem enterBlock_entry {s : State} {k : Campaign} (b : Bool) (hk : s.seq.campaign = some k)
    (hm : s.store.storedCrc = some (crc16 s.store.image)) :
    ∃ st, BlockEntry b { k with issue := none, style := st } s (enterBlock b s)
      ∧ (styled b s).seq.campaign = some { k with issue := none, style := st }
      ∧ (b = false → st = if k.style = some .running ∧ s.lock.budgetSpent = true then some .held else k.style) := by
  have hseq : (setSeq .block (dropStage s)).seq = { s.seq with
      state := .block, scale := 0, campaign := some { k with issue := none }, watch := none, rephase := none } := by
    rw [setSeq_seq, dropStage_seq, hk]; rfl
  have hlock : (setSeq .block (dropStage s)).lock = { s.lock with resumeTimer := none, rampCount := 0 } := by
    rw [setSeq_lock, dropStage_lock]
  have hmatch : settingsMatch (setSeq .block (dropStage s)) = true := by
    rw [settingsMatch_iff]; simpa using hm
  obtain ⟨st, hst, hagain⟩ := blockStyle_seq (k := { k with issue := none }) b (by rw [hseq])
  obtain ⟨htrip, hreq, hramp, hresume⟩ := blockStyle_lock b (setSeq .block (dropStage s))
  obtain ⟨hqueue, hplans, hnotices, hstore⟩ := blockStyle_keeps_queue b (setSeq .block (dropStage s))
  have hkeep := keeps_blockStyle b (setSeq .block (dropStage s))
  have hcell (c : CellRef) : (styled b s).cell c = { s.cell c with isolation := none } := by
    rw [cell_of_cells (CellInvariant.blockStyle_cells b _), cell_of_cells (setSeq_cells _ _), dropStage_cell]
  have hwatch : watchedCells (styled b s) = watchedCells s :=
    watchedCells_of_cell fun c => by rw [hcell]; exact ⟨rfl, rfl⟩
  refine ⟨st, ?_, by rw [hst], fun hb => by rw [hagain hb, hlock]⟩
  have hu : (styled b s).seq = { s.seq with
      state := .block, scale := 0, campaign := some { k with issue := none, style := st }, watch := none
      rephase := none } := by rw [hst, hseq]
  unfold enterBlock
  simp only [hmatch, if_true]
  change BlockEntry b _ s (syncLines false (postOpen { styled b s with
    seq.watch := some { cells := watchedCells (styled b s), starts := 0 } }))
  generalize hw : ({ styled b s with seq.watch := some { cells := watchedCells (styled b s), starts := 0 } } : State) = w
  have hwl : w.lock = (styled b s).lock := by rw [← hw]
  have hws : w.seq = { s.seq with
      state := .block, scale := 0, campaign := some { k with issue := none, style := st }
      watch := some { cells := watchedCells s, starts := 0 }, rephase := none } := by
    rw [← hw, ← hwatch]; simp only [hu]
  have hwn : w.notices = s.notices := by rw [← hw]; exact hnotices.trans (by simp)
  have hwstore : w.store = s.store := by rw [← hw]; exact hstore.trans (by simp)
  have hopen : Posts s (postOpen w)
      [.campaign .block s.seq.tripCause (some (recordAt s { k with issue := none, style := st } .block))] := by
    have hp := postOpen_posts (s := w) (by rw [hws])
    rw [show openRecord w _ = recordAt s { k with issue := none, style := st } .block by
      simp [openRecord, hws, hwstore]] at hp
    rw [show w.seq.state = .block by rw [hws], show w.seq.tripCause = s.seq.tripCause by rw [hws]] at hp
    exact posts_of_notices hp hwn
  have hfollow : ∃ req timer met, (syncLines false (postOpen w)).lock
      = { (styled b s).lock with holdReq := req, holdTimer := timer, holdMet := met }
      ∧ ((styled b s).lock.holdMark = true → req = true) := by
    rw [syncLines_lock]
    by_cases hd : holdDemand { postOpen w with lock.trip := (postOpen w).lock.trip || false } = true
    · rw [followDemand_on_lock hd]
      simp only [postOpen_lock, Bool.or_false, hwl]
      exact ⟨_, _, _, rfl, fun _ => rfl⟩
    · rw [followDemand_off_demand_lock (by simpa using hd)]
      simp only [postOpen_lock, Bool.or_false, hwl]
      refine ⟨_, _, _, rfl, fun hmark => absurd ?_ hd⟩
      rw [holdDemand_iff]
      exact .inr (.inr (.inr ⟨by simp [hws], by simp [hwl, hmark]⟩))
  obtain ⟨req, timer, met, hl, hmark⟩ := hfollow
  refine ⟨by rw [syncLines_seq, postOpen_seq, hws], ?_, fun c => ?_, ?_, ?_, ⟨req, timer, met, hl, hmark⟩, ?_, ?_, ?_, ?_,
    fun hr => ?_⟩
  · rw [syncLines_plans, postOpen_plans, ← hw]; exact hplans.trans (by simp)
  · rw [cell_of_cells (syncLines_cells _ _), cell_of_cells (postOpen_cells _), ← hw]; exact hcell c
  · rw [syncLines_queue, postOpen_queue, ← hw]; exact hqueue.trans (by simp)
  · rw [syncLines_store, postOpen_store, hwstore]
  · rw [hl]; exact htrip.trans (by rw [hlock])
  · rw [hl]; exact hramp.trans (by rw [hlock])
  · rw [hl]; exact (hresume (by simp)).trans (by rw [hlock])
  · have h2 := syncLines_posts false (postOpen w)
    rw [lineChange_start (s' := s) (by rw [postOpen_lock, hwl, hreq, hlock]) (by rw [postOpen_lock, hwl, htrip, hlock])] at h2
    exact posts_append hopen h2
  · have hk : Keeps (setSeq .block (dropStage s)) (syncLines false (postOpen w)) := by
      rw [← hw]
      exact (keeps_syncLines _ _).after ((keeps_postOpen _).after ((Keeps.seq _ _).after hkeep))
    exact hk.mail_empty (setSeq_mail (by rw [dropStage_seq]; exact hr) (by simp))

/-- A BLOCK entry over changed settings is a trip (R86). -/
theorem enterBlock_corrupt {s : State} (b : Bool) (hm : s.store.storedCrc ≠ some (crc16 s.store.image)) :
    enterBlock b s = trip .settingsCorrupt (postOpen (setSeq .block (dropStage s))) := by
  have hn : ¬settingsMatch (setSeq .block (dropStage s)) = true := by
    rw [settingsMatch_iff]; simpa using hm
  unfold enterBlock
  exact if_neg hn

/-! ### The close of a campaign at READY -/

/-- What the close of a campaign as COMPLETED writes, with no HALT held (R94, R96, R134). -/
structure ReadyEntry (k : Campaign) (s t : State) : Prop where
  seq : t.seq = { s.seq with
    state := .ready, scale := 1024, campaign := none, watch := none, rephase := none, enrolRun := false
    history := historyWith s (closedWith s k .completed) }
  plans : t.plans = s.plans
  cell : ∀ c : CellRef, t.cell c = { s.cell c with isolation := none }
  queue : t.queue = s.queue
  store : t.store = s.store
  lock : t.lock = { s.lock with
    holdMark := false, rideThrough := none, budgetSpent := false, brakeConfirm := none, resumeTimer := none
    rampCount := 0, holdReq := holdAfterDemand s }
  posts : Posts s t ([.campaign .ready s.seq.tripCause (some (closedWith s k .completed))] ++ lineChange s t)

theorem completeCampaign_entry {s : State} {k : Campaign} (hk : s.seq.campaign = some k) (hh : s.seq.heldHalt = false) :
    ReadyEntry k s (completeCampaign s) := by
  have hc : (dropStage s).seq.campaign = some { k with issue := none } := by rw [dropStage_seq, hk]; rfl
  have hrec : closedWith (dropStage s) { k with issue := none } .completed = closedWith s k .completed := by
    simp [openRecord, dropStage_seq]
  have hhist (r : CampaignRecord) : historyWith (dropStage s) r = historyWith s r := by
    unfold historyWith
    rw [dropStage_seq]
  unfold completeCampaign
  simp only [closeCampaign_some _ hc, hrec, hhist]
  generalize hu : dropCampaign { dropStage s with
    seq.campaign := none, seq.history := historyWith s (closedWith s k .completed) } = u
  have hseq : u.seq = { s.seq with
      campaign := none, watch := none, rephase := none, enrolRun := false
      history := historyWith s (closedWith s k .completed) } := by
    rw [← hu]; simp [dropCampaign, dropStage_seq]
  have hlock : u.lock = { s.lock with
      holdMark := false, rideThrough := none, budgetSpent := false, brakeConfirm := none, resumeTimer := none
      rampCount := 0 } := by
    rw [← hu]; simp [dropCampaign, dropStage_lock]
  have hcell (c : CellRef) : u.cell c = { s.cell c with isolation := none } := by
    rw [← dropStage_cell, ← hu]
    simp only [State.cell, dropCampaign]
  have hrest : u.plans = s.plans ∧ u.queue = s.queue ∧ u.store = s.store ∧ u.notices = s.notices := by
    rw [← hu]; simp [dropCampaign]
  obtain ⟨hplans, hqueue, hstore, hnotices⟩ := hrest
  rw [if_neg (by simp [hh])]
  generalize hr : some (closedWith s k .completed) = r
  have hopen : Posts s (postCampaign r (setSeq .ready u)) [.campaign .ready s.seq.tripCause r] := by
    have hp := postCampaign_posts r (setSeq .ready u)
    rw [setSeq_state, setSeq_tripCause, show u.seq.tripCause = s.seq.tripCause by rw [hseq]] at hp
    exact posts_of_notices hp ((setSeq_notices _ _).trans hnotices)
  generalize hw : postCampaign r (setSeq .ready u) = w at hopen
  have hws : w.seq = { u.seq with state := .ready, scale := 1024 } := by rw [← hw, postCampaign_seq, setSeq_seq]; rfl
  have hwl : w.lock = u.lock := by rw [← hw]; simp
  have hdemand : holdDemand { w with lock.trip := w.lock.trip || false } = false := by
    rw [Bool.eq_false_iff, ne_eq, holdDemand_iff]
    simp [hws, hseq]
  refine ⟨?_, ?_, fun c => ?_, ?_, ?_, ?_, ?_⟩
  · rw [syncLines_seq, hws, hseq]
  · rw [syncLines_plans, ← hw]; simp [hplans]
  · rw [cell_of_cells (syncLines_cells _ _), ← hw, cell_of_cells (postCampaign_cells _ _), cell_of_cells (setSeq_cells _ _)]
    exact hcell c
  · rw [syncLines_queue, ← hw]; simp [hqueue]
  · rw [syncLines_store, ← hw]; simp [hstore]
  · rw [syncLines_lock, followDemand_off_demand_lock hdemand]
    simp [holdAfterDemand, hwl, hlock]
  · have h2 := syncLines_posts false w
    rw [lineChange_start (s' := s) (by rw [hwl, hlock]) (by rw [hwl, hlock])] at h2
    rw [hr]
    exact posts_append hopen h2

/-! ### The end of BLOCK -/

/-- The watch without the cells that left ACTIVE or were severed (R87). -/
def stillWatched (s : State) (w : Watch) : Watch :=
  { w with cells := w.cells.filter fun c => decide ((s.cell c).service = .active) && decide ((s.cell c).link ≠ .severed) }

theorem mem_stillWatched {s : State} {w : Watch} {c : CellRef} :
    c ∈ (stillWatched s w).cells ↔ c ∈ w.cells ∧ (s.cell c).service = .active ∧ (s.cell c).link ≠ .severed := by
  simp [stillWatched]

theorem blockCheck_none {s : State} (h : s.seq.watch = none) : blockCheck s = s := by simp [blockCheck, h]

/-- A watch whose cells are all still ACTIVE and linked, and which does not end BLOCK, stays as it is. -/
theorem blockCheck_waits {s : State} {w : Watch} (hw : s.seq.watch = some w)
    (hc : ∀ c ∈ w.cells, (s.cell c).service = .active ∧ (s.cell c).link ≠ .severed)
    (h : w.cells ≠ [] ∨ w.starts = 0 ∨ enrolWindowHolds s = true) : blockCheck s = s := by
  rcases blockCheck_cases s with ⟨hn, _⟩ | ⟨w', left, hw', hleft, e⟩
  · rw [hw] at hn; cases hn
  · rw [hw] at hw'
    cases hw'
    have hl : w.cells.filter (fun c => decide ((s.cell c).service = .active) && decide ((s.cell c).link ≠ .severed))
        = w.cells := List.filter_eq_self.2 fun c hm => by simpa using hc c hm
    unfold blockCheck
    simp only [hw, hl]
    rw [if_neg]
    · rw [← hw]
    · rintro ⟨_, h0, h1, h2⟩
      rcases h with h | h | h
      · exact h h0
      · omega
      · simp [h] at h2

/-- The cells that left ACTIVE or were severed leave the watch; where that does not end BLOCK, nothing else changes. -/
theorem blockCheck_filters {s : State} {w : Watch} (hw : s.seq.watch = some w)
    (h : w.starts = 0 ∨ (∃ c ∈ w.cells, (s.cell c).service = .active ∧ (s.cell c).link ≠ .severed)
      ∨ enrolWindowHolds s = true) :
    blockCheck s = { s with seq.watch := some (stillWatched s w) } := by
  unfold blockCheck stillWatched
  simp only [hw]
  rw [if_neg]
  rintro ⟨_, h0, h1, h2⟩
  rcases h with h | ⟨c, hc, hs⟩ | h
  · omega
  · exact List.filter_eq_nil_iff.1 h0 c hc (by simpa using hs)
  · simp [h] at h2

/-- The last watched cell has left: BLOCK ends (R87). -/
theorem blockCheck_ends {s : State} {w : Watch} (hw : s.seq.watch = some w) (hst : s.seq.state = .block)
    (h1 : 1 ≤ w.starts) (h : ∀ c ∈ w.cells, ¬((s.cell c).service = .active ∧ (s.cell c).link ≠ .severed))
    (he : enrolWindowHolds s = false) :
    blockCheck s = enterIsolate { s with seq.watch := some { w with cells := [] } } := by
  have hl : w.cells.filter (fun c => decide ((s.cell c).service = .active) && decide ((s.cell c).link ≠ .severed)) = [] :=
    List.filter_eq_nil_iff.2 fun c hm => by simpa using h c hm
  unfold blockCheck
  simp only [hw, hl]
  rw [if_pos ⟨hst, trivial, h1, by simp [he]⟩]

end Sys2Proof.Machine
end


section
/-! PROOFS. What the end of a slot does to the cell it belongs to: the rules of the flags, the link entries, the fault routes
and the bypass, each with what it leaves of the rest of the device. -/

namespace Sys2Proof.Machine

open Sys2Proof

/-! ### Operations on one cell -/

/-- An operation that touches one record and the cell notices; it may end an exchange with the cell. -/
structure OnlyCell (c : CellRef) (s t : State) : Prop where
  others : ∀ d : CellRef, d ≠ c → t.cell d = s.cell d
  seq : t.seq = s.seq
  lock : t.lock = s.lock
  plans : t.plans = s.plans
  store : t.store = s.store
  gen : t.gen = s.gen
  pending : t.pending = s.pending
  queue : t.queue = s.queue
  posts : Posts s t []

/-- An operation that touches one record and the cell notices alone. -/
structure OnRecord (c : CellRef) (s t : State) : Prop extends OnlyCell c s t where
  rings : t.rings = s.rings
  link : t.link = s.link

theorem OnlyCell.trans {c : CellRef} {s t u : State} (h : OnlyCell c s t) (k : OnlyCell c t u) : OnlyCell c s u where
  others d hd := (k.others d hd).trans (h.others d hd)
  seq := k.seq.trans h.seq
  lock := k.lock.trans h.lock
  plans := k.plans.trans h.plans
  store := k.store.trans h.store
  gen := k.gen.trans h.gen
  pending := k.pending.trans h.pending
  queue := k.queue.trans h.queue
  posts := posts_append h.posts k.posts

theorem OnlyCell.after {c : CellRef} {s t u : State} (k : OnlyCell c t u) (h : OnlyCell c s t) : OnlyCell c s u := h.trans k

theorem OnlyCell.now {c : CellRef} {s t : State} (h : OnlyCell c s t) : t.now = s.now := by rw [State.now, h.gen, State.now]

namespace OnRecord

variable {s t u : State}

theorem refl (c : CellRef) (s : State) : OnRecord c s s :=
  ⟨⟨fun _ _ => rfl, rfl, rfl, rfl, rfl, rfl, rfl, rfl, posts_refl s⟩, rfl, rfl⟩

theorem trans {c : CellRef} (h : OnRecord c s t) (k : OnRecord c t u) : OnRecord c s u :=
  ⟨h.toOnlyCell.trans k.toOnlyCell, k.rings.trans h.rings, k.link.trans h.link⟩

theorem after {c : CellRef} (k : OnRecord c t u) (h : OnRecord c s t) : OnRecord c s u := h.trans k

theorem setCell (c : CellRef) (x : Cell) (s : State) : OnRecord c s (s.setCell c x) :=
  ⟨⟨fun d hd => cell_setCell_ne s c d x hd, rfl, rfl, rfl, rfl, rfl, rfl, rfl, posts_nil rfl rfl⟩, rfl, rfl⟩

theorem modCell (c : CellRef) (f : Cell → Cell) (s : State) : OnRecord c s (s.modCell c f) := setCell c _ s

theorem setFlag (f : ReportFlag) (c : CellRef) (s : State) : OnRecord c s (setFlag f c s) :=
  ⟨⟨fun _ hd => setFlag_cell_ne f s hd, setFlag_seq f c s, setFlag_lock f c s, setFlag_plans f c s, setFlag_store f c s,
    setFlag_gen f c s, setFlag_pending f c s, setFlag_queue f c s, setFlag_posts f c s⟩, setFlag_rings f c s,
    setFlag_link f c s⟩

theorem setService (v : Service) (c : CellRef) (s : State) : OnRecord c s (setService v c s) := by
  unfold Machine.setService
  dsimp only
  split
  · exact setCell c _ s
  · exact (setFlag _ c _).after (setCell c _ s)

theorem strikeAndBypass (c : CellRef) (s : State) : OnRecord c s (strikeAndBypass c s) :=
  (setService _ c _).after (modCell c _ s)

theorem warnMiss (n : Nat) (c : CellRef) (s : State) : OnRecord c s (warnMiss n c s) := by
  have h : OnRecord c s (if 60 ≤ n ∧ (s.cell c).degradedArmed then
      Machine.setFlag .degraded c (s.modCell c fun x => { x with degradedArmed := false }) else s) := by
    split
    · exact (setFlag _ c _).after (modCell c _ s)
    · exact .refl c s
  unfold Machine.warnMiss
  generalize (if 60 ≤ n ∧ (s.cell c).degradedArmed then
    Machine.setFlag .degraded c (s.modCell c fun x => { x with degradedArmed := false }) else s) = t at h ⊢
  dsimp only
  split
  · exact h.trans ((setFlag _ c _).after (modCell c _ t))
  · exact h

theorem directRoute (k : FaultClass) (detail : Byte) (c : CellRef) (s : State) :
    OnRecord c s (directRoute k detail c s) :=
  (setFlag _ c _).after ((strikeAndBypass c _).after (modCell c _ s))

end OnRecord

namespace OnlyCell

theorem endExchangeWith (c : CellRef) (s : State) : OnlyCell c s (endExchangeWith c s) :=
  ⟨fun d _ => cell_of_cells (endExchangeWith_cells c s) d, by simp, by simp, by simp, by simp, by simp, by simp, by simp,
    posts_nil (by simp) (by simp)⟩

theorem enterLink (l : LinkState) (a : Option Ability) (k : Option RejectCause) (c : CellRef) (s : State) :
    OnlyCell c s (enterLink l a k c s) := by
  unfold Machine.enterLink
  dsimp only
  split
  · exact (OnRecord.modCell c _ s).toOnlyCell.trans (endExchangeWith c _)
  · exact (OnRecord.modCell c _ s).toOnlyCell

end OnlyCell

/-! ### The record after each of them -/

theorem setService_cell_same (v : Service) (c : CellRef) (s : State) :
    (setService v c s).cell c = { s.cell c with
      service := v
      offset := if v = .active then (s.cell c).offset else none
      dcDebounce := if v.working then (s.cell c).dcDebounce else 0
      flags := if (s.cell c).service = v then (s.cell c).flags else (s.cell c).flags ||| ReportFlag.stateChanged.mask } := by
  unfold setService
  dsimp only
  split
  · rw [cell_setCell_same]
  · rw [setFlag_cell_same, cell_setCell_same]

/-- The service state that one more strike leads to (R14). -/
abbrev struckService (s : State) (n : Nat) : Service :=
  if cfgStrikeLimit s.store.image ≤ n then .lockedOut else .bypassed

theorem strikeAndBypass_cell_same (c : CellRef) (s : State) :
    (strikeAndBypass c s).cell c = { s.cell c with
      strikes := min 7 ((s.cell c).strikes + 1)
      service := struckService s (min 7 ((s.cell c).strikes + 1))
      offset := none
      dcDebounce := 0
      flags := if (s.cell c).service = struckService s (min 7 ((s.cell c).strikes + 1)) then (s.cell c).flags
        else (s.cell c).flags ||| ReportFlag.stateChanged.mask } := by
  unfold strikeAndBypass
  dsimp only
  rw [setService_cell_same, cell_modCell_same]
  unfold raisedStrikes struckService
  split <;> simp [Service.working]

theorem enterLink_cell_same (l : LinkState) (a : Option Ability) (k : Option RejectCause) (c : CellRef) (s : State) :
    (enterLink l a k c s).cell c = linkItems l a k s.now (s.cell c) := by
  have e : (enterLink l a k c s).cells = (s.modCell c (linkItems l a k s.now)).cells := by
    unfold enterLink; dsimp only; split <;> simp
  rw [cell_of_cells e, cell_modCell_same]

/-- Outside ENROLLED a link entry leaves the mailboxes and the replies. -/
theorem enterLink_unlinked (l : LinkState) (a : Option Ability) (k : Option RejectCause) {c : CellRef} {s : State}
    (h : (s.cell c).link ≠ .enrolled) : (enterLink l a k c s).rings = s.rings ∧ (enterLink l a k c s).link = s.link := by
  simp [enterLink, h]

/-- The warnings that the severing miss brings with it (R55, R56). -/
theorem warnMiss_severing_cell (c : CellRef) (s : State) :
    (warnMiss 240 c s).cell c = { s.cell c with
      degradedArmed := false
      suspect := true
      flags := (s.cell c).flags ||| (if (s.cell c).degradedArmed then ReportFlag.degraded.mask else 0)
        ||| (if (s.cell c).suspect then 0 else ReportFlag.suspect.mask) } := by
  unfold warnMiss
  cases ha : (s.cell c).degradedArmed
  · cases hs : (s.cell c).suspect
    · simp [ha, hs, setFlag_cell_same]
    · simp [hs]
      rw [← ha, ← hs]
  · cases hs : (s.cell c).suspect
    · simp [hs, setFlag_cell_same]
    · simp [hs, setFlag_cell_same]

/-! ### Slots -/

theorem slotStep_valid {c : CellRef} {seen : SlotSeen} {r : Response} {s : State} (h : Answers c seen r s) :
    slotStep c seen s = takeValid c r s := by
  obtain ⟨he, _, hj⟩ := h
  simp [slotStep, he, hj]

theorem slotStep_miss {c : CellRef} {seen : SlotSeen} {s : State} (he : s.expected c = true)
    (hj : judgeSlot seen = .missed ∨ judgeSlot seen = .invalid) : slotStep c seen s = takeMiss c s := by
  rcases hj with hj | hj <;> simp [slotStep, he, hj]

/-! ### Exchanges that a link change ends (R42, R44) -/

theorem endExchangeWith_same {c : CellRef} {s : State} {x : Exchange} (h : s.rings.mail.get (phaseOf c) = some x)
    (hc : x.cell = c) : (endExchangeWith c s).rings = { s.rings with mail := s.rings.mail.set (phaseOf c) none }
      ∧ (endExchangeWith c s).link
        = { s.link with replies := s.link.replies ++ [replyRecord tunnelType x.tag .notLinked []] } := by
  simp [endExchangeWith, endExchange, h, hc, pushReply]

theorem endExchangeWith_other {c : CellRef} {s : State} (h : ∀ x, s.rings.mail.get (phaseOf c) = some x → x.cell ≠ c) :
    endExchangeWith c s = s := by
  unfold endExchangeWith
  split
  · next x hx => exact if_neg (h x hx)
  · rfl

/-! ### A severing (R57) -/

/-- The device with a linked cell severed by a miss, before the fault intake has taken it. -/
def severedState (c : CellRef) (s : State) : State :=
  setFlag .severed c (enterLink .severed none none c (warnMiss 240 c (s.modCell c fun x => { x with
    reportAge := min 255 (x.reportAge + 1), missCount := 240 })))

theorem severedState_only (c : CellRef) (s : State) : OnlyCell c s (severedState c s) :=
  (OnRecord.setFlag _ c _).toOnlyCell.after ((OnlyCell.enterLink _ _ _ c _).after
    ((OnRecord.warnMiss _ c _).after (OnRecord.modCell c _ s)).toOnlyCell)

theorem severedState_cell {c : CellRef} {s : State} (h : (s.cell c).link = .enrolled) :
    (severedState c s).cell c = { s.cell c with
      reportAge := min 255 ((s.cell c).reportAge + 1)
      link := .severed
      missCount := 240
      goodRun := 0
      degradedArmed := false
      suspect := true
      severStamp := some s.now
      rejectCause := none
      heldAbility := none
      dcDebounce := 0
      isolation := (s.cell c).isolation.map fun _ => .blind s.now
      flags := (s.cell c).flags ||| (if (s.cell c).degradedArmed then ReportFlag.degraded.mask else 0)
        ||| (if (s.cell c).suspect then 0 else ReportFlag.suspect.mask) ||| ReportFlag.severed.mask } := by
  have hnow : (warnMiss 240 c (s.modCell c fun x => { x with
      reportAge := min 255 (x.reportAge + 1), missCount := 240 })).now = s.now :=
    ((OnRecord.warnMiss _ c _).after (OnRecord.modCell c _ s)).now
  unfold severedState
  rw [setFlag_cell_same, enterLink_cell_same, warnMiss_severing_cell, cell_modCell_same, hnow]
  have hacross : isolationAcross .enrolled .severed s.now = fun _ => .blind s.now := by
    funext x; simp [isolationAcross]
  simp [linkItems, h, hacross]

/-- Leaving ENROLLED ends an exchange with the cell. -/
theorem enterLink_leaves {l : LinkState} (a : Option Ability) (k : Option RejectCause) {c : CellRef} {s : State}
    (h : (s.cell c).link = .enrolled) (hl : l ≠ .enrolled) :
    enterLink l a k c s = endExchangeWith c (s.modCell c (linkItems l a k s.now)) := if_pos ⟨h, hl⟩

/-- A severing ends the exchange with the cell NOT_LINKED, and no other. -/
theorem severedState_exchange {c : CellRef} {s : State} (h : (s.cell c).link = .enrolled) :
    (∀ x, s.rings.mail.get (phaseOf c) = some x → x.cell = c →
      (severedState c s).rings = { s.rings with mail := s.rings.mail.set (phaseOf c) none }
      ∧ (severedState c s).link
        = { s.link with replies := s.link.replies ++ [replyRecord tunnelType x.tag .notLinked []] })
    ∧ ((∀ x, s.rings.mail.get (phaseOf c) = some x → x.cell ≠ c) →
      (severedState c s).rings = s.rings ∧ (severedState c s).link = s.link) := by
  unfold severedState
  have hw := (OnRecord.warnMiss 240 c _).after (OnRecord.modCell c (fun x => { x with
    reportAge := min 255 (x.reportAge + 1), missCount := 240 }) s)
  have hwl : ((warnMiss 240 c (s.modCell c fun x => { x with
      reportAge := min 255 (x.reportAge + 1), missCount := 240 })).cell c).link = .enrolled := by
    rw [warnMiss_severing_cell, cell_modCell_same]; exact h
  generalize warnMiss 240 c (s.modCell c fun x => { x with
    reportAge := min 255 (x.reportAge + 1), missCount := 240 }) = w at hw hwl
  rw [enterLink_leaves none none hwl (by simp), setFlag_rings, setFlag_link]
  have hv := (OnRecord.modCell c (linkItems .severed none none w.now) w).after hw
  generalize w.modCell c (linkItems .severed none none w.now) = v at hv
  refine ⟨fun x hx hc => ?_, fun hx => ?_⟩
  · have he := endExchangeWith_same (s := v) (by rw [hv.rings]; exact hx) hc
    rwa [hv.rings, hv.link] at he
  · rw [endExchangeWith_other (s := v) (by rw [hv.rings]; exact hx)]
    exact ⟨hv.rings, hv.link⟩

theorem severedState_rings {c : CellRef} {s : State} (h : (s.cell c).link = .enrolled) :
    (severedState c s).rings = { s.rings with mail := (severedState c s).rings.mail } := by
  obtain ⟨hin, hout⟩ := severedState_exchange h
  by_cases hx : ∃ x, s.rings.mail.get (phaseOf c) = some x ∧ x.cell = c
  · obtain ⟨x, hx, hc⟩ := hx
    rw [(hin x hx hc).1]
  · rw [(hout fun x hg hc => hx ⟨x, hg, hc⟩).1]

/-- The miss that brings the count of a linked cell to 240 severs the link, and the fault intake takes LINK_LOST. -/
theorem takeMiss_severs {c : CellRef} {s : State} (hl : (s.cell c).link = .enrolled) (hm : 234 ≤ (s.cell c).missCount)
    (hh : s.rings.healthOn = true) :
    takeMiss c s = blockCheck (faultNow .linkLost 0 c (severedState c s)) := by
  unfold takeMiss
  simp only [modCell_rings, hh, if_true]
  rw [linkMiss, cell_modCell_same]
  simp only [hl]
  unfold raiseMiss
  have h240 : min 240 ((s.cell c).missCount + 6) = 240 := by omega
  simp only [cell_modCell_same, h240, if_true, modCell_modCell]
  rfl

end Sys2Proof.Machine
end


section
/-! PROOFS. The fault intake: what each route writes, what a response of a linked cell leads to where it carries no message,
and the obligation about parked cells. -/

namespace Sys2Proof.Machine

open Sys2Proof

/-! ### Classes -/

theorem faultOfCode_ne_bypassFail {code : Byte} (detail : Byte) (h : code ≠ 7) :
    (faultOfCode code detail).1 ≠ .bypassFail := by
  unfold faultOfCode
  rw [if_neg (c := code = 7) h]
  (repeat' split) <;> simp

theorem faultOfCode_other {code : Byte} (detail : Byte) (h : 8 ≤ code.toNat) : faultOfCode code detail = (.internal, 0) := by
  have hne (n : Byte) (hn : n.toNat < 8) : code ≠ n := by
    rintro rfl
    omega
  simp [faultOfCode, hne]

/-! ### The routes -/

theorem namedActive_none {s : State} {c : CellRef} (h : ∀ p, s.plans.pending = some p → p.offsetOf c = none) :
    namedActive s c = false := by
  unfold namedActive
  split
  · next p hp => simp [h p hp]
  · rfl

theorem namedActive_congr {s t : State} (h : t.plans = s.plans) (c : CellRef) : namedActive t c = namedActive s c := by
  unfold namedActive
  rw [h]

theorem tripOnBypassFail_ne {k : FaultClass} (h : k ≠ .bypassFail) (s : State) : tripOnBypassFail k s = s := if_neg h

theorem directRoute_cell_same (k : FaultClass) (detail : Byte) (c : CellRef) (s : State) :
    (directRoute k detail c s).cell c = { s.cell c with
      fault := some (freshFault k detail s.now)
      strikes := min 7 ((s.cell c).strikes + 1)
      service := struckService s (min 7 ((s.cell c).strikes + 1))
      offset := none
      dcDebounce := 0
      flags := (if (s.cell c).service = struckService s (min 7 ((s.cell c).strikes + 1)) then (s.cell c).flags
        else (s.cell c).flags ||| ReportFlag.stateChanged.mask) ||| ReportFlag.faultSeen.mask } := by
  unfold directRoute
  dsimp only
  rw [setFlag_cell_same, strikeAndBypass_cell_same, cell_modCell_same]
  rfl

theorem struckService_ne_reserve (s : State) (n : Nat) : struckService s n ≠ .reserve := by
  unfold struckService
  split <;> simp

/-- A fault of a RESERVE cell by the direct route (R67). -/
theorem takeFault_direct {k : FaultClass} {detail : Byte} {named : Bool} {c : CellRef} {s : State}
    (hoff : s.seq.state ≠ .off) (hs : (s.cell c).service = .reserve) (hd : goesDirect k named (s.cell c) = true) :
    takeFault k detail named c s = directRoute k (recordedDetail s.store.image k detail) c s := by
  unfold takeFault
  simp only [hs]
  rw [if_neg hoff, if_pos hd]

/-- A fault of a cell that has left work by a fault (R69, R70). -/
theorem takeFault_further {k : FaultClass} {detail : Byte} {named : Bool} {c : CellRef} {s : State}
    (hoff : s.seq.state ≠ .off) (hk : k ≠ .bypassFail)
    (hs : (s.cell c).service = .faulted ∨ (s.cell c).service = .bypassed ∨ (s.cell c).service = .lockedOut) :
    takeFault k detail named c s = furtherFault k (recordedDetail s.store.image k detail) c s := by
  unfold takeFault
  rw [if_neg hoff]
  rcases hs with hs | hs | hs <;> simp only [hs, tripOnBypassFail_ne hk]

theorem isNew_iff (f : FaultRecord) (k : FaultClass) : f.isNew k = true ↔ f.first ≠ k ∧ f.further &&& k.mask = 0 := by
  simp [FaultRecord.isNew]

theorem furtherFault_first {k : FaultClass} {detail : Byte} {c : CellRef} {s : State} (h : (s.cell c).fault = none) :
    furtherFault k detail c s
      = setFlag .faultSeen c (s.modCell c fun x => { x with fault := some (freshFault k detail s.now) }) := by
  unfold furtherFault
  rw [h]

theorem furtherFault_absorbed {k : FaultClass} {detail : Byte} {c : CellRef} {s : State} {f : FaultRecord}
    (h : (s.cell c).fault = some f) (hk : f.first = k ∨ f.further &&& k.mask ≠ 0) : furtherFault k detail c s = s := by
  have hn : ¬f.isNew k = true := by
    rw [isNew_iff]
    rintro ⟨h1, h2⟩
    exact hk.elim h1 fun h => h h2
  unfold furtherFault
  rw [h]
  exact if_neg hn

/-- The queue with a further class in the entries of a cell (R69). -/
abbrev queueFurther (k : FaultClass) (c : CellRef) (l : List QueueEntry) : List QueueEntry :=
  l.map fun e => if e.cell = c then { e with further := e.further ||| k.mask } else e

theorem furtherFault_new {k : FaultClass} {detail : Byte} {c : CellRef} {s : State} {f : FaultRecord}
    (h : (s.cell c).fault = some f) (h1 : f.first ≠ k) (h2 : f.further &&& k.mask = 0) :
    furtherFault k detail c s = setFlag .faultSeen c (State.modCell { s with queue := queueFurther k c s.queue } c fun x =>
      { x with fault := some { f with further := f.further ||| k.mask } }) := by
  unfold furtherFault
  rw [h]
  exact if_pos ((isNew_iff f k).2 ⟨h1, h2⟩)

theorem furtherFault_new_cell {k : FaultClass} {detail : Byte} {c : CellRef} {s : State} {f : FaultRecord}
    (h : (s.cell c).fault = some f) (h1 : f.first ≠ k) (h2 : f.further &&& k.mask = 0) :
    (furtherFault k detail c s).cell c = { s.cell c with
      fault := some { f with further := f.further ||| k.mask }
      flags := (s.cell c).flags ||| ReportFlag.faultSeen.mask } := by
  rw [furtherFault_new h h1 h2, setFlag_cell_same, cell_modCell_same]
  rfl

/-- A further fault touches the record and the queue alone. -/
theorem furtherFault_only (k : FaultClass) (detail : Byte) (c : CellRef) (s : State) :
    OnRecord c { s with queue := (furtherFault k detail c s).queue } (furtherFault k detail c s) := by
  have hself : OnRecord c { s with queue := s.queue } s := .refl c s
  cases h : (s.cell c).fault with
  | none =>
    rw [furtherFault_first h, setFlag_queue, modCell_queue]
    exact (OnRecord.setFlag _ c _).after ((OnRecord.modCell c _ s).after hself)
  | some f =>
    by_cases hk : f.first = k ∨ f.further &&& k.mask ≠ 0
    · rw [furtherFault_absorbed h hk]
      exact hself
    · obtain ⟨h1, h2⟩ := not_or.1 hk
      rw [furtherFault_new h h1 (not_not.1 h2), setFlag_queue, modCell_queue]
      exact (OnRecord.setFlag _ c _).after (OnRecord.modCell c _ { s with queue := queueFurther k c s.queue })

theorem furtherFault_keeps_service (k : FaultClass) (detail : Byte) (c : CellRef) (s : State) :
    ((furtherFault k detail c s).cell c).service = (s.cell c).service
      ∧ ((furtherFault k detail c s).cell c).strikes = (s.cell c).strikes
      ∧ ((furtherFault k detail c s).cell c).report = (s.cell c).report := by
  cases h : (s.cell c).fault with
  | none =>
    rw [furtherFault_first h, setFlag_cell_same, cell_modCell_same]
    exact ⟨rfl, rfl, rfl⟩
  | some f =>
    by_cases hk : f.first = k ∨ f.further &&& k.mask ≠ 0
    · rw [furtherFault_absorbed h hk]
      exact ⟨rfl, rfl, rfl⟩
    · obtain ⟨h1, h2⟩ := not_or.1 hk
      rw [furtherFault_new_cell h h1 (not_not.1 h2)]
      exact ⟨rfl, rfl, rfl⟩

/-! ### A response of a linked cell (R32) -/

/-- The device with the report of a linked cell taken, before its class is read. -/
def heardState (c : CellRef) (r : Response) (s : State) : State :=
  s.modCell c fun x => lowerMiss { x with report := some (reportOf r s.now), reportAge := 0 }

theorem heardState_cell (c : CellRef) (r : Response) (s : State) : (heardState c r s).cell c
    = lowerMiss { s.cell c with report := some (reportOf r s.gen.timebase), reportAge := 0 } := cell_modCell_same s c _

theorem heardState_only (c : CellRef) (r : Response) (s : State) : OnRecord c s (heardState c r s) := .modCell c _ s

theorem takeChunk_none (c : CellRef) (s : State) : takeChunk c .none s = s := rfl

/-- A response of an ENROLLED cell that carries no message. -/
theorem takeValid_linked {c : CellRef} {r : Response} {s : State} (hl : (s.cell c).link = .enrolled)
    (hh : s.rings.healthOn = true) (hm : r.message = .none) :
    takeValid c r s = blockCheck (confirmGateOff c r (confirmBypass c (s.cell c) r
      (dcCheck c (s.cell c) r.dc (takeReported c r (heardState c r s))))) := by
  unfold takeValid
  simp only [modCell_rings, hh, if_true, hm, takeChunk_none]
  have e : linkValid c r (s.modCell c fun x => { x with report := some (reportOf r s.now), reportAge := 0 })
      = heardState c r s := by
    unfold linkValid
    simp only [cell_modCell_same, hl]
    exact modCell_modCell s c _ _
  rw [e]

theorem takeReported_ne {c : CellRef} {r : Response} (h : r.classCode ≠ 0) (s : State) :
    takeReported c r s
      = faultNow (faultOfCode r.classCode r.detail).1 (faultOfCode r.classCode r.detail).2 c s := if_neg h

theorem dcCheck_inside {c : CellRef} {x : Cell} {dc : Nat} {s : State} (hl : x.link = .enrolled)
    (hw : x.service.working = true) (hd : insideWindow s.store.image dc = true) :
    dcCheck c x dc s = s.modCell c fun x => { x with dcDebounce := 0 } := by
  unfold dcCheck
  rw [if_pos ⟨hl, hw⟩, if_pos hd]

theorem dcCheck_idle {c : CellRef} {x : Cell} (dc : Nat) (s : State) (hw : x.service.working = false) :
    dcCheck c x dc s = s := if_neg (by simp [hw])

theorem confirmBypass_untimed {c : CellRef} {x : Cell} (r : Response) (s : State) (h : x.isolation = none) :
    confirmBypass c x r s = s := by
  unfold confirmBypass
  rw [h]

theorem confirmGateOff_none {c : CellRef} (r : Response) {s : State} (h : s.seq.watch = none) :
    confirmGateOff c r s = s := by
  unfold confirmGateOff
  rw [h]

/-- With no watch, BLOCK has nothing to read in a response. -/
theorem blockCheck_unwatched {c : CellRef} (r : Response) {s : State} (h : s.seq.watch = none) :
    blockCheck (confirmGateOff c r s) = s := by
  rw [confirmGateOff_none r h, blockCheck_none h]

/-! ### Parked cells -/

/-- What the direct route leads to, in the words of R67. -/
theorem directRoute_parked {k : FaultClass} {detail : Byte} {c : CellRef} {s : State} (h : (s.cell c).service = .reserve) :
    (directRoute k detail c s).cell c = { s.cell c with
      fault := some (freshFault k detail s.now)
      strikes := min 7 ((s.cell c).strikes + 1)
      service := if cfgStrikeLimit s.store.image ≤ min 7 ((s.cell c).strikes + 1) then .lockedOut else .bypassed
      offset := none
      dcDebounce := 0
      flags := (s.cell c).flags ||| ReportFlag.stateChanged.mask ||| ReportFlag.faultSeen.mask } := by
  rw [directRoute_cell_same, if_neg (by rw [h]; exact (struckService_ne_reserve _ _).symm)]

theorem goesDirect_closed {k : FaultClass} {x : Cell} (hk : k ≠ .bypassFail)
    (hx : (x.report.map Report.closed).getD false = true ∨ k = .linkLost) : goesDirect k false x = true := by
  rcases hx with hx | hx <;> simp [goesDirect, hk, hx]

/-- The slot of a parked cell that reports a class: the direct route (R67). -/
theorem slotStep_parked {c : CellRef} {seen : SlotSeen} {r : Response} {s : State} (ha : Answers c seen r s)
    (h0 : r.classCode ≠ 0) (h7 : r.classCode ≠ 7) (hb : r.bypass = 1) (hm : r.message = .none)
    (hdc : insideWindow s.store.image r.dc = true) (hoff : s.seq.state ≠ .off) (hwatch : s.seq.watch = none)
    (hs : (s.cell c).service = .reserve) (hl : (s.cell c).link = .enrolled) (hiso : (s.cell c).isolation = none)
    (hpend : ∀ p, s.plans.pending = some p → p.offsetOf c = none) :
    ∃ d, slotStep c seen s = (directRoute (faultOfCode r.classCode r.detail).1 d c (heardState c r s)).modCell c
      fun x => { x with dcDebounce := 0 } := by
  have hk := faultOfCode_ne_bypassFail r.detail h7
  have ho := heardState_only c r s
  have hcell := heardState_cell c r s
  have hnamed : namedActive (heardState c r s) c = false := (namedActive_congr ho.plans c).trans (namedActive_none hpend)
  generalize hcls : (faultOfCode r.classCode r.detail).1 = cls at hk ⊢
  obtain ⟨d, hroute⟩ : ∃ d, takeReported c r (heardState c r s) = directRoute cls d c (heardState c r s) := by
    refine ⟨recordedDetail s.store.image cls (faultOfCode r.classCode r.detail).2, ?_⟩
    rw [takeReported_ne h0, faultNow, hnamed, hcls, ← ho.store]
    exact takeFault_direct (by rw [ho.seq]; exact hoff) (by rw [hcell]; exact hs)
      (goesDirect_closed hk (.inl (by rw [hcell]; simp [lowerMiss, reportOf, Report.closed, hb])))
  have hd := (OnRecord.directRoute cls d c _).after ho
  refine ⟨d, ?_⟩
  rw [slotStep_valid ha, takeValid_linked hl ha.2.1 hm, hroute, confirmBypass_untimed r _ hiso,
    dcCheck_inside hl (by rw [hs]; rfl) (by rw [hd.store]; exact hdc)]
  exact blockCheck_unwatched r (by rw [modCell_seq, hd.seq]; exact hwatch)

/-- The slot of a cell that has left work by a fault and reports a class: a further fault (R69, R70). -/
theorem slotStep_further {c : CellRef} {seen : SlotSeen} {r : Response} {s : State} (ha : Answers c seen r s)
    (h0 : r.classCode ≠ 0) (h7 : r.classCode ≠ 7) (hm : r.message = .none) (hl : (s.cell c).link = .enrolled)
    (hiso : (s.cell c).isolation = none) (hoff : s.seq.state ≠ .off) (hwatch : s.seq.watch = none)
    (hs : (s.cell c).service = .faulted ∨ (s.cell c).service = .bypassed ∨ (s.cell c).service = .lockedOut) :
    slotStep c seen s = furtherFault (faultOfCode r.classCode r.detail).1
      (recordedDetail s.store.image (faultOfCode r.classCode r.detail).1 (faultOfCode r.classCode r.detail).2) c
      (heardState c r s) := by
  have ho := heardState_only c r s
  have hwork : (s.cell c).service.working = false := by rcases hs with hs | hs | hs <;> rw [hs] <;> rfl
  have hroute := takeFault_further (detail := (faultOfCode r.classCode r.detail).2)
    (named := namedActive (heardState c r s) c) (c := c) (s := heardState c r s) (by rw [ho.seq]; exact hoff)
    (faultOfCode_ne_bypassFail r.detail h7) (by rw [heardState_cell]; exact hs)
  rw [slotStep_valid ha, takeValid_linked hl ha.2.1 hm, takeReported_ne h0, faultNow, hroute, ho.store,
    dcCheck_idle _ _ hwork, confirmBypass_untimed r _ hiso]
  exact blockCheck_unwatched r (by rw [(furtherFault_only _ _ c _).seq]; exact ho.seq ▸ hwatch)

/-- The miss that severs a RESERVE cell that no pending plan names ACTIVE: the direct route by LINK_LOST (R57, R67). -/
theorem slotStep_severs_parked {c : CellRef} {seen : SlotSeen} {s : State} (he : s.expected c = true)
    (hh : s.rings.healthOn = true) (hj : judgeSlot seen = .missed) (hl : (s.cell c).link = .enrolled)
    (hs : (s.cell c).service = .reserve) (hmiss : 234 ≤ (s.cell c).missCount) (hoff : s.seq.state ≠ .off)
    (hwatch : s.seq.watch = none) (hpend : ∀ p, s.plans.pending = some p → p.offsetOf c = none) :
    slotStep c seen s = directRoute .linkLost 0 c (severedState c s) := by
  have ho := severedState_only c s
  have hnamed : namedActive (severedState c s) c = false := (namedActive_congr ho.plans c).trans (namedActive_none hpend)
  rw [slotStep_miss he (.inl hj), takeMiss_severs hl hmiss hh, faultNow, hnamed,
    takeFault_direct (by rw [ho.seq]; exact hoff) (by rw [severedState_cell hl]; exact hs)
      (goesDirect_closed (by simp) (.inr rfl))]
  exact blockCheck_none (by rw [(OnRecord.directRoute _ _ c _).seq, ho.seq]; exact hwatch)

end Sys2Proof.Machine

open Sys2Proof Sys2Proof.Machine

/-- Settles O50, by the equations of the direct route and of a further fault. -/
theorem parkedCellFaultsByTheDirectRoute : Obligations.ParkedCellFaultsByTheDirectRoute := by
  refine ⟨?_, ?_, ?_, fun detail => rfl, fun code detail h => faultOfCode_other detail h, rfl⟩
  · intro c seen r s hq he hh hj h0 h7 hb hm hdc hoff hwatch hres hlink hiso hpend
    obtain ⟨d, hstep⟩ := slotStep_parked ⟨he, hh, hj⟩ h0 h7 hb hm hdc hoff hwatch hres hlink hiso hpend
    have ho := heardState_only c r s
    have hcell := heardState_cell c r s
    have hall := (OnRecord.modCell c (fun x => { x with dcDebounce := 0 }) _).after
      ((OnRecord.directRoute (faultOfCode r.classCode r.detail).1 d c _).after ho)
    refine ⟨_, exec_slotEnd hq c seen, ?_⟩
    rw [hstep, cell_modCell_same, directRoute_parked (by rw [hcell]; exact hres), hcell, ho.store, ho.now]
    exact ⟨rfl, rfl, ⟨_, rfl, rfl, rfl, rfl, rfl, rfl, rfl⟩, rfl, hall.queue, hall.seq, hall.lock, hall.plans, hall.store,
      hall.rings, hall.gen, hall.pending, hall.others⟩
  · intro c seen r s cls hq ha h0 h7 hm hlink hiso hoff hwatch hs hcls
    have hstep := slotStep_further ha h0 h7 hm hlink hiso hoff hwatch hs
    rw [← hcls] at hstep
    generalize hd : recordedDetail s.store.image cls (faultOfCode r.classCode r.detail).2 = d at hstep
    have ho := heardState_only c r s
    have hcell := heardState_cell c r s
    have hf : ((heardState c r s).cell c).fault = (s.cell c).fault := by rw [hcell]; rfl
    have hall := furtherFault_only cls d c (heardState c r s)
    obtain ⟨hv, hn, hr⟩ := furtherFault_keeps_service cls d c (heardState c r s)
    refine ⟨_, exec_slotEnd hq c seen, ?_⟩
    rw [hstep]
    refine ⟨?_, ?_, ?_, ?_, ?_, ?_, hall.seq.trans ho.seq, hall.lock.trans ho.lock, hall.plans.trans ho.plans,
      hall.store.trans ho.store, hall.rings.trans ho.rings, hall.gen.trans ho.gen, hall.pending.trans ho.pending,
      fun e he => (hall.others e he).trans (ho.others e he)⟩
    · rw [hv, hcell]; rfl
    · rw [hn, hcell]; rfl
    · rw [hr, hcell]; rfl
    · intro f hfault hheld
      rw [furtherFault_absorbed (hf.trans hfault) hheld, hcell, ho.queue]
      exact ⟨hfault, rfl, rfl⟩
    · intro f hfault h1 h2
      rw [furtherFault_new_cell (hf.trans hfault) h1 h2, furtherFault_new (hf.trans hfault) h1 h2, setFlag_queue,
        modCell_queue, ho.queue, hcell]
      exact ⟨rfl, rfl, rfl⟩
    · intro hfault
      rw [furtherFault_first (hf.trans hfault), setFlag_cell_same, cell_modCell_same, setFlag_queue, modCell_queue,
        ho.queue, hcell, ho.now]
      refine ⟨⟨_, rfl, rfl, rfl, rfl, rfl, rfl, rfl, ?_⟩, rfl, rfl⟩
      rw [← hd, recordedDetail]
      simp [freshFault]
  · intro c seen s hq he hh hj hlink hres hmiss hiso hoff hwatch hpend
    have hstep := slotStep_severs_parked he hh hj hlink hres hmiss hoff hwatch hpend
    have ho := severedState_only c s
    have hcell := severedState_cell hlink
    have hd := OnRecord.directRoute .linkLost 0 c (severedState c s)
    have hall := ho.trans hd.toOnlyCell
    have hring := severedState_rings hlink
    obtain ⟨hin, hout⟩ := severedState_exchange hlink
    refine ⟨_, exec_slotEnd hq c seen, ?_⟩
    rw [hstep, directRoute_parked (by rw [hcell]; exact hres), hcell, ho.store, ho.now, hd.rings, hd.link]
    refine ⟨rfl, rfl, rfl, rfl, rfl, rfl, rfl, rfl, rfl, fun x hx hc => ?_, fun hx => ?_, by rw [hring], by rw [hring],
      by rw [hring], hall.queue, hall.seq, hall.lock, hall.plans, hall.store, hall.gen, hall.pending, hall.others⟩
    · obtain ⟨hr, hl⟩ := hin x hx hc
      rw [hr, hl]
      exact ⟨rfl, rfl⟩
    · obtain ⟨hr, hl⟩ := hout hx
      rw [hr, hl]
      exact ⟨rfl, rfl⟩

end


section
/-! PROOFS. ISOLATE: a cell's bypass accepted, and the entry into PLAN that follows the last one. -/

namespace Sys2Proof.Machine

open Sys2Proof

/-! ### The entry into PLAN -/

theorem cells_ext {s t : State} (h : ∀ c, t.cell c = s.cell c) : t.cells = s.cells :=
  Vector.ext fun i hi => h ⟨i, hi⟩

theorem insertCandidate_congr {s t : State} (prefer : Bool) (h : comesBefore t prefer = comesBefore s prefer) (c : CellRef)
    (l : List CellRef) : insertCandidate t prefer c l = insertCandidate s prefer c l := by
  induction l with
  | nil => rfl
  | cons d ds ih => rw [insertCandidate, insertCandidate, h, ih]

/-- A plan is computed from the roster and the settings. -/
theorem computePlan_congr {s t : State} (hc : ∀ c, t.cell c = s.cell c) (hs : t.store = s.store) (prefer : Bool)
    (tag : Byte) : computePlan t prefer tag = computePlan s prefer tag := by
  have hcell : t.cell = s.cell := funext hc
  have hcand : isCandidate t = isCandidate s := by unfold isCandidate; rw [hcell, hs]
  have hcands : candidates t = candidates s := by unfold candidates; rw [hcand]
  have hkey : activeKey t prefer = activeKey s prefer := by unfold activeKey; rw [hcell]
  have hbefore : comesBefore t prefer = comesBefore s prefer := by unfold comesBefore; rw [hkey, hcell]
  have hinsert : insertCandidate t prefer = insertCandidate s prefer :=
    funext fun c => funext fun l => insertCandidate_congr prefer hbefore c l
  have hsel : selected t prefer = selected s prefer := by unfold selected sortCandidates; rw [hinsert, hcands]
  have hcount : activeCount t = activeCount s := by unfold activeCount; rw [hcands]
  have hsum : dcSum t = dcSum s := by unfold dcSum; rw [hcell]
  have hdes : deselectedCells t = deselectedCells s := by unfold deselectedCells; rw [hcell]
  unfold computePlan
  rw [hcount, hsel, hsum, hdes, hs]

theorem prefersActive_eq (k : CampaignKind) : k.prefersActive = decide (k ≠ .replan) := by cases k <;> rfl

/-- What an entry into PLAN writes, with no HALT held (R92, R115). -/
structure PlanEntry (k : Campaign) (s t : State) : Prop where
  cell : ∀ c : CellRef, t.cell c = { s.cell c with isolation := none }
  queue : t.queue = s.queue
  watch : t.seq.watch = none
  plans : PlansOrTrips s t k

theorem enterPlan_entry {s : State} {k : Campaign} (hk : s.seq.campaign = some k) (hh : s.seq.heldHalt = false) :
    PlanEntry k s (enterPlan s) := by
  have hseq : (setSeq .plan (dropStage s)).seq = { s.seq with
      state := .plan, scale := 0, campaign := some { k with issue := none }, watch := none, rephase := none } := by
    rw [setSeq_seq, dropStage_seq, hk]; rfl
  have hcell (c : CellRef) : (setSeq .plan (dropStage s)).cell c = { s.cell c with isolation := none } := by
    rw [cell_of_cells (setSeq_cells _ _), dropStage_cell]
  have hqueue : (setSeq .plan (dropStage s)).queue = s.queue := by simp
  have hstore : (setSeq .plan (dropStage s)).store = s.store := by simp
  unfold enterPlan
  dsimp only
  rw [show (s.seq.campaign.map fun k => k.kind.prefersActive).getD true = decide (k.kind ≠ .replan) by
    rw [hk]; exact prefersActive_eq k.kind]
  generalize setSeq .plan (dropStage s) = u at hseq hcell hqueue hstore
  split
  · next hnone =>
    have e := trip_entry (cause := .tooFewCells) (s := postOpen u) (k := { k with issue := none }) (by rw [postOpen_seq, hseq])
      (by rw [postOpen_seq, hseq]; exact hh) (by rw [postOpen_seq, hseq]; simp)
    have ecell (c : CellRef) : (trip .tooFewCells (postOpen u)).cell c = u.cell c := by
      rw [e.cell, cell_of_cells (postOpen_cells u), hcell]
    have eplan := computePlan_congr ecell (e.store.trans (postOpen_store u)) (decide (k.kind ≠ .replan)) (s.seq.lastTag + 1)
    refine ⟨fun c => (ecell c).trans (hcell c), e.queue.trans ((postOpen_queue u).trans hqueue), by rw [e.seq],
      fun _ => ⟨by rw [e.seq], by rw [e.seq], by rw [e.plans]⟩, fun p hp => ?_⟩
    rw [eplan, hnone] at hp
    cases hp
  · next p hsome =>
    generalize hw : ({ modCampaign (fun k => { k with pendingTag := some (s.seq.lastTag + 1) }) u with
      plans.pending := some p, seq.lastTag := s.seq.lastTag + 1 } : State) = w
    have hwc : w.cells = u.cells := by rw [← hw]; rfl
    have ecell (c : CellRef) : (postOpen w).cell c = u.cell c := by
      rw [cell_of_cells (postOpen_cells w), cell_of_cells hwc]
    have eplan := computePlan_congr ecell ((postOpen_store w).trans (by rw [← hw]; rfl)) (decide (k.kind ≠ .replan))
      (s.seq.lastTag + 1)
    have hws : w.seq.watch = none ∧ w.seq.state = .plan ∧ w.seq.lastTag = s.seq.lastTag + 1 := by
      rw [← hw]; simp [modCampaign, hseq]
    obtain ⟨hwatch, hstate, htag⟩ := hws
    refine ⟨fun c => (ecell c).trans (hcell c), ?_, by rw [postOpen_seq]; exact hwatch, fun hnone => ?_, fun q hq => ?_⟩
    · rw [postOpen_queue, ← hw]; exact hqueue
    · rw [eplan, hsome] at hnone
      cases hnone
    · rw [eplan, hsome] at hq
      rw [postOpen_seq, postOpen_plans, ← hw]
      rw [← hw] at hstate
      exact ⟨hstate, hq, rfl⟩

/-! ### A bypass accepted -/

/-- The device with a bypass accepted, before ISOLATE is left (R14, R71). -/
def acceptedState (blind : Bool) (c : CellRef) (s : State) : State :=
  strikeAndBypass c (State.modCell { s with queue := s.queue.filter (·.cell ≠ c) } c fun x => { x with
    isolation := none
    fault := x.fault.map fun f => { f with blind := f.blind || blind } })

theorem acceptBypass_eq (blind : Bool) (c : CellRef) (s : State) :
    acceptBypass blind c s = isolateCheck (acceptedState blind c s) := rfl

theorem acceptedState_only (blind : Bool) (c : CellRef) (s : State) :
    OnRecord c { s with queue := s.queue.filter (·.cell ≠ c) } (acceptedState blind c s) :=
  (OnRecord.strikeAndBypass c _).after (OnRecord.modCell c _ _)

/-- The record of a cell whose bypass has been accepted; its flags alone are not said. -/
theorem acceptedState_cell (blind : Bool) (c : CellRef) (s : State) :
    ∃ flags, (acceptedState blind c s).cell c = { s.cell c with
      isolation := none
      fault := (s.cell c).fault.map fun f => { f with blind := f.blind || blind }
      strikes := min 7 ((s.cell c).strikes + 1)
      service := if cfgStrikeLimit s.store.image ≤ min 7 ((s.cell c).strikes + 1) then .lockedOut else .bypassed
      offset := none
      dcDebounce := 0
      flags := flags } := by
  unfold acceptedState
  rw [strikeAndBypass_cell_same, cell_modCell_same]
  exact ⟨_, rfl⟩

theorem mem_faultedInSet {s : State} {k : Campaign} (hk : s.seq.campaign = some k) {c : CellRef} :
    c ∈ faultedInSet s ↔ c ∈ k.set ∧ (s.cell c).service = .faulted := by
  simp [faultedInSet, hk]

/-- ISOLATE goes on while another cell of the set is FAULTED. -/
theorem acceptBypass_waits {blind : Bool} {c d : CellRef} {s : State} {k : Campaign} (hk : s.seq.campaign = some k)
    (hd : d ≠ c) (hset : d ∈ k.set) (hs : (s.cell d).service = .faulted) :
    acceptBypass blind c s = acceptedState blind c s := by
  have ho := acceptedState_only blind c s
  have hmem : d ∈ faultedInSet (acceptedState blind c s) := by
    rw [mem_faultedInSet (k := k) (by rw [ho.seq]; exact hk), ho.others d hd]
    exact ⟨hset, hs⟩
  rw [acceptBypass_eq, isolateCheck, if_neg]
  rintro ⟨_, h⟩
  rw [h] at hmem
  cases hmem

theorem bypassedService_ne_faulted (s : State) (n : Nat) : struckService s n ≠ .faulted := by
  unfold struckService
  split <;> simp

/-- With the last bypass of the set, ISOLATE is left for PLAN. -/
theorem acceptBypass_last {blind : Bool} {c : CellRef} {s : State} {k : Campaign} (hi : s.seq.state = .isolate)
    (hk : s.seq.campaign = some k) (hset : ∀ d ∈ k.set, d ≠ c → (s.cell d).service ≠ .faulted) :
    acceptBypass blind c s = enterPlan (acceptedState blind c s) := by
  have ho := acceptedState_only blind c s
  obtain ⟨flags, hc⟩ := acceptedState_cell blind c s
  have hnone : faultedInSet (acceptedState blind c s) = [] := by
    refine List.eq_nil_iff_forall_not_mem.2 fun d hd => ?_
    obtain ⟨hmem, hf⟩ := (mem_faultedInSet (k := k) (by rw [ho.seq]; exact hk)).1 hd
    by_cases hdc : d = c
    · subst hdc
      rw [hc] at hf
      exact bypassedService_ne_faulted s _ hf
    · exact hset d hmem hdc (by rw [← hf, ho.others d hdc]; rfl)
  rw [acceptBypass_eq, isolateCheck, if_pos ⟨by rw [ho.seq]; exact hi, hnone⟩]

/-- What the last accepted bypass of the set leads to. -/
theorem acceptBypass_last_plans (b : Bool) {c : CellRef} {s : State} {k : Campaign} (hi : s.seq.state = .isolate)
    (hk : s.seq.campaign = some k) (hh : s.seq.heldHalt = false)
    (hset : ∀ d ∈ k.set, d ≠ c → (s.cell d).service ≠ .faulted) :
    (acceptBypass b c s).seq.watch = none ∧ (acceptBypass b c s).queue = s.queue.filter (·.cell ≠ c)
      ∧ PlansOrTrips s (acceptBypass b c s) k
      ∧ (((acceptBypass b c s).cell c).service = .bypassed ∨ ((acceptBypass b c s).cell c).service = .lockedOut) := by
  have ho := acceptedState_only b c s
  obtain ⟨flags, hc⟩ := acceptedState_cell b c s
  rw [acceptBypass_last hi hk hset]
  have hp := enterPlan_entry (s := acceptedState b c s) (k := k) (by rw [ho.seq]; exact hk) (by rw [ho.seq]; exact hh)
  refine ⟨hp.watch, hp.queue.trans ho.queue, ?_, ?_⟩
  · have hpl := hp.plans
    unfold PlansOrTrips at hpl ⊢
    rwa [ho.seq] at hpl
  · rw [hp.cell, hc]
    dsimp only
    split
    · exact .inr rfl
    · exact .inl rfl

/-! ### What brings it about -/

theorem blindWaitDue_iff {s : State} {c : CellRef} {st : Stamp} (h : (s.cell c).isolation = some (.blind st)) :
    blindWaitDue s c = true ↔ cfgBlindWait s.store.image * 1000 ≤ (s.gen.timebase - st).toNat := by
  simp only [blindWaitDue, h, decide_eq_true_eq]
  rfl

/-- The blind wait's expiry, with blind assume on (R90). -/
theorem exec_blindWait {s : State} {c : CellRef} {st : Stamp} (hq : Quiet s) (hi : s.seq.state = .isolate)
    (h : (s.cell c).isolation = some (.blind st)) (hdue : cfgBlindWait s.store.image * 1000 ≤ (s.gen.timebase - st).toNat)
    (ha : cfgBlindAssume s.store.image = true) : exec (.blindWaitExpiry c) s = .next (acceptBypass true c s) := by
  change Host.Outcome.next (settle (blindWaitEnds c s)) = _
  rw [blindWaitEnds_due ((blindWaitDue_iff h).2 hdue) hi, if_pos ha, (keeps_acceptBypass _ _ _).settle hq]

/-- A clean response of a linked cell that shows CLOSED while its bypass timer runs (R89). -/
theorem slotStep_closed {s : State} {c : CellRef} {st : Stamp} {seen : SlotSeen} {r : Response} (ha : Answers c seen r s)
    (hi : s.seq.state = .isolate) (h : (s.cell c).isolation = some (.bypass st)) (hs : (s.cell c).service = .faulted)
    (hl : (s.cell c).link = .enrolled) (h0 : r.classCode = 0) (hm : r.message = .none) (hb : r.bypass = 1) :
    slotStep c seen s = blockCheck (confirmGateOff c r (acceptBypass false c (heardState c r s))) := by
  have hcell : ((heardState c r s).cell c).isolation = some (.bypass st) := by
    rw [heardState, cell_modCell_same]; exact h
  rw [slotStep_valid ha, takeValid_linked hl ha.2.1 hm, takeReported, if_pos h0, dcCheck_idle _ _ (by rw [hs]; rfl)]
  unfold confirmBypass
  rw [h, hcell]
  dsimp only
  rw [if_pos ⟨hi, hb⟩]

end Sys2Proof.Machine

open Sys2Proof Sys2Proof.Machine

/-- Settles O36: the record of an accepted bypass, and the entry into PLAN after the last. -/
theorem blindWaitAcceptsTheBypass : Obligations.BlindWaitAcceptsTheBypass := by
  refine ⟨?_, ?_, ?_⟩
  · intro s k c d st hq hi hk h hdue ha hd hset hs
    have ho := acceptedState_only true c s
    obtain ⟨flags, hc⟩ := acceptedState_cell true c s
    refine ⟨_, exec_blindWait hq hi h hdue ha, ?_⟩
    rw [acceptBypass_waits hk hd hset hs, hc]
    exact ⟨rfl, rfl, by simp, rfl, rfl, ho.queue, ho.others, ho.seq, ho.lock, ho.plans, ho.store, ho.rings, ho.gen,
      ho.pending⟩
  · intro s k c d st seen r hq hi hk hw h hs hl ha h0 hm hb hd hset hds
    have hh := heardState_only c r s
    have ho := acceptedState_only false c (heardState c r s)
    obtain ⟨flags, hc⟩ := acceptedState_cell false c (heardState c r s)
    refine ⟨_, exec_slotEnd hq c seen, ?_⟩
    rw [slotStep_closed ha hi h hs hl h0 hm hb,
      acceptBypass_waits (k := k) (by rw [hh.seq]; exact hk) hd hset (by rw [hh.others d hd]; exact hds),
      blockCheck_unwatched r (by rw [ho.seq]; exact hw), hc, heardState_cell]
    have hf : ((s.cell c).fault.map fun f : FaultRecord => { f with blind := f.blind || false }) = (s.cell c).fault := by
      simp
    exact ⟨rfl, rfl, hf, rfl, rfl, rfl, rfl, ho.queue, fun e he => (ho.others e he).trans (hh.others e he), ho.seq, ho.lock,
      ho.plans, ho.store, ho.rings, ho.gen, ho.pending⟩
  · intro s k c st e hq hi hk hheld hset hev
    rcases hev with ⟨rfl, h, hdue, ha⟩ | ⟨seen, r, rfl, h, hs, hl, ha, h0, hm, hb⟩
    · obtain ⟨_, hresult⟩ := acceptBypass_last_plans true hi hk hheld hset
      exact ⟨_, exec_blindWait hq hi h hdue ha, hresult⟩
    · have hh := heardState_only c r s
      obtain ⟨hw, hresult⟩ := acceptBypass_last_plans (s := heardState c r s) (c := c) false hi hk hheld
        fun d hd hdc => by rw [hh.others d hdc]; exact hset d hd hdc
      refine ⟨_, exec_slotEnd hq c seen, ?_⟩
      rw [slotStep_closed ha hi h hs hl h0 hm hb, blockCheck_unwatched r hw]
      exact hresult

end


section
/-! PROOFS. A severing that ends BLOCK's watch, from a state that carries a ramp step count: the state that refutes the
obligation about severed ACTIVE cells. -/

namespace Sys2Proof.Machine

open Sys2Proof

/-- The open campaign of the refuting state. -/
def countedCampaign : Campaign where
  number := 1
  kind := .fault
  style := some .running
  iteration := 1
  set := []
  opened := 0
  pendingTag := none
  issue := none

/-- BLOCK with cell 1 the last one watched and one miss away from severing, and a ramp step count of 1. -/
def countedBlock : State :=
  { State.reset with
    store.mode := .service
    rings := { lit := true, healthOn := true, mail := ⟨none, none, none⟩, frames := none }
    cells := resetCells.set 0 { Cell.empty .active with link := .enrolled, missCount := 234 }
    seq.state := .block
    seq.campaign := some countedCampaign
    seq.watch := some { cells := [0], starts := 1 }
    lock.rampCount := 1
    link.transmitting := some { record := { recordType := 0x80, tag := 0, body := [] }, since := 0 } }

/-- The severing ends BLOCK, and the entry into ISOLATE drops the ramp step count. -/
theorem countedBlock_severed : (slotStep 0 ⟨false, none⟩ countedBlock).seq.state = .isolate
    ∧ (slotStep 0 ⟨false, none⟩ countedBlock).lock.rampCount = 0 := by decide +kernel

end Sys2Proof.Machine

open Sys2Proof Sys2Proof.Machine

/-- Refutes O49: where a severing ends BLOCK's watch, the entry into ISOLATE drops the resume timer and the ramp step count, so
the clause that keeps the whole interlock unit fails from a state in BLOCK that carries one of them. -/
theorem not_severedActiveCellOpensAFaultCampaign : ¬ Obligations.SeveredActiveCellOpensAFaultCampaign := by
  rintro ⟨_, hsevered, _⟩
  have hq : Quiet countedBlock := by decide +kernel
  obtain ⟨_, _, _, _, hstages⟩ := hsevered 0 ⟨false, none⟩ countedBlock hq (by decide +kernel) rfl rfl (by decide +kernel)
    (by decide +kernel) (by decide +kernel)
  obtain ⟨hblock, _⟩ := hstages countedCampaign rfl
  obtain ⟨t, ht, _, _, _, hlock, _⟩ := hblock { cells := [0], starts := 1 } rfl rfl (by decide +kernel)
  have hnext : t = slotStep 0 ⟨false, none⟩ countedBlock := by
    rw [exec_slotEnd hq] at ht
    exact (Host.Outcome.next.inj ht).symm
  obtain ⟨_, hdropped⟩ := countedBlock_severed
  rw [← hnext, hlock] at hdropped
  exact absurd hdropped (by decide)

end


section
/-! PROOFS. The lead of a pending plan that deselects a cell and names no RESERVE cell: the state that refutes the obligation
about the epoch check. -/

namespace Sys2Proof.Machine

open Sys2Proof

/-- A plan that deselects cell 1 and moves no other cell. -/
def deselectingPlan : Plan where
  tag := 1
  m := 0
  active := ⟨[], [], []⟩
  deselected := [0]
  voltage := 0
  speed := 0

/-- PLAN with that plan pending and cell 1 ACTIVE with the ability of its enrolment. -/
def deselecting : State :=
  { State.reset with
    store.mode := .service
    cells := resetCells.set 0 { Cell.empty .active with
      ability := some {
        serial := 1, ratedDc := 1000, cellClass := 0, bypassKind := .contactor, halfRateCapable := false
        firmwareMajor := 1, firmwareMinor := 0 } }
    seq.state := .plan
    seq.campaign := some countedCampaign
    plans.pending := some deselectingPlan
    link.transmitting := some { record := { recordType := 0x80, tag := 0, body := [] }, since := 0 } }

/-- REPHASE is entered with the four cycles of the settings and the 40 ms of cell 1's bypass, in cycles of 250 µs. -/
theorem deselecting_lead :
    (settle (cycleStep none deselecting)).seq.rephase.map Rephase.lead = some 164 := by decide +kernel

end Sys2Proof.Machine

open Sys2Proof Sys2Proof.Machine

/-- Refutes O47: its clause about a lead of the settings alone asks only that no cell outside the deselected ones is RESERVE and
named ACTIVE, so it holds of a plan that deselects a cell, whose bypass timeout the lead counts too. -/
theorem not_epochCheckDecides : ¬ Obligations.EpochCheckDecides := by
  rintro ⟨_, _, _, hissue⟩
  obtain ⟨t, lead, ht, _, _, _, _, hrephase, hshort, _⟩ := hissue deselecting countedCampaign deselectingPlan
    (by decide +kernel) rfl rfl rfl (by decide +kernel)
  have hlead : lead = cfgRephaseLead deselecting.store.image :=
    hshort fun d _ hd => absurd hd.1 (by simp [deselectingPlan, Plan.offsetOf, Plan.activeCells])
  have hnext : settle (cycleStep none deselecting) = t := Host.Outcome.next.inj ht
  have hcounted := deselecting_lead
  rw [hnext, hrephase, hlead] at hcounted
  exact absurd hcounted (by decide +kernel)

end


section
/-! PROOFS. The bytes of a downstream frame and of a command field (Tables 12-7 and 12-8). -/

namespace Sys2Proof.Machine

open Sys2Proof

/-! ### Byte lists and their numbers -/

theorem natOfBytes_append_single (l : List Byte) (b : Byte) : natOfBytes (l ++ [b]) = natOfBytes l * 256 + b.toNat := by
  simp [natOfBytes]

theorem bytesOfNat_length (w n : Nat) : (bytesOfNat w n).length = w := by
  induction w generalizing n with
  | zero => rfl
  | succ w ih => simp [bytesOfNat, ih]

theorem natOfBytes_bytesOfNat (w n : Nat) : natOfBytes (bytesOfNat w n) = n % 256 ^ w := by
  induction w generalizing n with
  | zero => simp [bytesOfNat, natOfBytes, Nat.mod_one]
  | succ w ih =>
    rw [bytesOfNat, natOfBytes_append_single, ih, BitVec.toNat_ofNat, show 256 ^ (w + 1) = 2 ^ 8 * 256 ^ w from Nat.pow_succ',
      Nat.mod_mul, Nat.mul_comm, Nat.add_comm]
    rfl

theorem natOfBytes_bytes16 (v : BitVec 16) : natOfBytes (bytes16 v) = v.toNat := by
  simp [natOfBytes, bytes16, high16, low16]
  omega

theorem natOfBytes_bytes32 (v : BitVec 32) : natOfBytes (bytes32 v) = v.toNat := by
  simp [natOfBytes, bytes32]
  omega

theorem sendNat_fits {w n : Nat} (h : n < 256 ^ w) : sendNat w n = bytesOfNat w n := if_pos h

theorem natOfBytes_sendNat {w n : Nat} (h : n < 256 ^ w) : natOfBytes (sendNat w n) = n := by
  rw [sendNat_fits h, natOfBytes_bytesOfNat, Nat.mod_eq_of_lt h]

theorem sendNat_length (w n : Nat) : (sendNat w n).length = w := by
  unfold sendNat
  split
  · exact bytesOfNat_length w n
  · simp

theorem natOfBytes_zeros (n : Nat) : natOfBytes (List.replicate n 0) = 0 := by
  induction n with
  | zero => rfl
  | succ n ih => rw [List.replicate_succ', natOfBytes_append_single, ih]; rfl

/-- A field of a frame is a sublist between what stands before it and what stands after it. -/
theorem byteField_between {before part after : List Byte} {offset width : Nat} (h : before.length = offset)
    (hw : part.length = width) : byteField (before ++ part ++ after) offset width = natOfBytes part := by
  subst h hw
  simp [byteField]

/-! ### A command field -/

/-- The first byte of a command field. -/
def fieldHead (x : CommandField) : Byte :=
  BitVec.ofBool x.gateOn ++ (BitVec.ofBool x.close ++ (BitVec.ofBool x.respond ++ (0#2 ++ messageCode x.message)))

theorem fieldHead_toNat (x : CommandField) : (fieldHead x).toNat
    = 128 * x.gateOn.toNat + 64 * x.close.toNat + 32 * x.respond.toNat + (messageCode x.message).toNat := by
  have h : ∀ (a b c : Bool) (m : BitVec 3), (BitVec.ofBool a ++ (BitVec.ofBool b ++ (BitVec.ofBool c ++ (0#2 ++ m)))).toNat
      = 128 * a.toNat + 64 * b.toNat + 32 * c.toNat + m.toNat := by decide
  exact h _ _ _ _

/-- The first byte of a TUNNEL message. -/
theorem tunnelHead_toNat (poll final : Bool) (seq n : Nat) (hn : n ≤ 4) :
    (BitVec.ofBool poll ++ (BitVec.ofBool final ++ (BitVec.ofNat 2 seq ++ (0#1 ++ BitVec.ofNat 3 n)))).toNat
      = 128 * poll.toNat + 64 * final.toNat + 16 * (seq % 4) + n := by
  have h : ∀ (a b : Bool) (c : BitVec 2) (m : BitVec 3), (BitVec.ofBool a ++ (BitVec.ofBool b ++ (c ++ (0#1 ++ m)))).toNat
      = 128 * a.toNat + 64 * b.toNat + 16 * c.toNat + m.toNat := by decide
  rw [h, BitVec.toNat_ofNat, BitVec.toNat_ofNat]
  omega

theorem fieldByteList_eq (x : CommandField) :
    fieldByteList x = [fieldHead x] ++ sendNat 2 x.slotStart ++ downMessageBytes x.message := rfl

theorem downMessageBytes_length {m : DownMessage}
    (h : ∀ poll final seq bytes, m = .tunnel poll final seq bytes → bytes.length ≤ 4) :
    (downMessageBytes m).length = 7 := by
  cases m with
  | none => rfl
  | withdrawn => rfl
  | plan tag epoch offset =>
    cases offset with
    | none => rfl
    | some offset => simp [downMessageBytes, bytes16, sendNat_length]
  | invite => rfl
  | accept serial => rfl
  | tunnel poll final seq bytes =>
    have hb := h poll final seq bytes rfl
    simp [downMessageBytes]
    omega

/-- A part of the message bytes of a command field. -/
theorem byteField_message {x : CommandField} {before part after : List Byte} {offset width v : Nat}
    (hm : downMessageBytes x.message = before ++ part ++ after) (ho : before.length + 3 = offset)
    (hw : part.length = width) (hv : natOfBytes part = v) : byteField (fieldByteList x) offset width = v := by
  have e : fieldByteList x = ([fieldHead x] ++ sendNat 2 x.slotStart ++ before) ++ part ++ after := by
    rw [fieldByteList_eq, hm]; simp
  rw [e, ← hv]
  exact byteField_between (by simp [sendNat_length]; omega) hw

/-- The bytes of a command field, in the words of Table 12-8. -/
theorem fieldByteList_fields (x : CommandField)
    (hoffset : ∀ tag epoch offset, x.message = .plan tag epoch (some offset) → offset < 16777216)
    (hchunk : ∀ poll final seq bytes, x.message = .tunnel poll final seq bytes → bytes.length ≤ 4) :
    (∀ tag epoch offset, x.message = .plan tag epoch (some offset) →
      byteField (fieldByteList x) 3 1 = tag.toNat ∧ byteField (fieldByteList x) 4 2 = epoch.toNat
      ∧ byteField (fieldByteList x) 6 1 = 1 ∧ byteField (fieldByteList x) 7 3 = offset)
    ∧ (∀ tag epoch, x.message = .plan tag epoch none →
      byteField (fieldByteList x) 3 1 = tag.toNat ∧ byteField (fieldByteList x) 4 2 = epoch.toNat
      ∧ byteField (fieldByteList x) 6 1 = 2 ∧ byteField (fieldByteList x) 7 3 = 0)
    ∧ (∀ serial, x.message = .accept serial →
      byteField (fieldByteList x) 3 4 = serial.toNat ∧ byteField (fieldByteList x) 7 3 = 0)
    ∧ (∀ poll final seq bytes, x.message = .tunnel poll final seq bytes →
      byteField (fieldByteList x) 3 1 = 128 * poll.toNat + 64 * final.toNat + 16 * (seq % 4) + bytes.length
      ∧ ((fieldByteList x).drop 4).take bytes.length = bytes)
    ∧ ((x.message = .none ∨ x.message = .withdrawn ∨ x.message = .invite) → byteField (fieldByteList x) 3 7 = 0) := by
  refine ⟨fun tag epoch offset h => ?_, fun tag epoch h => ?_, fun serial h => ?_, fun poll final seq bytes h => ?_,
    fun h => ?_⟩
  · have hm : downMessageBytes x.message = [tag] ++ bytes16 epoch ++ [1] ++ sendNat 3 offset := by rw [h]; rfl
    exact ⟨byteField_message (before := []) (part := [tag]) (by rw [hm]; rfl) rfl rfl (by simp [natOfBytes]),
      byteField_message (before := [tag]) (part := bytes16 epoch) (by rw [hm]; rfl) rfl rfl (natOfBytes_bytes16 epoch),
      byteField_message (before := [tag] ++ bytes16 epoch) (part := [1]) hm rfl rfl rfl,
      byteField_message (before := [tag] ++ bytes16 epoch ++ [1]) (after := []) (by rw [hm, List.append_nil]) rfl
        (sendNat_length 3 offset) (natOfBytes_sendNat (hoffset tag epoch offset h))⟩
  · have hm : downMessageBytes x.message = [tag] ++ bytes16 epoch ++ [2, 0, 0, 0] := by rw [h]; rfl
    exact ⟨byteField_message (before := []) (part := [tag]) (by rw [hm]; rfl) rfl rfl (by simp [natOfBytes]),
      byteField_message (before := [tag]) (part := bytes16 epoch) hm rfl rfl (natOfBytes_bytes16 epoch),
      byteField_message (before := [tag] ++ bytes16 epoch) (part := [2]) (after := [0, 0, 0]) hm rfl rfl rfl,
      byteField_message (before := [tag] ++ bytes16 epoch ++ [2]) (part := [0, 0, 0]) (after := []) hm rfl rfl rfl⟩
  · have hm : downMessageBytes x.message = bytes32 serial ++ List.replicate 3 0 := by rw [h]; rfl
    exact ⟨byteField_message (before := []) (part := bytes32 serial) hm rfl rfl (natOfBytes_bytes32 serial),
      byteField_message (before := bytes32 serial) (after := []) (by rw [hm, List.append_nil]) rfl rfl (natOfBytes_zeros 3)⟩
  · have hb := hchunk poll final seq bytes h
    generalize hhead : BitVec.ofBool poll ++ (BitVec.ofBool final ++ (BitVec.ofNat 2 seq
      ++ (0#1 ++ BitVec.ofNat 3 bytes.length))) = head
    have hm : downMessageBytes x.message
        = [head] ++ (bytes ++ (List.replicate (4 - bytes.length) 0 ++ List.replicate 2 0)) := by
      rw [h, ← hhead]; simp [downMessageBytes]
    refine ⟨byteField_message (before := []) (part := [head]) hm rfl rfl ?_, ?_⟩
    · rw [← tunnelHead_toNat poll final seq _ hb, hhead]
      simp [natOfBytes]
    · have e : fieldByteList x = ([fieldHead x] ++ sendNat 2 x.slotStart ++ [head])
          ++ (bytes ++ (List.replicate (4 - bytes.length) 0 ++ List.replicate 2 0)) := by
        rw [fieldByteList_eq, hm]; simp
      rw [e, List.drop_left' (by simp [sendNat_length]), List.take_left' rfl]
  · have hm : downMessageBytes x.message = List.replicate 7 0 := by rcases h with h | h | h <;> rw [h] <;> rfl
    exact byteField_message (before := []) (after := []) (by rw [hm]; rfl) rfl rfl (natOfBytes_zeros 7)

/-! ### A frame -/

theorem flatMap_length_const {α : Type} {g : α → List Byte} {n : Nat} (l : List α) (h : ∀ x ∈ l, (g x).length = n) :
    (l.flatMap g).length = n * l.length := by
  rw [List.length_flatMap, List.map_congr_left h, List.map_const', List.sum_replicate, smul_eq_mul, Nat.mul_comm]

/-- One item's bytes of a list whose items all take `n` bytes. -/
theorem flatMap_take {α : Type} {g : α → List Byte} {n : Nat} (l : List α) (h : ∀ x ∈ l, (g x).length = n)
    (after : List Byte) (k : Nat) (x : α) (hx : l[k]? = some x) : ((l.flatMap g ++ after).drop (n * k)).take n = g x := by
  induction l generalizing k with
  | nil => cases hx
  | cons y ys ih =>
    have hy : (g y).length = n := h y (by simp)
    rw [List.flatMap_cons, List.append_assoc]
    cases k with
    | zero =>
      cases hx
      rw [Nat.mul_zero, List.drop_zero, List.take_left' hy]
    | succ k =>
      rw [Nat.mul_succ, Nat.add_comm, ← List.drop_drop, List.drop_left' hy]
      exact ih (fun z hz => h z (by simp [hz])) k hx

theorem frameBytes_eq (f : DownFrame) : f.bytes
    = bytes16 f.cycle ++ sendNat 2 f.scale ++ f.fields.flatMap fieldByteList
      ++ bytes16 (crc16 (bytes16 f.cycle ++ sendNat 2 f.scale ++ f.fields.flatMap fieldByteList)) := rfl

/-- The bytes of a downstream frame, in the words of Table 12-7. -/
theorem frameBytes_fields (f : DownFrame) (h8 : f.fields.length = 8) (hscale : f.scale < 65536)
    (h10 : ∀ x ∈ f.fields, (fieldByteList x).length = 10) :
    f.bytes.length = 86 ∧ byteField f.bytes 0 2 = f.cycle.toNat ∧ byteField f.bytes 2 2 = f.scale
    ∧ (∀ (k : Nat) (x : CommandField), f.fields[k]? = some x → (f.bytes.drop (4 + 10 * k)).take 10 = fieldByteList x)
    ∧ byteField f.bytes 84 2 = (crc16 (f.bytes.take 84)).toNat := by
  have hlen := flatMap_length_const f.fields h10
  rw [h8] at hlen
  have hhead : (bytes16 f.cycle ++ sendNat 2 f.scale).length = 4 := by simp [bytes16, sendNat_length]
  have hbody : (bytes16 f.cycle ++ sendNat 2 f.scale ++ f.fields.flatMap fieldByteList).length = 84 := by
    rw [List.length_append, hhead, hlen]
  rw [frameBytes_eq]
  generalize hcrc : crc16 (bytes16 f.cycle ++ sendNat 2 f.scale ++ f.fields.flatMap fieldByteList) = crc
  refine ⟨?_, ?_, ?_, fun k x hx => ?_, ?_⟩
  · rw [List.length_append, hbody]; rfl
  · rw [List.append_assoc, List.append_assoc]
    exact (byteField_between (before := []) rfl rfl).trans (natOfBytes_bytes16 f.cycle)
  · rw [List.append_assoc]
    exact (byteField_between rfl (sendNat_length 2 f.scale)).trans (natOfBytes_sendNat hscale)
  · rw [List.append_assoc _ (f.fields.flatMap fieldByteList), ← List.drop_drop, List.drop_left' hhead]
    exact flatMap_take f.fields h10 _ k x hx
  · rw [List.take_left' hbody, hcrc, ← List.append_nil (_ ++ bytes16 crc)]
    exact (byteField_between hbody rfl).trans (natOfBytes_bytes16 crc)

end Sys2Proof.Machine
end


section
/-! PROOFS. A cycle start: what the rings' counts in cycles leave as it was, and the command fields of the frames it builds. -/

namespace Sys2Proof.Machine

open Sys2Proof

/-! ### The rings' counts in cycles -/

/-- What the rings' counts in cycles leave of the device beside the items of `Keeps`. -/
structure Counted (s t : State) : Prop extends Keeps s t where
  settings : t.store = s.store
  seq : t.seq = s.seq
  lock : t.lock = s.lock
  plans : t.plans = s.plans
  queue : t.queue = s.queue
  service : ∀ d : CellRef, (t.cell d).service = (s.cell d).service ∧ (t.cell d).fault = (s.cell d).fault

namespace Counted

theorem refl (s : State) : Counted s s := ⟨.refl s, rfl, rfl, rfl, rfl, rfl, fun _ => ⟨rfl, rfl⟩⟩

theorem trans {s t u : State} (h : Counted s t) (k : Counted t u) : Counted s u where
  toKeeps := h.toKeeps.trans k.toKeeps
  settings := k.settings.trans h.settings
  seq := k.seq.trans h.seq
  lock := k.lock.trans h.lock
  plans := k.plans.trans h.plans
  queue := k.queue.trans h.queue
  service d := ⟨(k.service d).1.trans (h.service d).1, (k.service d).2.trans (h.service d).2⟩

theorem foldl {α : Type} {f : State → α → State} (hf : ∀ s a, Counted s (f s a)) (l : List α) (s : State) :
    Counted s (l.foldl f s) :=
  List.foldlRecOn (motive := Counted s) l f (refl s) fun _ h a _ => h.trans (hf _ a)

/-- An operation on one cell that leaves its service state and its fault record. -/
theorem of_only {c : CellRef} {s t : State} (hk : Keeps s t) (h : OnlyCell c s t)
    (hc : (t.cell c).service = (s.cell c).service ∧ (t.cell c).fault = (s.cell c).fault) : Counted s t := by
  refine ⟨hk, h.store, h.seq, h.lock, h.plans, h.queue, fun d => ?_⟩
  by_cases hd : d = c
  · subst hd
    exact hc
  · rw [h.others d hd]
    exact ⟨rfl, rfl⟩

end Counted

/-! ### A failed enrolment attempt (R50) -/

theorem failAttempt_only (c : CellRef) (s : State) : OnlyCell c s (failAttempt c s) := by
  unfold failAttempt
  dsimp only
  split
  · exact (OnRecord.setFlag _ c _).toOnlyCell.after ((OnlyCell.enterLink _ _ _ c _).after (OnRecord.modCell c _ s).toOnlyCell)
  · exact (OnlyCell.enterLink _ _ _ c _).after (OnRecord.modCell c _ s).toOnlyCell

/-- The record after a failed attempt: DARK, or UNSTEADY with its flag at the third. -/
def failedCell (now : Stamp) (x : Cell) : Cell :=
  { linkItems (if 2 ≤ x.unsteadyCount then .unsteady else .dark) none none now x with
    unsteadyCount := min 3 (x.unsteadyCount + 1)
    flags := if 2 ≤ x.unsteadyCount then x.flags ||| ReportFlag.unsteady.mask else x.flags }

theorem failedCell_missCount (now : Stamp) (x : Cell) : (failedCell now x).missCount = 0 := by
  unfold failedCell linkItems
  exact if_neg (by split <;> simp)

theorem failAttempt_cell (c : CellRef) (s : State) : (failAttempt c s).cell c = failedCell s.now (s.cell c) := by
  unfold failAttempt failedCell
  dsimp only
  by_cases h : 2 ≤ (s.cell c).unsteadyCount
  · rw [if_pos (by omega), if_pos h, if_pos h, setFlag_cell_same, enterLink_cell_same, cell_modCell_same]
    rfl
  · rw [if_neg (by omega), if_neg h, if_neg h, enterLink_cell_same, cell_modCell_same]
    rfl

theorem counted_failAttempt (c : CellRef) (s : State) : Counted s (failAttempt c s) :=
  .of_only (keeps_failAttempt c s) (failAttempt_only c s) (by rw [failAttempt_cell]; exact ⟨rfl, rfl⟩)

theorem counted_confirmCycle (s : State) (c : CellRef) : Counted s (confirmCycle s c) := by
  unfold confirmCycle
  split
  · split
    · exact counted_failAttempt c s
    · exact .of_only (keeps_modCell c _ s) (OnRecord.modCell c _ s).toOnlyCell (by rw [cell_modCell_same]; exact ⟨rfl, rfl⟩)
  · exact .refl s

theorem counted_endExchange (p : Phase) (k : ReplyCode) (s : State) : Counted s (endExchange p k s) :=
  ⟨keeps_endExchange p k s, by simp, by simp, by simp, by simp, by simp, fun d => by
    rw [cell_of_cells (endExchange_cells p k s)]; exact ⟨rfl, rfl⟩⟩

theorem counted_tunnelCycle (s : State) (p : Phase) : Counted s (tunnelCycle s p) := by
  unfold tunnelCycle
  split
  · exact .refl s
  · next x hx =>
    split
    · exact .refl s
    · split
      · exact counted_endExchange p _ s
      · refine ⟨⟨rfl, rfl, rfl, rfl, rfl, rfl, rfl, rfl, fun q y hy => ?_⟩, rfl, rfl, rfl, rfl, rfl, fun _ => ⟨rfl, rfl⟩⟩
        rw [Rings.get_set] at hy
        split at hy
        · next e =>
          subst e
          cases hy
          exact ⟨x, hx, by split <;> rfl⟩
        · exact ⟨y, hy, rfl⟩

theorem counted_ringCycle (s : State) : Counted s (ringCycle s) := by
  unfold ringCycle
  split
  · exact (Counted.foldl counted_confirmCycle allCells s).trans (.foldl counted_tunnelCycle phases _)
  · exact .refl s

end Sys2Proof.Machine
end


section
/-! PROOFS. A cycle start as a whole, and the obligation about the frames it builds. -/

namespace Sys2Proof.Machine

open Sys2Proof

/-! ### The state that the sequencer's part of a cycle start meets -/

/-- The device after the cycle generator's, the rings' and the self-test's parts of a cycle start. -/
def roundState (loopback : Option (List Byte)) (s : State) : State :=
  testCycle loopback (ringCycle (lightRings (startCycle s)))

theorem cycleStep_eq (loopback : Option (List Byte)) (s : State) :
    cycleStep loopback s = sendFrames (!atEpoch (roundState loopback s)) (seqCycle (roundState loopback s)) := rfl

theorem testCycle_eq (loopback : Option (List Byte)) (s : State) :
    ∃ m, testCycle loopback s = { s with store.selfTest := m } := by
  unfold testCycle
  split
  · exact ⟨_, rfl⟩
  · split
    · exact ⟨_, rfl⟩
    · exact ⟨_, rfl⟩

/-- What those parts write and leave. -/
structure Round (s v : State) : Prop where
  gen : v.gen = { s.gen with
    cycle := s.gen.cycle + 1, period := cfgCyclePeriod s.store.image, cycleStart := s.gen.timebase }
  image : v.store.image = s.store.image
  mode : v.store.mode = s.store.mode
  lit : v.rings.lit = decide (s.store.mode = .service)
  link : v.link = { s.link with replies := v.link.replies }
  mail : ∀ p x, v.rings.mail.get p = some x → ∃ y, s.rings.mail.get p = some y ∧ y.cell = x.cell
  pending : v.pending = s.pending
  seq : v.seq = s.seq
  lock : v.lock = s.lock
  plans : v.plans = s.plans
  queue : v.queue = s.queue
  service : ∀ d : CellRef, (v.cell d).service = (s.cell d).service ∧ (v.cell d).fault = (s.cell d).fault

theorem roundState_round (loopback : Option (List Byte)) (s : State) : Round s (roundState loopback s) := by
  have h := counted_ringCycle (lightRings (startCycle s))
  obtain ⟨m, hm⟩ := testCycle_eq loopback (ringCycle (lightRings (startCycle s)))
  have hmode : (ringCycle (lightRings (startCycle s))).store.mode = s.store.mode := congrArg Store.mode h.settings
  unfold roundState
  rw [hm]
  exact ⟨h.gen, h.image, hmode, by rw [h.rings]; rfl, h.link, h.mail, h.pending, h.seq, h.lock, h.plans, h.queue, h.service⟩

/-! ### The frames -/

/-- Where the frames leave the device they were built from. -/
theorem sendFrames_eq (plans : Bool) (s : State) : ∃ frames mail,
    sendFrames plans s = { s with rings := { s.rings with frames := frames, mail := mail } }
      ∧ frames = (if s.rings.lit = true then
        some ⟨buildFrame s plans .a, buildFrame s plans .b, buildFrame s plans .c⟩ else none)
      ∧ ∀ p, s.rings.mail.get p = none → mail.get p = none := by
  unfold sendFrames
  split
  · exact ⟨_, _, rfl, rfl, fun p hp => by cases p <;> simp_all [Rings.get]⟩
  · exact ⟨_, _, rfl, rfl, fun p hp => hp⟩

theorem cellsOf_position (d : CellRef) : (cellsOf (phaseOf d))[positionOf d - 1]? = some d := by
  revert d
  decide

theorem cellsOf_length (p : Phase) : (cellsOf p).length = 8 := by cases p <;> decide

theorem buildFrame_field (s : State) (plans : Bool) (d : CellRef) :
    (buildFrame s plans (phaseOf d)).fields[positionOf d - 1]? = some (commandField s plans d) := by
  simp [buildFrame, cellsOf_position]

/-! ### The command field of a position -/

variable {s : State} {d : CellRef}

theorem commandField_vacant (plans : Bool) (h : s.installed d = false) : commandField s plans d
    = { gateOn := false, close := true, respond := false, slotStart := 0, message := .none } := by
  simp [commandField, h]

theorem commandField_installed (plans : Bool) (h : s.installed d = true) : commandField s plans d
    = { gateOn := gateEnable s d, close := bypassClose s d, respond := s.expected d
        slotStart := effectiveStart s.store.image d, message := fieldMessage s plans d } := by
  simp [commandField, h]

theorem gateEnable_iff : gateEnable s d = true ↔ (s.cell d).service = .active ∧ (s.cell d).link ≠ .severed
    ∧ (s.seq.state = .ready ∨ s.seq.state = .ramp) ∧ s.lock.driveRun.level = true := by
  simp [gateEnable]
  tauto

theorem commandField_gateOn (plans : Bool) : (commandField s plans d).gateOn = true ↔ s.installed d = true
    ∧ (s.cell d).service = .active ∧ (s.cell d).link ≠ .severed ∧ (s.seq.state = .ready ∨ s.seq.state = .ramp)
    ∧ s.lock.driveRun.level = true := by
  cases h : s.installed d
  · simp [commandField_vacant plans h]
  · rw [commandField_installed plans h, gateEnable_iff]
    simp

theorem namedActive_iff : namedActive s d = true ↔ ∃ q, s.plans.pending = some q ∧ (q.offsetOf d).isSome = true := by
  unfold namedActive
  split
  · next q h => simp [h]
  · next h => simp [h]

theorem pendingDeselects_iff : pendingDeselects s d = true ↔ ∃ q, s.plans.pending = some q ∧ d ∈ q.deselected := by
  unfold pendingDeselects
  split
  · next q h => simp [h]
  · next h => simp [h]

/-- Where the bypass command is OPEN (Table 1-5). -/
theorem baseClose_false_iff : baseClose s d = false ↔
    ((s.cell d).service = .active ∧ ¬(s.seq.state = .rephase ∧ ∃ q, s.plans.pending = some q ∧ d ∈ q.deselected))
    ∨ ((s.cell d).service = .reserve
      ∧ s.seq.state = .rephase ∧ ∃ q, s.plans.pending = some q ∧ (q.offsetOf d).isSome = true)
    ∨ ((s.cell d).service = .faulted ∧ (s.cell d).faultedClose = false) := by
  rw [← pendingDeselects_iff, ← namedActive_iff]
  unfold baseClose
  cases (s.cell d).service <;> simp [Classical.or_iff_not_imp_left]

theorem effectiveStart_eq (image : List Byte) (d : CellRef) : effectiveStart image d
    = if cfgSlotStart image d = 0 then 20 + 24 * (positionOf d - 1) else max 20 (cfgSlotStart image d) := by
  unfold effectiveStart
  split
  · rfl
  · split <;> omega

theorem expected_iff (hl : s.rings.lit = true) (h : s.installed d = true) : s.expected d = true ↔
    cfgHalfRate s.store.image d = 0 ∨ (cfgHalfRate s.store.image d = 1 ∧ s.gen.cycle.toNat % 2 = 0)
      ∨ (cfgHalfRate s.store.image d = 2 ∧ s.gen.cycle.toNat % 2 = 1) := by
  simp [State.expected, parityAdmits, hl, h, or_assoc]

/-- A SEVERED cell is commanded CLOSE, and every other cell as Table 1-5 says (R58). -/
theorem bypassClose_linked (h : (s.cell d).link ≠ .severed) : bypassClose s d = false ↔ baseClose s d = false := by
  simp [bypassClose, h]

/-! ### The message of a command field (Table 2-2) -/

theorem fieldMessage_severed (plans : Bool) (h : (s.cell d).link = .severed) : fieldMessage s plans d = .withdrawn := if_pos h

theorem fieldMessage_plan {q : Plan} {e : Rephase} (h : (s.cell d).link ≠ .severed) (hs : s.seq.state = .rephase)
    (hq : s.plans.pending = some q) (he : s.seq.rephase = some e)
    (hd : (q.offsetOf d).isSome = true ∨ d ∈ q.deselected) :
    fieldMessage s true d = .plan q.tag e.epoch (q.offsetOf d) := by
  have hp : planMessage s true d = some (.plan q.tag e.epoch (q.offsetOf d)) := by
    simp only [planMessage, hq, he, hs]
    cases ho : q.offsetOf d with
    | some offset => simp
    | none =>
      have hd : d ∈ q.deselected := by simpa [ho] using hd
      simp [hd]
  rw [fieldMessage, if_neg h, hp]
  rfl

theorem planMessage_none {plans : Bool} (h : s.seq.state ≠ .rephase
      ∨ (∃ q, s.plans.pending = some q ∧ q.offsetOf d = none ∧ d ∉ q.deselected) ∨ plans = false) :
    planMessage s plans d = none := by
  unfold planMessage
  split
  · next q e hq he =>
    rcases h with h | ⟨q', hq', ho, hd⟩ | h
    · simp [h]
    · rw [hq] at hq'
      cases hq'
      simp [ho, hd]
    · simp [h]
  · rfl

theorem tunnelMessage_cases : tunnelMessage s d = none
    ∨ ∃ poll final seq bytes m, tunnelMessage s d = some (.tunnel poll final seq bytes)
      ∧ s.rings.mail.get (phaseOf d) = some m ∧ m.cell = d := by
  unfold tunnelMessage
  split
  · exact .inl rfl
  · next x hx =>
    by_cases hc : x.cell = d
    · rw [if_neg (by simp [hc])]
      split
      · split
        · exact .inr ⟨_, _, _, _, x, rfl, hx, hc⟩
        · exact .inl rfl
      · split
        · exact .inr ⟨_, _, _, _, x, rfl, hx, hc⟩
        · exact .inl rfl
    · exact .inl (if_pos hc)

/-- The message of a cell to which no PLAN message goes. -/
theorem fieldMessage_unplanned {plans : Bool} (hs : (s.cell d).link ≠ .severed) (h : planMessage s plans d = none) :
    ((s.cell d).link = .dark → fieldMessage s plans d = .invite)
    ∧ (∀ a, (s.cell d).link = .confirm → (s.cell d).heldAbility = some a → fieldMessage s plans d = .accept a.serial)
    ∧ ((s.cell d).link ≠ .dark → (s.cell d).link ≠ .confirm → fieldMessage s plans d = .none
      ∨ ∃ poll final seq bytes m, fieldMessage s plans d = .tunnel poll final seq bytes
        ∧ s.rings.mail.get (phaseOf d) = some m ∧ m.cell = d) := by
  have e : fieldMessage s plans d = ((enrolMessage (s.cell d)).or (tunnelMessage s d)).getD .none := by
    rw [fieldMessage, if_neg hs, h]
    rfl
  rw [e]
  refine ⟨fun hl => ?_, fun a hl ha => ?_, fun h1 h2 => ?_⟩
  · simp [enrolMessage, hl]
  · simp [enrolMessage, hl, ha]
  · have hn : enrolMessage (s.cell d) = none := by
      unfold enrolMessage
      cases hl : (s.cell d).link <;> simp_all
    rw [hn]
    rcases tunnelMessage_cases (s := s) (d := d) with ht | ⟨poll, final, seq, bytes, m, ht, hm, hc⟩
    · exact .inl (by rw [ht]; rfl)
    · exact .inr ⟨poll, final, seq, bytes, m, by rw [ht]; rfl, hm, hc⟩

/-! ### A whole cycle start -/

/-- The epoch check of a cycle start is decided by the sequencer's items at its beginning and the new cycle number. -/
theorem atEpoch_round {s v : State} (h : Round s v) : atEpoch v = true ↔
    s.seq.state = .rephase ∧ ∃ e, s.seq.rephase = some e ∧ e.epoch = s.gen.cycle + 1 := by
  unfold atEpoch
  rw [h.seq, h.gen]
  cases s.seq.rephase <;> simp

/-- A cycle start is one step (R24, R27). -/
theorem exec_cycleStart {s : State} (hq : Quiet s) (loopback : Option (List Byte)) :
    exec (.cycleStart loopback) s = .next (cycleStep loopback s) := by
  change Host.Outcome.next (settle (cycleStep loopback s)) = _
  have hr := roundState_round loopback s
  have hk := keeps_seqCycle (roundState loopback s)
  have hv : Quiet (roundState loopback s) := by unfold Quiet; rw [hr.link]; exact hq
  obtain ⟨frames, mail, ht, _⟩ := sendFrames_eq (!atEpoch (roundState loopback s)) (seqCycle (roundState loopback s))
  have hquiet : Quiet (cycleStep loopback s) := by
    rw [cycleStep_eq, ht]
    exact hk.quiet hv
  rw [settle_quiet hquiet]

end Sys2Proof.Machine

open Sys2Proof Sys2Proof.Machine

/-- Settles O43: the command fields are those of the state that the sequencer's part of the cycle start leaves, and the bytes are
those of Tables 12-7 and 12-8. -/
theorem cycleStartBuildsTheFrames : Obligations.CycleStartBuildsTheFrames := by
  refine ⟨fun loopback s hq => ?_, fun x hoffset hchunk hstart => ?_, fun f => frameBytes_fields f⟩
  · have hr := roundState_round loopback s
    have hepoch := atEpoch_round hr
    have hk := keeps_seqCycle (roundState loopback s)
    have hexec := exec_cycleStart hq loopback
    rw [cycleStep_eq] at hexec
    generalize roundState loopback s = v at hr hepoch hk hexec
    generalize seqCycle v = w at hk hexec
    obtain ⟨frames, mail, ht, hf, _⟩ := sendFrames_eq (!atEpoch v) w
    rw [ht] at hexec
    have himage : w.store.image = s.store.image := hk.image.trans hr.image
    have hgen := hk.gen.trans hr.gen
    have hlit : w.rings.lit = decide (s.store.mode = .service) := by rw [hk.rings]; exact hr.lit
    have hmail : ∀ p x, w.rings.mail.get p = some x → ∃ y, s.rings.mail.get p = some y ∧ y.cell = x.cell := by
      intro p x hx
      obtain ⟨y, hy, hc⟩ := hk.mail p x hx
      obtain ⟨z, hz, hd⟩ := hr.mail p y hy
      exact ⟨z, hz, hd.trans hc⟩
    refine ⟨_, hexec, hgen, himage, hlit, ?_, fun f p hframes => ?_⟩
    · dsimp only
      rw [hf]
      split
      · next h => simp [h]
      · next h => simp [h]
    have hon : w.rings.lit = true ∧ ∀ p, f.get p = buildFrame w (!atEpoch v) p := by
      change frames = some f at hframes
      rw [hf] at hframes
      split at hframes
      · next h =>
        cases hframes
        exact ⟨h, fun p => by cases p <;> rfl⟩
      · cases hframes
    obtain ⟨hon, hbuild⟩ := hon
    rw [hbuild p]
    refine ⟨rfl, rfl, by simp [buildFrame, cellsOf_length], fun d x hd hx => ?_⟩
    subst hd
    rw [buildFrame_field] at hx
    cases hx
    generalize hplans : (!atEpoch v) = plans
    have hmissed : (s.seq.state = .rephase ∧ ∃ e, s.seq.rephase = some e ∧ e.epoch = w.gen.cycle) → plans = false := by
      intro h
      rw [hgen] at h
      rw [← hplans, hepoch.2 h]
      rfl
    have hsent : ¬(s.seq.state = .rephase ∧ ∃ e, s.seq.rephase = some e ∧ e.epoch = w.gen.cycle) → plans = true := by
      intro h
      rw [hgen, ← hepoch] at h
      rw [← hplans, Bool.eq_false_iff.2 h]
      rfl
    refine ⟨commandField_gateOn plans, fun hin hsev => ?_, fun hin => ?_, fun hin hsev => ⟨?_, ?_⟩, fun hin hsev => ?_,
      fun hout => commandField_vacant plans hout⟩
    · rw [commandField_installed (s := w) plans hin, ← baseClose_false_iff]
      exact bypassClose_linked hsev
    · rw [commandField_installed (s := w) plans hin, ← himage]
      exact ⟨expected_iff (s := w) hon hin, effectiveStart_eq _ d⟩
    · intro q e hs hpend hreph hnot hd
      rw [commandField_installed (s := w) plans hin, hsent hnot]
      exact fieldMessage_plan hsev hs hpend hreph hd
    · intro h
      rw [commandField_installed (s := w) plans hin]
      obtain ⟨hdark, hconfirm, hother⟩ := fieldMessage_unplanned (s := w) (plans := plans) hsev
        (planMessage_none (h.imp_right (Or.imp_right hmissed)))
      refine ⟨hdark, hconfirm, fun h1 h2 => (hother h1 h2).imp_right ?_⟩
      rintro ⟨poll, final, seq, bytes, m, hm, hx, hc⟩
      obtain ⟨y, hy, hyc⟩ := hmail _ m hx
      exact ⟨poll, final, seq, bytes, y, hm, hy, hyc.trans hc⟩
    · rw [commandField_installed (s := w) plans hin]
      have hs : (w.cell d).link = .severed := hsev
      exact ⟨by simp [gateEnable, hs], by simp [bypassClose, hs], fieldMessage_severed plans hs⟩
  · have h := fieldByteList_fields x hoffset hchunk
    refine ⟨?_, ?_, ?_, h⟩
    · rw [fieldByteList_eq]
      simp [sendNat_length, downMessageBytes_length hchunk]
    · rw [fieldByteList_eq, List.append_assoc]
      refine (byteField_between (before := []) rfl rfl).trans ?_
      have e : natOfBytes [fieldHead x] = (fieldHead x).toNat := by simp [natOfBytes]
      rw [e, fieldHead_toNat]
      cases x.message <;> rfl
    · exact (byteField_between rfl (sendNat_length 2 x.slotStart)).trans (natOfBytes_sendNat hstart)

end


section
/-! PROOFS. Enrolment: what each slot of a cell that is not ENROLLED leads to, and the waits that end at a cycle start. -/

namespace Sys2Proof.Machine

open Sys2Proof

/-! ### Tunnel chunks -/

theorem endExchange_only (p : Phase) (k : ReplyCode) (c : CellRef) (s : State) : OnlyCell c s (endExchange p k s) :=
  ⟨fun d _ => cell_of_cells (endExchange_cells p k s) d, by simp, by simp, by simp, by simp, by simp, by simp, by simp,
    posts_nil (by simp) (by simp)⟩

/-- A chunk touches the mailbox and the replies alone. -/
theorem takeChunk_only (c : CellRef) (m : UpMessage) (s : State) : OnlyCell c s (takeChunk c m s) := by
  have hput (p : Phase) (y : Exchange) : OnlyCell c s { s with rings.mail := s.rings.mail.set p (some y) } :=
    ⟨fun _ _ => rfl, rfl, rfl, rfl, rfl, rfl, rfl, rfl, posts_nil rfl rfl⟩
  unfold takeChunk
  dsimp only
  split
  · split
    · exact (OnRecord.refl c s).toOnlyCell
    · split
      · exact endExchange_only _ _ c s
      · split
        · exact (endExchange_only _ _ c _).after (hput _ _)
        · split
          · exact (endExchange_only _ _ c _).after (hput _ _)
          · exact hput _ _
  · exact (OnRecord.refl c s).toOnlyCell

/-! ### Slots that leave the sequencer's state -/

/-- BLOCK is not about to end: the sequencer is elsewhere, or the enrol window holds it (R87, R147). -/
abbrev BlockStays (s : State) : Prop :=
  s.seq.state = .ready ∨ (s.seq.state = .block ∧ s.seq.enrolRun = false
    ∧ ∃ k, s.seq.campaign = some k ∧ k.kind = .start ∧ k.iteration = 1)

theorem enrolWindowHolds_of {s : State} {k : Campaign} (hk : s.seq.campaign = some k) (hs : k.kind = .start)
    (hi : k.iteration = 1) (hr : s.seq.enrolRun = false) : enrolWindowHolds s = true := by
  simp [enrolWindowHolds, hk, hs, hi, hr]

theorem blockCheck_watch {s : State} (h : BlockStays s) : ∃ w, blockCheck s = { s with seq.watch := w } := by
  rcases blockCheck_cases s with ⟨_, e⟩ | ⟨w, left, _, _, e | ⟨hb, _, _, hw, _⟩⟩
  · exact ⟨s.seq.watch, e⟩
  · exact ⟨_, e⟩
  · rcases h with h | ⟨_, hr, k, hk, hs, hi⟩
    · rw [h] at hb
      cases hb
    · rw [enrolWindowHolds_of hk hs hi hr] at hw
      cases hw

theorem confirmGateOff_watch (c : CellRef) (r : Response) (s : State) :
    ∃ w, confirmGateOff c r s = { s with seq.watch := w } := by
  unfold confirmGateOff
  split
  · split
    · exact ⟨_, rfl⟩
    · exact ⟨s.seq.watch, rfl⟩
  · exact ⟨s.seq.watch, rfl⟩

theorem confirmBypass_elsewhere {s : State} (c : CellRef) (x : Cell) (r : Response) (h : s.seq.state ≠ .isolate) :
    confirmBypass c x r s = s := by
  unfold confirmBypass
  split
  · exact if_neg fun hi => h hi.1
  · rfl

theorem BlockStays.not_isolate {s : State} (h : BlockStays s) : s.seq.state ≠ .isolate := by
  rcases h with h | ⟨h, _⟩ <;> simp [h]

theorem dcCheck_unlinked (c : CellRef) {x : Cell} (dc : Nat) (s : State) (h : x.link ≠ .enrolled) : dcCheck c x dc s = s :=
  if_neg fun hl => h hl.1

/-- What the end of a slot leaves while BLOCK stays: the operations on the cell, and the watch. -/
structure SlotOn (c : CellRef) (s t : State) : Prop where
  others : ∀ d : CellRef, d ≠ c → t.cell d = s.cell d
  state : t.seq.state = s.seq.state
  campaign : t.seq.campaign = s.seq.campaign
  lock : t.lock = s.lock
  plans : t.plans = s.plans
  store : t.store = s.store
  pending : t.pending = s.pending
  queue : t.queue = s.queue

theorem SlotOn.of_only {c : CellRef} {s t : State} (h : OnlyCell c s t) (w : Option Watch) :
    SlotOn c s { t with seq.watch := w } :=
  ⟨h.others, by dsimp only; rw [h.seq], by dsimp only; rw [h.seq], h.lock, h.plans, h.store, h.pending, h.queue⟩

/-! ### What link health does with the record -/

theorem takeAbility_none {c : CellRef} {a : Ability} {s : State} (h : abilityFault s.store.image c a = none) :
    takeAbility c a s = enterLink .confirm (some a) none c s := by
  unfold takeAbility
  rw [h]

theorem takeAbility_some {c : CellRef} {a : Ability} {k : RejectCause} {s : State}
    (h : abilityFault s.store.image c a = some k) :
    takeAbility c a s = setFlag .rejected c (enterLink .rejected (some a) (some k) c s) := by
  unfold takeAbility
  rw [h]

theorem takeAbility_only (c : CellRef) (a : Ability) (s : State) : OnlyCell c s (takeAbility c a s) := by
  cases h : abilityFault s.store.image c a with
  | none =>
    rw [takeAbility_none h]
    exact OnlyCell.enterLink _ _ _ c s
  | some k =>
    rw [takeAbility_some h]
    exact (OnRecord.setFlag _ c _).toOnlyCell.after (OnlyCell.enterLink _ _ _ c s)

/-- The record after an ABILITY, whatever the check of it says: the ability is held, and the counts are zero. -/
theorem takeAbility_cell (c : CellRef) (a : Ability) (s : State) : ∃ l k flags, l ≠ .severed
    ∧ (takeAbility c a s).cell c = { linkItems l (some a) k s.now (s.cell c) with flags := flags } := by
  cases h : abilityFault s.store.image c a with
  | none =>
    rw [takeAbility_none h, enterLink_cell_same]
    exact ⟨.confirm, none, (s.cell c).flags, by simp, rfl⟩
  | some k =>
    rw [takeAbility_some h, setFlag_cell_same, enterLink_cell_same]
    exact ⟨.rejected, some k, _, by simp, rfl⟩

/-- The service state that a completed enrolment leaves (R10). -/
abbrev admittedService (s : State) (x : Cell) : Service :=
  if x.service = .awaiting then (if x.strikes < cfgStrikeLimit s.store.image then .reserve else .lockedOut) else x.service

theorem admitAwaiting_only (c : CellRef) (s : State) : OnRecord c s (admitAwaiting c s) := by
  unfold admitAwaiting
  dsimp only
  split
  · exact .setService _ c s
  · exact .refl c s

/-- The record of an admitted cell; of its DC debounce count and its offset nothing is said. -/
theorem admitAwaiting_cell (c : CellRef) (s : State) : ∃ debounce offset, (admitAwaiting c s).cell c = { s.cell c with
    service := admittedService s (s.cell c)
    flags := (s.cell c).flags ||| (if (s.cell c).service = .awaiting then ReportFlag.stateChanged.mask else 0)
    dcDebounce := debounce
    offset := offset } := by
  unfold admitAwaiting admittedService
  dsimp only
  by_cases h : (s.cell c).service = .awaiting
  · rw [if_pos h, if_pos h, if_pos h, setService_cell_same, if_neg (c := (s.cell c).service = _) (by rw [h]; split <;> simp)]
    exact ⟨_, _, rfl⟩
  · rw [if_neg h, if_neg h, if_neg h]
    exact ⟨(s.cell c).dcDebounce, (s.cell c).offset, by simp⟩

/-- The device with a completed enrolment entered in the record, before the roster takes the cell. -/
def enrolledState (c : CellRef) (s : State) : State :=
  setFlag .enrolled c ((enterLink .enrolled none none c s).modCell c fun x => { x with
    unsteadyCount := 0
    ability := (s.cell c).heldAbility.or x.ability })

theorem completeEnrolment_eq (c : CellRef) (s : State) : completeEnrolment c s
    = (admitAwaiting c (enrolledState c s)).modCell c fun x => { x with
      fault := x.fault.map fun f => { f with reenrolled := true } } := rfl

theorem enrolledState_only (c : CellRef) (s : State) : OnlyCell c s (enrolledState c s) :=
  ((OnRecord.setFlag _ c _).after (OnRecord.modCell c _ _)).toOnlyCell.after (OnlyCell.enterLink _ _ _ c s)

theorem completeEnrolment_only (c : CellRef) (s : State) : OnlyCell c s (completeEnrolment c s) := by
  have ha := admitAwaiting_only c (enrolledState c s)
  rw [completeEnrolment_eq]
  generalize admitAwaiting c (enrolledState c s) = t at ha
  exact (enrolledState_only c s).trans ((OnRecord.modCell c _ t).after ha).toOnlyCell

/-- The record after a completed enrolment (R51, R61). -/
theorem completeEnrolment_cell (c : CellRef) (s : State) :
    ∃ debounce offset, (completeEnrolment c s).cell c = { linkItems .enrolled none none s.now (s.cell c) with
      unsteadyCount := 0
      ability := (s.cell c).heldAbility.or (s.cell c).ability
      fault := (s.cell c).fault.map fun f => { f with reenrolled := true }
      service := admittedService s (s.cell c)
      flags := (s.cell c).flags ||| ReportFlag.enrolled.mask
        ||| (if (s.cell c).service = .awaiting then ReportFlag.stateChanged.mask else 0)
      dcDebounce := debounce
      offset := offset } := by
  have he : (enrolledState c s).cell c = { linkItems .enrolled none none s.now (s.cell c) with
      unsteadyCount := 0
      ability := (s.cell c).heldAbility.or (s.cell c).ability
      flags := (s.cell c).flags ||| ReportFlag.enrolled.mask } := by
    unfold enrolledState
    rw [setFlag_cell_same, cell_modCell_same, enterLink_cell_same]
    rfl
  obtain ⟨debounce, offset, ha⟩ := admitAwaiting_cell c (enrolledState c s)
  refine ⟨debounce, offset, ?_⟩
  rw [completeEnrolment_eq, cell_modCell_same, ha, he, admittedService, (enrolledState_only c s).store]
  rfl

theorem relinkStep_only (c : CellRef) (s : State) : OnlyCell c s (relinkStep c s)
    ∧ ((relinkStep c s).cell c).report = (s.cell c).report
    ∧ ((relinkStep c s).cell c).reportAge = (s.cell c).reportAge := by
  unfold relinkStep
  dsimp only
  split
  · exact ⟨(OnRecord.refl c s).toOnlyCell, rfl, rfl⟩
  · split
    · rw [cell_modCell_same]
      exact ⟨(OnRecord.modCell c _ s).toOnlyCell, rfl, rfl⟩
    · split
      · rw [setFlag_cell_same, cell_modCell_same]
        exact ⟨((OnRecord.setFlag _ c _).after (OnRecord.modCell c _ s)).toOnlyCell, rfl, rfl⟩
      · rw [enterLink_cell_same]
        exact ⟨OnlyCell.enterLink _ _ _ c s, rfl, rfl⟩

theorem trialStep_completes {c : CellRef} {s : State} (h : 24 ≤ (s.cell c).goodRun + 1) :
    trialStep c s = completeEnrolment c s := if_pos h

theorem trialStep_rises {c : CellRef} {s : State} (h : (s.cell c).goodRun + 1 < 24) :
    trialStep c s = s.modCell c fun x => { x with goodRun := x.goodRun + 1 } := if_neg (by omega)

theorem trialStep_only (c : CellRef) (s : State) : OnlyCell c s (trialStep c s)
    ∧ ((trialStep c s).cell c).report = (s.cell c).report ∧ ((trialStep c s).cell c).reportAge = (s.cell c).reportAge := by
  by_cases h : 24 ≤ (s.cell c).goodRun + 1
  · obtain ⟨debounce, offset, hc⟩ := completeEnrolment_cell c s
    rw [trialStep_completes h, hc]
    exact ⟨completeEnrolment_only c s, rfl, rfl⟩
  · rw [trialStep_rises (by omega), cell_modCell_same]
    exact ⟨(OnRecord.modCell c _ s).toOnlyCell, rfl, rfl⟩

/-- Link health touches the record of the slot's cell alone, and leaves its report. -/
theorem linkValid_only (c : CellRef) (r : Response) (s : State) : OnlyCell c s (linkValid c r s)
    ∧ ((linkValid c r s).cell c).report = (s.cell c).report
    ∧ ((linkValid c r s).cell c).reportAge = (s.cell c).reportAge := by
  have hsame : OnlyCell c s s ∧ (s.cell c).report = (s.cell c).report ∧ (s.cell c).reportAge = (s.cell c).reportAge :=
    ⟨(OnRecord.refl c s).toOnlyCell, rfl, rfl⟩
  unfold linkValid
  split
  · split
    · next a _ =>
      obtain ⟨l, k, flags, _, hc⟩ := takeAbility_cell c a s
      rw [hc]
      exact ⟨takeAbility_only c a s, rfl, rfl⟩
    · exact hsame
  · split
    · split
      · rw [enterLink_cell_same]
        exact ⟨OnlyCell.enterLink _ _ _ c s, rfl, rfl⟩
      · exact hsame
    · exact hsame
  · split
    · exact trialStep_only c s
    · rw [failAttempt_cell]
      exact ⟨failAttempt_only c s, rfl, rfl⟩
  · rw [cell_modCell_same]
    exact ⟨(OnRecord.modCell c _ s).toOnlyCell, rfl, rfl⟩
  · exact relinkStep_only c s
  · exact hsame
  · exact hsame

/-! ### Link health by link state -/

section

variable {c : CellRef} {r : Response} {s : State}

theorem abilityFault_rated {image : List Byte} {a : Ability} (h : cfgNominalDc image * 8
    < ((a.ratedDc.toNat : Int) * 100 - (cfgNominalDc image : Int) * 100).natAbs) :
    abilityFault image c a = some .ratedDc := if_pos h

theorem abilityFault_half {image : List Byte} {a : Ability}
    (h : ((a.ratedDc.toNat : Int) * 100 - (cfgNominalDc image : Int) * 100).natAbs ≤ cfgNominalDc image * 8)
    (hr : cfgHalfRate image c ≠ 0) (ha : a.halfRateCapable = false) : abilityFault image c a = some .halfRate :=
  (if_neg (Nat.not_lt.2 h)).trans (if_pos ⟨hr, ha⟩)

theorem abilityFault_none {image : List Byte} {a : Ability}
    (h : ((a.ratedDc.toNat : Int) * 100 - (cfgNominalDc image : Int) * 100).natAbs ≤ cfgNominalDc image * 8)
    (hr : cfgHalfRate image c = 0 ∨ a.halfRateCapable = true) : abilityFault image c a = none :=
  (if_neg (Nat.not_lt.2 h)).trans (if_neg fun hh => hr.elim hh.1 fun ht => by rw [hh.2] at ht; cases ht)

theorem linkValid_ability {a : Ability} (hl : (s.cell c).link = .dark) (hm : r.message = .ability a) :
    linkValid c r s = takeAbility c a s := by
  simp only [linkValid, hl, hm]

theorem linkValid_dark (hl : (s.cell c).link = .dark) (hm : ∀ a, r.message ≠ .ability a) : linkValid c r s = s := by
  simp only [linkValid, hl]

theorem linkValid_accepted {serial : BitVec 32} {a : Ability} (hl : (s.cell c).link = .confirm)
    (ha : (s.cell c).heldAbility = some a) (hm : r.message = .accepted serial) :
    linkValid c r s = if a.serial = serial then enterLink .trial (some a) none c s else s := by
  simp only [linkValid, hl, hm, ha, Option.map_some, Option.some.injEq]

theorem linkValid_clean (hl : (s.cell c).link = .trial) (h0 : r.classCode = 0) : linkValid c r s = trialStep c s := by
  simp only [linkValid, hl, h0, if_true]

theorem linkValid_failed (hl : (s.cell c).link = .trial) (h0 : r.classCode ≠ 0) : linkValid c r s = failAttempt c s := by
  simp only [linkValid, hl, h0, if_false]

theorem linkValid_ended (hl : (s.cell c).link = .rejected ∨ (s.cell c).link = .unsteady) : linkValid c r s = s := by
  rcases hl with hl | hl <;> simp only [linkValid, hl]

theorem linkMiss_trial (hl : (s.cell c).link = .trial) : linkMiss c s = failAttempt c s := by
  simp only [linkMiss, hl]

theorem linkMiss_idle (hl : (s.cell c).link ∈ [LinkState.dark, .confirm, .rejected, .unsteady]) : linkMiss c s = s := by
  simp only [List.mem_cons, List.not_mem_nil, or_false] at hl
  rcases hl with hl | hl | hl | hl <;> simp only [linkMiss, hl]

end

/-! ### The slot of a cell that is not ENROLLED -/

/-- The device with the report of a response written. -/
def reportedState (c : CellRef) (r : Response) (s : State) : State :=
  s.modCell c fun x => { x with report := some (reportOf r s.now), reportAge := 0 }

theorem reportedState_cell (c : CellRef) (r : Response) (s : State) : (reportedState c r s).cell c
    = { s.cell c with report := some (reportOf r s.gen.timebase), reportAge := 0 } := cell_modCell_same s c _

/-- The device after link health and the tunnel have taken a response. -/
def linkedState (c : CellRef) (r : Response) (s : State) : State :=
  takeChunk c r.message (linkValid c r (reportedState c r s))

theorem linkedState_only (c : CellRef) (r : Response) (s : State) : OnlyCell c s (linkedState c r s) := by
  have hu : OnRecord c s (reportedState c r s) := .modCell c _ s
  obtain ⟨hv, _⟩ := linkValid_only c r (reportedState c r s)
  exact (takeChunk_only c _ _).after (hv.after hu.toOnlyCell)

theorem linkedState_cell (c : CellRef) (r : Response) (s : State) :
    (linkedState c r s).cell c = (linkValid c r (reportedState c r s)).cell c :=
  cell_of_cells (CellInvariant.takeChunk_cells _ _ _) c

/-- A response of a cell that is not ENROLLED, whose class the fault intake does not act on: link health alone takes it. -/
theorem slotStep_unlinked {c : CellRef} {seen : SlotSeen} {r : Response} {s : State} (ha : Answers c seen r s)
    (hl : (s.cell c).link ≠ .enrolled) (hb : BlockStays s)
    (hc : takeReported c r (linkedState c r s) = linkedState c r s) :
    ∃ w, slotStep c seen s = { linkedState c r s with seq.watch := w } := by
  have hseq := (linkedState_only c r s).seq
  have hhealth : (s.modCell c fun x => { x with report := some (reportOf r s.now), reportAge := 0 }).rings.healthOn = true :=
    ha.2.1
  have e : takeValid c r s = blockCheck (confirmGateOff c r (linkedState c r s)) := by
    unfold takeValid
    dsimp only
    rw [if_pos hhealth]
    change blockCheck (confirmGateOff c r (confirmBypass c (s.cell c) r (dcCheck c (s.cell c) r.dc
      (takeReported c r (linkedState c r s))))) = _
    rw [hc, dcCheck_unlinked c _ _ hl, confirmBypass_elsewhere c _ r (by rw [hseq]; exact hb.not_isolate)]
  obtain ⟨w, hw⟩ := confirmGateOff_watch c r (linkedState c r s)
  have hstays : BlockStays (confirmGateOff c r (linkedState c r s)) := by
    rw [hw]
    unfold BlockStays
    dsimp only
    rw [hseq]
    exact hb
  obtain ⟨w', hw'⟩ := blockCheck_watch hstays
  exact ⟨w', by rw [slotStep_valid ha, e, hw', hw]⟩

/-- The device with the report age of a missed slot. -/
def missedState (c : CellRef) (s : State) : State := s.modCell c fun x => { x with reportAge := min 255 (x.reportAge + 1) }

theorem missedState_cell (c : CellRef) (s : State) : (missedState c s).cell c
    = { s.cell c with reportAge := min 255 ((s.cell c).reportAge + 1) } := cell_modCell_same s c _

theorem takeMiss_lit {c : CellRef} {s : State} (hh : s.rings.healthOn = true) :
    takeMiss c s = blockCheck (linkMiss c (missedState c s)) := congrArg blockCheck (if_pos hh)

/-- A miss of a cell that is not ENROLLED. -/
theorem slotStep_miss_watch {c : CellRef} {seen : SlotSeen} {s u : State} (he : s.expected c = true)
    (hh : s.rings.healthOn = true) (hj : judgeSlot seen = .missed ∨ judgeSlot seen = .invalid) (hb : BlockStays s)
    (hu : linkMiss c (missedState c s) = u) (hseq : u.seq = s.seq) :
    ∃ w, slotStep c seen s = { u with seq.watch := w } := by
  have e : takeMiss c s = blockCheck u := by rw [takeMiss_lit hh, hu]
  obtain ⟨w, hw⟩ := blockCheck_watch (s := u) (by unfold BlockStays; rw [hseq]; exact hb)
  exact ⟨w, by rw [slotStep_miss he hj, e, hw]⟩

/-! ### The waits that a cycle start ends (R42, R48) -/

/-- The record after a cycle start of the rings. -/
def confirmedCell (now : Stamp) (x : Cell) : Cell :=
  if x.link = .confirm then (if 20 ≤ x.goodRun then failedCell now x else { x with goodRun := x.goodRun + 1 }) else x

theorem confirmCycle_cell_same (s : State) (c : CellRef) :
    (confirmCycle s c).cell c = confirmedCell s.now (s.cell c) := by
  unfold confirmCycle confirmedCell
  split
  · split
    · exact failAttempt_cell c s
    · exact cell_modCell_same s c _
  · rfl

theorem confirmCycle_only (s : State) (c : CellRef) : OnlyCell c s (confirmCycle s c) := by
  unfold confirmCycle
  split
  · split
    · exact failAttempt_only c s
    · exact (OnRecord.modCell c _ s).toOnlyCell
  · exact (OnRecord.refl c s).toOnlyCell

/-- A CONFIRM wait holds no exchange, so its end touches none. -/
theorem confirmCycle_mail (s : State) (c : CellRef) :
    (confirmCycle s c).rings = s.rings ∧ (confirmCycle s c).link = s.link := by
  unfold confirmCycle
  split
  · next h =>
    split
    · unfold failAttempt
      dsimp only
      generalize hm : (s.modCell c fun x => { x with unsteadyCount := min 3 ((s.cell c).unsteadyCount + 1) }) = t
      have hl : (t.cell c).link ≠ .enrolled := by
        rw [← hm, cell_modCell_same]
        dsimp only
        rw [h]
        simp
      have ht : t.rings = s.rings ∧ t.link = s.link := by rw [← hm]; exact ⟨rfl, rfl⟩
      split
      · rw [setFlag_rings, setFlag_link, (enterLink_unlinked _ _ _ hl).1, (enterLink_unlinked _ _ _ hl).2]
        exact ht
      · rw [(enterLink_unlinked _ _ _ hl).1, (enterLink_unlinked _ _ _ hl).2]
        exact ht
    · exact ⟨rfl, rfl⟩
  · exact ⟨rfl, rfl⟩

theorem foldl_confirmCycle_mail (l : List CellRef) (s : State) :
    (l.foldl confirmCycle s).rings = s.rings ∧ (l.foldl confirmCycle s).link = s.link :=
  List.foldlRecOn (motive := fun t => t.rings = s.rings ∧ t.link = s.link) l confirmCycle ⟨rfl, rfl⟩ fun t h c _ => by
    obtain ⟨hr, hl⟩ := confirmCycle_mail t c
    exact ⟨hr.trans h.1, hl.trans h.2⟩

theorem foldl_confirmCycle_cell (s : State) (d : CellRef) :
    (allCells.foldl confirmCycle s).cell d = confirmedCell s.now (s.cell d) :=
  foldl_allCells_cell (g := fun _ x => confirmedCell s.now x) (fun t => t.now = s.now)
    (fun t c h => (confirmCycle_only t c).now.trans h) (fun t c h => by rw [confirmCycle_cell_same, h])
    (fun t c d _ hd => (confirmCycle_only t c).others d hd) rfl d

theorem tunnelCycle_timeout {s : State} {p : Phase} {x : Exchange} (hx : s.rings.mail.get p = some x) (h : 64 ≤ x.count) :
    (tunnelCycle s p).rings.mail.get p = none
      ∧ replyRecord tunnelType x.tag .timeout [] ∈ (tunnelCycle s p).link.replies := by
  have e : tunnelCycle s p = endExchange p .timeout s := by
    simp only [tunnelCycle, hx]
    rw [if_neg (by omega), if_pos h]
  rw [e]
  simp [endExchange, hx, pushReply, Rings.get_set]

theorem endExchange_other (k : ReplyCode) {s : State} {p q : Phase} (h : p ≠ q) :
    (endExchange q k s).rings.mail.get p = s.rings.mail.get p
      ∧ ∀ r ∈ s.link.replies, r ∈ (endExchange q k s).link.replies := by
  unfold endExchange
  split
  · exact ⟨rfl, fun r hr => hr⟩
  · exact ⟨by simp [Rings.get_set, h], fun r hr => by simp [hr]⟩

/-- A ring's exchange is not touched by the other rings' counts. -/
theorem tunnelCycle_other {s : State} {p q : Phase} (h : p ≠ q) :
    (tunnelCycle s q).rings.mail.get p = s.rings.mail.get p
      ∧ ∀ r ∈ s.link.replies, r ∈ (tunnelCycle s q).link.replies := by
  unfold tunnelCycle
  split
  · exact ⟨rfl, fun r hr => hr⟩
  · split
    · exact ⟨rfl, fun r hr => hr⟩
    · split
      · exact endExchange_other _ h
      · exact ⟨by simp [Rings.get_set, h], fun r hr => hr⟩

/-- The exchange of a ring ends in the round of the rings' counts. -/
theorem foldl_tunnelCycle_timeout {s : State} {p : Phase} {x : Exchange} (hx : s.rings.mail.get p = some x)
    (h : 64 ≤ x.count) : (phases.foldl tunnelCycle s).rings.mail.get p = none
      ∧ replyRecord tunnelType x.tag .timeout [] ∈ (phases.foldl tunnelCycle s).link.replies := by
  simp only [phases, List.foldl_cons, List.foldl_nil]
  have after (q : Phase) (hq : p ≠ q) (t : State) (ht : t.rings.mail.get p = none
      ∧ replyRecord tunnelType x.tag .timeout [] ∈ t.link.replies) :
      (tunnelCycle t q).rings.mail.get p = none
        ∧ replyRecord tunnelType x.tag .timeout [] ∈ (tunnelCycle t q).link.replies := by
    obtain ⟨hm, hr⟩ := tunnelCycle_other (s := t) hq
    exact ⟨hm.trans ht.1, hr _ ht.2⟩
  have before (q : Phase) (hq : p ≠ q) (t : State) (ht : t.rings.mail.get p = some x) :
      (tunnelCycle t q).rings.mail.get p = some x := (tunnelCycle_other hq).1.trans ht
  cases p with
  | a => exact after .c (by simp) _ (after .b (by simp) _ (tunnelCycle_timeout hx h))
  | b => exact after .c (by simp) _ (tunnelCycle_timeout (before .a (by simp) _ hx) h)
  | c => exact tunnelCycle_timeout (before .b (by simp) _ (before .a (by simp) _ hx)) h

theorem foldl_tunnelCycle_cells (s : State) : (phases.foldl tunnelCycle s).cells = s.cells := by
  simp [phases]

theorem ringCycle_lit {s : State} (h : s.rings.lit = true) :
    ringCycle s = phases.foldl tunnelCycle (allCells.foldl confirmCycle s) := if_pos h

theorem lightRings_lit {s : State} (h : s.store.mode = .service) : (lightRings (startCycle s)).rings.lit = true := by
  simp [lightRings, startCycle, h]

/-- The records that the sequencer's part of a cycle start meets, in SERVICE. -/
theorem roundState_cell (loopback : Option (List Byte)) {s : State} (h : s.store.mode = .service) (d : CellRef) :
    (roundState loopback s).cell d = confirmedCell s.now (s.cell d) := by
  unfold roundState
  rw [ringCycle_lit (lightRings_lit h), cell_of_cells (CellInvariant.testCycle_cells _ _),
    cell_of_cells (foldl_tunnelCycle_cells _), foldl_confirmCycle_cell]
  rfl

theorem roundState_timeout (loopback : Option (List Byte)) {s : State} (h : s.store.mode = .service) {p : Phase} {x : Exchange}
    (hx : s.rings.mail.get p = some x) (hc : 64 ≤ x.count) : (roundState loopback s).rings.mail.get p = none
      ∧ replyRecord tunnelType x.tag .timeout [] ∈ (roundState loopback s).link.replies := by
  unfold roundState
  rw [ringCycle_lit (lightRings_lit h)]
  obtain ⟨hr, _⟩ := foldl_confirmCycle_mail allCells (lightRings (startCycle s))
  have ht := foldl_tunnelCycle_timeout (s := allCells.foldl confirmCycle (lightRings (startCycle s)))
    (by rw [hr]; exact hx) hc
  generalize phases.foldl tunnelCycle (allCells.foldl confirmCycle (lightRings (startCycle s))) = t at ht
  obtain ⟨m, hm⟩ := testCycle_eq loopback t
  rw [hm]
  exact ht

/-- In READY a cycle start ends with the round and the frames. -/
theorem cycleStep_ready (loopback : Option (List Byte)) {s : State} (h : s.seq.state = .ready) :
    cycleStep loopback s = sendFrames (!atEpoch (roundState loopback s)) (roundState loopback s) := by
  have hr := roundState_round loopback s
  rw [cycleStep_eq, seqCycle, hr.seq, h]

/-- What a cycle start in READY leaves. -/
structure ReadyCycle (s t : State) : Prop where
  cycle : t.gen.cycle = s.gen.cycle + 1
  cell : ∀ d : CellRef, t.cell d = (roundState none s).cell d
  service : ∀ d : CellRef, (t.cell d).service = (s.cell d).service ∧ (t.cell d).fault = (s.cell d).fault
  link : t.link = (roundState none s).link
  mail : ∀ p, (roundState none s).rings.mail.get p = none → t.rings.mail.get p = none
  seq : t.seq = s.seq
  lock : t.lock = s.lock
  plans : t.plans = s.plans
  queue : t.queue = s.queue
  pending : t.pending = s.pending

theorem cycleStep_ready_leaves {s : State} (h : s.seq.state = .ready) : ReadyCycle s (cycleStep none s) := by
  have hr := roundState_round none s
  obtain ⟨frames, mail, ht, _, hmail⟩ := sendFrames_eq (!atEpoch (roundState none s)) (roundState none s)
  rw [cycleStep_ready none h, ht]
  exact ⟨congrArg CycleGen.cycle hr.gen, fun _ => rfl, hr.service, rfl, hmail, hr.seq, hr.lock, hr.plans, hr.queue,
    hr.pending⟩

theorem exec_confirmTimeout {s : State} {c : CellRef} (hm : s.store.mode = .service) (hl : (s.cell c).link = .confirm)
    (hg : 20 ≤ (s.cell c).goodRun) : exec (.confirmTimeout c) s = exec (.cycleStart none) s :=
  congrArg stepTo (if_pos (by simp [confirmTimesOut, hm, hl, hg]))

theorem exec_tunnelTimeout {s : State} {p : Phase} {x : Exchange} (hm : s.store.mode = .service)
    (hx : s.rings.mail.get p = some x) (hc : 64 ≤ x.count) : exec (.tunnelTimeout p) s = exec (.cycleStart none) s :=
  congrArg stepTo (if_pos (by simp [tunnelTimesOut, hm, hx, hc]))

/-- A fault of an AWAITING cell is not taken (R64). -/
theorem takeFault_awaiting {k : FaultClass} {detail : Byte} {named : Bool} {c : CellRef} {s : State} (hk : k ≠ .bypassFail)
    (hs : (s.cell c).service = .awaiting) : takeFault k detail named c s = s := by
  unfold takeFault
  split
  · rfl
  · simp only [hs, tripOnBypassFail_ne hk]

/-- A miss in TRIAL, or a reported class of an AWAITING cell there: the attempt fails (R49, R50). -/
theorem slotStep_trial_fails {c : CellRef} {seen : SlotSeen} {s : State} (hb : BlockStays s) (hh : s.rings.healthOn = true)
    (he : s.expected c = true)
    (hslot : (judgeSlot seen = .missed ∨ judgeSlot seen = .invalid)
      ∨ ∃ r : Response, judgeSlot seen = .valid r ∧ r.classCode ≠ 0 ∧ r.classCode ≠ 7 ∧ (s.cell c).service = .awaiting)
    (hl : (s.cell c).link = .trial) : ∃ report age,
      (slotStep c seen s).cell c = failedCell s.now { s.cell c with report := report, reportAge := age }
      ∧ SlotOn c s (slotStep c seen s) := by
  rcases hslot with hj | ⟨r, hj, h0, h7, hs⟩
  · have hu : OnRecord c s (missedState c s) := .modCell c _ s
    have hf := (failAttempt_only c (missedState c s)).after hu.toOnlyCell
    obtain ⟨w, hw⟩ := slotStep_miss_watch he hh hj hb (linkMiss_trial (by rw [missedState_cell]; exact hl)) hf.seq
    have hcell := failAttempt_cell c (missedState c s)
    rw [missedState_cell] at hcell
    rw [hw]
    exact ⟨_, _, hcell, .of_only hf w⟩
  · have hu := reportedState_cell c r s
    have hcell : (linkedState c r s).cell c
        = failedCell s.now { s.cell c with report := some (reportOf r s.gen.timebase), reportAge := 0 } := by
      rw [linkedState_cell, linkValid_failed (by rw [hu]; exact hl) h0, failAttempt_cell, hu]
      rfl
    have hawait : ((linkedState c r s).cell c).service = .awaiting := by rw [hcell]; exact hs
    obtain ⟨w, hw⟩ := slotStep_unlinked (c := c) ⟨he, hh, hj⟩ (by rw [hl]; simp) hb
      ((takeReported_ne h0 _).trans (takeFault_awaiting (faultOfCode_ne_bypassFail r.detail h7) hawait))
    rw [hw]
    exact ⟨_, _, hcell, .of_only (linkedState_only c r s) w⟩

end Sys2Proof.Machine

open Sys2Proof Sys2Proof.Machine

/-- Settles O46: link health takes the slots of a cell that is not ENROLLED alone, and a cycle start in READY ends the waits. -/
theorem enrolmentAndTunnelTimeOut : Obligations.EnrolmentAndTunnelTimeOut := by
  refine ⟨fun s hq hmode hready => ⟨?_, ?_⟩, fun c seen s hq hb hh he => ⟨?_, ?_, ?_⟩⟩
  · intro c hl hrun
    have ht := cycleStep_ready_leaves hready
    have hcell : (cycleStep none s).cell c = failedCell s.now (s.cell c) := by
      rw [ht.cell, roundState_cell none hmode, confirmedCell, if_pos hl, if_pos hrun]
    refine ⟨_, (exec_confirmTimeout hmode hl hrun).trans (exec_cycleStart hq none), ht.cycle, ?_⟩
    rw [hcell, failedCell_missCount]
    exact ⟨rfl, rfl, rfl, rfl, rfl, rfl, ht.service, ht.seq, ht.lock, ht.plans, ht.queue, ht.pending⟩
  · intro p x hx hcount
    have ht := cycleStep_ready_leaves hready
    obtain ⟨hm, hreply⟩ := roundState_timeout none hmode hx hcount
    exact ⟨_, (exec_tunnelTimeout hmode hx hcount).trans (exec_cycleStart hq none), ht.cycle, ht.mail p hm,
      by rw [ht.link]; exact hreply, ht.service, ht.seq, ht.lock, ht.plans, ht.queue, ht.pending⟩
  · intro r hj h0 hl
    obtain ⟨w, hw⟩ := slotStep_unlinked (c := c) ⟨he, hh, hj⟩ hl hb (if_pos h0)
    have hon := SlotOn.of_only (linkedState_only c r s) w
    have hcell : ({ linkedState c r s with seq.watch := w } : State).cell c
      = (linkValid c r (reportedState c r s)).cell c := linkedState_cell c r s
    have hu := reportedState_cell c r s
    have hus : (reportedState c r s).store = s.store := rfl
    obtain ⟨_, hrep, hage⟩ := linkValid_only c r (reportedState c r s)
    refine ⟨_, exec_slotEnd hq c seen, ?_⟩
    rw [hw]
    refine ⟨?_, ?_, hon.queue, hon.state, hon.lock, hon.campaign, hon.plans, hon.store, hon.pending, hon.others, ?_⟩
    · rw [hcell, hrep, hu]
    · rw [hcell, hage, hu]
    rw [hcell]
    refine ⟨fun a hdark hm => ?_, fun hdark hm => ?_, fun serial a hconfirm ha hm => ⟨fun hs => ?_, fun hs => ?_⟩,
      fun htrial hrun => ?_, fun a htrial hrun ha => ?_, fun hend => ?_⟩
    · have hlink : ((reportedState c r s).cell c).link = .dark := by rw [hu]; exact hdark
      rw [linkValid_ability hlink hm]
      obtain ⟨l, k, flags, hne, hc⟩ := takeAbility_cell c a (reportedState c r s)
      refine ⟨by rw [hc]; rfl, by rw [hc]; rfl, by rw [hc]; exact if_neg hne, by rw [hc, hu]; rfl, by rw [hc, hu]; rfl,
        fun hrated => ?_, fun hrated => ⟨fun hhalf hcap => ?_, fun hcap => ?_⟩⟩
      · rw [takeAbility_some (s := reportedState c r s) (abilityFault_rated hrated), setFlag_cell_same, enterLink_cell_same, hu]
        exact ⟨rfl, rfl, rfl⟩
      · rw [takeAbility_some (s := reportedState c r s) (abilityFault_half hrated hhalf hcap), setFlag_cell_same,
          enterLink_cell_same, hu]
        exact ⟨rfl, rfl, rfl⟩
      · rw [takeAbility_none (s := reportedState c r s) (abilityFault_none hrated hcap), enterLink_cell_same, hu]
        exact ⟨rfl, rfl⟩
    · rw [linkValid_dark (by rw [hu]; exact hdark) hm, hu]
      exact hdark
    · rw [linkValid_accepted (a := a) (by rw [hu]; exact hconfirm) (by rw [hu]; exact ha) hm, if_pos hs.symm,
        enterLink_cell_same]
      exact ⟨rfl, rfl, rfl⟩
    · rw [linkValid_accepted (a := a) (by rw [hu]; exact hconfirm) (by rw [hu]; exact ha) hm, if_neg (Ne.symm hs), hu]
      exact ⟨hconfirm, rfl⟩
    · rw [linkValid_clean (by rw [hu]; exact htrial) h0, trialStep_rises (by rw [hu]; exact hrun), cell_modCell_same, hu]
      exact ⟨htrial, rfl, rfl⟩
    · obtain ⟨debounce, offset, hc⟩ := completeEnrolment_cell c (reportedState c r s)
      rw [linkValid_clean (by rw [hu]; exact htrial) h0, trialStep_completes (by rw [hu]; exact hrun), hc, hu]
      dsimp only
      rw [ha]
      exact ⟨rfl, rfl, rfl, rfl, rfl, rfl, rfl, rfl, rfl, rfl⟩
    · rw [linkValid_ended (by rw [hu]; exact hend), hu]
  · intro hslot htrial
    obtain ⟨report, age, hcell, hon⟩ := slotStep_trial_fails hb hh he hslot htrial
    refine ⟨_, exec_slotEnd hq c seen, ?_⟩
    rw [hcell, failedCell_missCount]
    exact ⟨rfl, rfl, rfl, rfl, rfl, rfl, rfl, rfl, hon.queue, hon.state, hon.lock, hon.others⟩
  · intro hj hlinks hwatch
    have hnone : linkMiss c (missedState c s) = missedState c s :=
      linkMiss_idle (by rw [missedState_cell]; exact hlinks)
    have e : slotStep c seen s = missedState c s := by
      rw [slotStep_miss he hj, takeMiss_lit hh, hnone]
      exact blockCheck_none hwatch
    exact congrArg (fun t => Host.Outcome.next (settle t)) e

end


section
/-! PROOFS. One step of the device, by its queue. -/

open Sys2Proof Sys2Proof.Machine

/-- Settles O1: each clause is the step's own equation for the queue. -/
theorem stepRunsTheFrontCommandOrPassesTime : Obligations.StepRunsTheFrontCommandOrPassesTime := by
  refine ⟨fun c rest s h => ?_, fun s h => ?_⟩
  · rw [step, h]
  · rw [step, h]
    rfl

end


section
/-! PROOFS. The tunnel: what a ring's exchange sends at a cycle start, and what a chunk of the cell's response does to it. -/

namespace Sys2Proof.Machine

open Sys2Proof

/-! ### An exchange in the rings' counts (R40, R42) -/

/-- An exchange that has not timed out, after the count of a cycle: COLLECTING in the cycle after the final chunk. -/
def countedExchange (x : Exchange) : Exchange :=
  if x.count = 0 then x
  else if x.collecting = false ∧ chunkCount x ≤ x.sent then
    { x with count := x.count + 1, collecting := true, poll := 0, reply := [] }
  else { x with count := x.count + 1 }

theorem countedExchange_cell (x : Exchange) : (countedExchange x).cell = x.cell := by
  unfold countedExchange
  (repeat' split) <;> rfl

/-- Before its last chunk an exchange stays SENDING, and its count rises once it has begun. -/
theorem countedExchange_sending {x : Exchange} (hs : x.sent < chunkCount x) :
    countedExchange x = { x with count := if x.count = 0 then 0 else x.count + 1 } := by
  unfold countedExchange
  by_cases h0 : x.count = 0
  · rw [if_pos h0, if_pos h0, ← h0]
  · rw [if_neg h0, if_neg h0, if_neg fun hc => by omega]

theorem countedExchange_collects {x : Exchange} (h : x.collecting = false) (hs : chunkCount x ≤ x.sent) (h1 : 1 ≤ x.count) :
    countedExchange x = { x with count := x.count + 1, collecting := true, poll := 0, reply := [] } :=
  (if_neg (by omega)).trans (if_pos ⟨h, hs⟩)

theorem countedExchange_polling {x : Exchange} (h : x.collecting = true) (h1 : 1 ≤ x.count) :
    countedExchange x = { x with count := x.count + 1 } :=
  (if_neg (by omega)).trans (if_neg (by simp [h]))

theorem tunnelCycle_counts {s : State} {p : Phase} {x : Exchange} (hx : s.rings.mail.get p = some x) (h : x.count < 64) :
    (tunnelCycle s p).rings.mail.get p = some (countedExchange x) := by
  unfold tunnelCycle countedExchange
  simp only [hx]
  split
  · exact hx
  · rw [if_neg (by omega)]
    simp [Rings.get_set]

/-- In the round of the rings' counts an exchange is counted once. -/
theorem foldl_tunnelCycle_counts {s : State} {p : Phase} {x : Exchange} (hx : s.rings.mail.get p = some x)
    (h : x.count < 64) : (phases.foldl tunnelCycle s).rings.mail.get p = some (countedExchange x) := by
  have other {q : Phase} {t : State} {y : Exchange} (hq : p ≠ q) (hy : t.rings.mail.get p = some y) :
      (tunnelCycle t q).rings.mail.get p = some y := (tunnelCycle_other hq).1.trans hy
  simp only [phases, List.foldl_cons, List.foldl_nil]
  cases p with
  | a => exact other (by simp) (other (by simp) (tunnelCycle_counts hx h))
  | b => exact other (by simp) (tunnelCycle_counts (other (by simp) hx) h)
  | c => exact tunnelCycle_counts (other (by simp) (other (by simp) hx)) h

/-- The exchange that the frames of a cycle start in SERVICE meet. -/
theorem roundState_counts (loopback : Option (List Byte)) {s : State} (h : s.store.mode = .service) {p : Phase}
    {x : Exchange} (hx : s.rings.mail.get p = some x) (hc : x.count < 64) :
    (roundState loopback s).rings.mail.get p = some (countedExchange x) := by
  unfold roundState
  rw [ringCycle_lit (lightRings_lit h)]
  obtain ⟨hr, _⟩ := foldl_confirmCycle_mail allCells (lightRings (startCycle s))
  have ht := foldl_tunnelCycle_counts (s := allCells.foldl confirmCycle (lightRings (startCycle s)))
    (by rw [hr]; exact hx) hc
  generalize phases.foldl tunnelCycle (allCells.foldl confirmCycle (lightRings (startCycle s))) = t at ht
  obtain ⟨m, hm⟩ := testCycle_eq loopback t
  rw [hm]
  exact ht

/-! ### What the frames send of an exchange (R29, R40, R41) -/

section

variable {s : State} {plans : Bool}

theorem sendFrames_lit (h : s.rings.lit = true) : sendFrames plans s = { s with
    rings.frames := some ⟨buildFrame s plans .a, buildFrame s plans .b, buildFrame s plans .c⟩
    rings.mail := ⟨s.rings.mail.a.map (chunkSent s plans), s.rings.mail.b.map (chunkSent s plans),
      s.rings.mail.c.map (chunkSent s plans)⟩ } := if_pos h

theorem sendFrames_exchange {p : Phase} {x : Exchange} (h : s.rings.lit = true) (hx : s.rings.mail.get p = some x) :
    (sendFrames plans s).rings.mail.get p = some (chunkSent s plans x) := by
  have hmap : (sendFrames plans s).rings.mail.get p = (s.rings.mail.get p).map (chunkSent s plans) := by
    rw [sendFrames_lit h]
    cases p <;> rfl
  rw [hmap, hx, Option.map_some]

theorem fieldSent_sendFrames (h : s.rings.lit = true) (d : CellRef) :
    fieldSent (sendFrames plans s) d = some (commandField s plans d) := by
  have hget : ((⟨buildFrame s plans .a, buildFrame s plans .b, buildFrame s plans .c⟩ : Rings DownFrame).get (phaseOf d))
      = buildFrame s plans (phaseOf d) := by cases phaseOf d <;> rfl
  rw [sendFrames_lit h]
  simp only [fieldSent, Option.bind_some, hget]
  exact buildFrame_field s plans d

theorem sendFrames_expected (d : CellRef) : (sendFrames plans s).expected d = s.expected d := by
  unfold sendFrames
  split <;> rfl

/-- Outside REPHASE a linked cell is sent its ring's TUNNEL message, if any. -/
theorem fieldMessage_linked {d : CellRef} (hl : (s.cell d).link = .enrolled) (hs : s.seq.state ≠ .rephase) :
    fieldMessage s plans d = (tunnelMessage s d).getD .none := by
  rw [fieldMessage, if_neg (by simp [hl]), planMessage_none (.inl hs)]
  simp [enrolMessage, hl]

variable {x : Exchange} (hx : s.rings.mail.get (phaseOf x.cell) = some x)

include hx

theorem tunnelMessage_chunk (h : x.collecting = false) (hs : x.sent < chunkCount x) : tunnelMessage s x.cell
    = some (.tunnel false (decide (x.sent + 1 = chunkCount x)) x.sent ((x.out.drop (4 * x.sent)).take 4)) := by
  simp [tunnelMessage, hx, h, hs]

theorem tunnelMessage_poll (h : x.collecting = true) : tunnelMessage s x.cell
    = if s.expected x.cell = true then some (.tunnel true false x.poll []) else none := by
  simp [tunnelMessage, hx, h]

variable (hl : (s.cell x.cell).link = .enrolled) (hs : s.seq.state ≠ .rephase)

include hl hs

/-- A chunk goes out and is counted. -/
theorem chunkSent_chunk (h : x.collecting = false) (hc : x.sent < chunkCount x) :
    fieldMessage s plans x.cell
        = .tunnel false (decide (x.sent + 1 = chunkCount x)) x.sent ((x.out.drop (4 * x.sent)).take 4)
      ∧ chunkSent s plans x = { x with sent := x.sent + 1, count := max 1 x.count } := by
  have hm := (fieldMessage_linked (plans := plans) hl hs).trans
    (congrArg (Option.getD · .none) (tunnelMessage_chunk hx h hc))
  exact ⟨hm, by unfold chunkSent; rw [hm]; rfl⟩

/-- A poll goes out where the cell's slot is expected, and the exchange stays as it is. -/
theorem chunkSent_poll (h : x.collecting = true) :
    fieldMessage s plans x.cell = (if s.expected x.cell = true then .tunnel true false x.poll [] else .none)
      ∧ chunkSent s plans x = x := by
  have hm := (fieldMessage_linked (plans := plans) hl hs).trans
    (congrArg (Option.getD · .none) (tunnelMessage_poll hx h))
  have hm : fieldMessage s plans x.cell = (if s.expected x.cell = true then .tunnel true false x.poll [] else .none) := by
    rw [hm]
    split <;> rfl
  refine ⟨hm, ?_⟩
  unfold chunkSent
  rw [hm]
  by_cases he : s.expected x.cell = true
  · rw [if_pos he]
  · rw [if_neg he]

end

/-- A cycle start in READY with an exchange in flight: the frames are built from the device that holds the counted exchange,
with the cell installed and linked as it was. -/
theorem cycleStep_exchange {s : State} {x : Exchange} (hm : s.store.mode = .service) (hr : s.seq.state = .ready)
    (hx : s.rings.mail.get (phaseOf x.cell) = some x) (hi : s.installed x.cell = true)
    (hl : (s.cell x.cell).link = .enrolled) (hc : x.count < 64) :
    ∃ (v : State) (plans : Bool) (y : CommandField),
      v.rings.mail.get (phaseOf (countedExchange x).cell) = some (countedExchange x)
      ∧ (v.cell (countedExchange x).cell).link = .enrolled ∧ v.seq.state ≠ .rephase
      ∧ fieldSent (cycleStep none s) x.cell = some y ∧ y.message = fieldMessage v plans (countedExchange x).cell
      ∧ (cycleStep none s).expected x.cell = v.expected (countedExchange x).cell
      ∧ (cycleStep none s).rings.mail.get (phaseOf x.cell) = some (chunkSent v plans (countedExchange x)) := by
  have hround := roundState_round none s
  have hmail := roundState_counts none hm hx hc
  have hlit : (roundState none s).rings.lit = true := by rw [hround.lit]; simp [hm]
  have hcell : (roundState none s).cell x.cell = s.cell x.cell := by
    rw [roundState_cell none hm, confirmedCell, if_neg (by simp [hl])]
  have hin : (roundState none s).installed x.cell = true := by rw [installed_iff, hcell, ← installed_iff]; exact hi
  rw [cycleStep_ready none hr, countedExchange_cell]
  refine ⟨roundState none s, _, _, hmail, by rw [hcell]; exact hl, by rw [hround.seq, hr]; simp,
    fieldSent_sendFrames hlit x.cell, ?_, sendFrames_expected x.cell, sendFrames_exchange hlit hmail⟩
  rw [commandField_installed _ hin]

/-! ### A chunk of a response (R41) -/

theorem endExchange_some {s : State} {p : Phase} {x : Exchange} (code : ReplyCode) (h : s.rings.mail.get p = some x) :
    endExchange p code s = pushReply tunnelType x.tag code
      (if code = .ok ∨ code = .malformed then BitVec.ofNat 8 x.reply.length :: x.reply else [])
      { s with rings.mail := s.rings.mail.set p none } := by
  unfold endExchange
  rw [h]

/-- An exchange that ends OK or MALFORMED: the mailbox is EMPTY, and the reply carries the reply bytes. -/
theorem endExchange_carries {s : State} {p : Phase} {x : Exchange} {code : ReplyCode} (h : s.rings.mail.get p = some x)
    (hk : code = .ok ∨ code = .malformed) : (endExchange p code s).rings.mail.get p = none
      ∧ (endExchange p code s).link.replies
        = s.link.replies ++ [replyRecord tunnelType x.tag code (BitVec.ofNat 8 x.reply.length :: x.reply)] := by
  rw [endExchange_some code h, if_pos hk]
  exact ⟨by simp [Rings.get_set], rfl⟩

section

variable {s : State} {x : Exchange} {final : Bool} {seq : BitVec 2} {length : BitVec 3} {data : List Byte}
  (hx : s.rings.mail.get (phaseOf x.cell) = some x)

include hx

theorem takeChunk_discards (h : x.collecting = false ∨ 4 < length.toNat ∨ seq.toNat ≠ x.poll) :
    takeChunk x.cell (.tunnel final seq length data) s = s := by
  unfold takeChunk
  simp only [hx]
  exact if_pos (.inr h)

variable (hc : x.collecting = true) (h4 : length.toNat ≤ 4) (hp : seq.toNat = x.poll)

include hc h4 hp

theorem takeChunk_overlong (h : 16 < x.reply.length + length.toNat) :
    takeChunk x.cell (.tunnel final seq length data) s = endExchange (phaseOf x.cell) .malformed s := by
  unfold takeChunk
  simp only [hx]
  rw [if_neg (by simp [hc, h4, hp]), if_pos h]

/-- The exchange after a chunk that it takes. -/
abbrev grownExchange (x : Exchange) (length : BitVec 3) (data : List Byte) : Exchange :=
  { x with reply := x.reply ++ data.take length.toNat, poll := x.poll + 1 }

theorem takeChunk_taken (h : x.reply.length + length.toNat ≤ 16) :
    ∃ u : State, u.rings.mail.get (phaseOf x.cell) = some (grownExchange x length data) ∧ u.link = s.link
      ∧ takeChunk x.cell (.tunnel final seq length data) s
        = if final = true then endExchange (phaseOf x.cell) .ok u
          else if x.poll = 3 then endExchange (phaseOf x.cell) .malformed u else u := by
  refine ⟨{ s with rings.mail := s.rings.mail.set (phaseOf x.cell) (some (grownExchange x length data)) },
    by simp [Rings.get_set], rfl, ?_⟩
  unfold takeChunk
  simp only [hx]
  rw [if_neg (by simp [hc, h4, hp]), if_neg (by omega)]

end

/-! ### A response in READY -/

/-- The device with the response of a cell taken up to its fault class: report, link health and chunk. -/
theorem takeValid_eq {c : CellRef} {r : Response} {s : State} (hh : s.rings.healthOn = true) :
    takeValid c r s = blockCheck (confirmGateOff c r (confirmBypass c (s.cell c) r
      (dcCheck c (s.cell c) r.dc (takeReported c r (linkedState c r s))))) := by
  have hhealth : (reportedState c r s).rings.healthOn = true := hh
  unfold takeValid
  change blockCheck (confirmGateOff c r (confirmBypass c (s.cell c) r (dcCheck c (s.cell c) r.dc (takeReported c r
    (takeChunk c r.message (if (reportedState c r s).rings.healthOn then linkValid c r (reportedState c r s)
      else reportedState c r s)))))) = _
  rw [if_pos hhealth]
  rfl

/-- Of a linked cell link health takes the miss count alone. -/
theorem linkedState_enrolled {c : CellRef} {r : Response} {s : State} (h : (s.cell c).link = .enrolled) :
    linkedState c r s = takeChunk c r.message (heardState c r s) := by
  have hl : ((reportedState c r s).cell c).link = .enrolled := by rw [reportedState_cell]; exact h
  have e : linkValid c r (reportedState c r s) = heardState c r s := by
    simp only [linkValid, hl]
    exact modCell_modCell s c _ _
  rw [linkedState, e]

/-- The device with another gate-off watch. -/
def withWatch (w : Option Watch) (s : State) : State := { s with seq.watch := w }

@[simp] theorem withWatch_cell (w : Option Watch) (s : State) (c : CellRef) : (withWatch w s).cell c = s.cell c := rfl
@[simp] theorem withWatch_rings (w : Option Watch) (s : State) : (withWatch w s).rings = s.rings := rfl
@[simp] theorem withWatch_link (w : Option Watch) (s : State) : (withWatch w s).link = s.link := rfl
@[simp] theorem withWatch_queue (w : Option Watch) (s : State) : (withWatch w s).queue = s.queue := rfl
@[simp] theorem withWatch_state (w : Option Watch) (s : State) : (withWatch w s).seq.state = s.seq.state := rfl
@[simp] theorem withWatch_campaign (w : Option Watch) (s : State) : (withWatch w s).seq.campaign = s.seq.campaign := rfl

/-- The sequencer's reading of a response touches the watch at most: no bypass is awaited, and a BLOCK has just begun. -/
abbrev ReadsWatchAlone (s : State) : Prop :=
  s.seq.state ≠ .isolate ∧ (s.seq.state = .block → ∀ w, s.seq.watch = some w → w.starts = 0)

theorem readsWatchAlone_ready {s : State} (h : s.seq.state = .ready) : ReadsWatchAlone s :=
  ⟨by simp [h], fun hb => by rw [h] at hb; cases hb⟩

theorem blockCheck_gateOff {c : CellRef} {r : Response} {s : State} (h : ReadsWatchAlone s) :
    ∃ w, blockCheck (confirmGateOff c r s) = withWatch w s := by
  by_cases hb : s.seq.state = .block
  · cases hw : s.seq.watch with
    | none => exact ⟨s.seq.watch, blockCheck_unwatched r hw⟩
    | some w =>
      have h0 := h.2 hb w hw
      have e : confirmGateOff c r s = s := by
        unfold confirmGateOff
        rw [hw]
        exact if_neg (by omega)
      exact ⟨_, by rw [e]; exact blockCheck_filters hw (.inl h0)⟩
  · obtain ⟨w, hw⟩ := confirmGateOff_watch c r s
    rw [hw]
    rcases blockCheck_cases { s with seq.watch := w } with ⟨_, e⟩ | ⟨_, _, _, _, e | ⟨hblock, _⟩⟩
    · exact ⟨w, e⟩
    · exact ⟨_, e⟩
    · exact absurd hblock hb

theorem takeValid_watch {c : CellRef} {r : Response} {s v : State} (hh : s.rings.healthOn = true)
    (hv : dcCheck c (s.cell c) r.dc (takeReported c r (linkedState c r s)) = v) (hb : ReadsWatchAlone v) :
    ∃ w, takeValid c r s = withWatch w v := by
  rw [takeValid_eq hh, hv, confirmBypass_elsewhere c _ r hb.1]
  exact blockCheck_gateOff hb

/-- A clean response of a linked cell inside the DC window, in READY: the mailboxes and the replies are those its chunk
leaves. -/
theorem slotStep_chunk {c : CellRef} {seen : SlotSeen} {r : Response} {s : State} (ha : Answers c seen r s)
    (hs : s.seq.state = .ready) (hl : (s.cell c).link = .enrolled) (h0 : r.classCode = 0)
    (hd : insideWindow s.store.image r.dc = true) :
    (slotStep c seen s).rings = (takeChunk c r.message (heardState c r s)).rings
      ∧ (slotStep c seen s).link = (takeChunk c r.message (heardState c r s)).link := by
  have ho := linkedState_only c r s
  rw [linkedState_enrolled hl] at ho
  have hdc : ∃ u, OnRecord c (takeChunk c r.message (heardState c r s)) u
      ∧ dcCheck c (s.cell c) r.dc (takeReported c r (linkedState c r s)) = u := by
    refine ⟨_, ?_, rfl⟩
    rw [takeReported, if_pos h0, linkedState_enrolled hl]
    by_cases hw : (s.cell c).service.working = true
    · rw [dcCheck_inside hl hw (by rw [ho.store]; exact hd)]
      exact .modCell c _ _
    · rw [dcCheck_idle _ _ (by simpa using hw)]
      exact .refl c _
  obtain ⟨u, hu, hv⟩ := hdc
  have hready : u.seq.state = .ready := by rw [hu.seq, ho.seq, hs]
  obtain ⟨w, hw⟩ := takeValid_watch ha.2.1 hv (readsWatchAlone_ready hready)
  rw [slotStep_valid ha, hw, withWatch_rings, withWatch_link]
  exact ⟨hu.rings, hu.link⟩

/-! ### The TUNNEL request (R39) -/

theorem serveTunnel_named {tag number : Byte} {bytes : List Byte} {c : CellRef} {s : State} (h : s.named number = some c) :
    serveTunnel tag number bytes s
      = if cfgTunnelEnable s.store.image = false then pushReply tunnelType tag .disabled [] s
        else if (s.cell c).link ≠ .enrolled then pushReply tunnelType tag .notLinked [] s
        else if (s.rings.mail.get (phaseOf c)).isSome then pushReply tunnelType tag .busy [] s
        else if s.seq.state ≠ .ready then pushReply tunnelType tag .campaignActive [] s
        else { s with rings.mail := s.rings.mail.set (phaseOf c) (some (newExchange c tag bytes)) } := by
  simp [serveTunnel, h]

end Sys2Proof.Machine

open Sys2Proof Sys2Proof.Machine

/-- Settles O26: the request by the checks of R39 in order, a cycle start by the exchange it counts and sends, a response by
what its chunk does to the mailbox. -/
theorem tunnelOpensAnExchange : Obligations.TunnelOpensAnExchange := by
  refine ⟨fun tag number bytes c s hready hmode h1 h16 hc => ?_, fun p x s hq hmode hs hx hp hi hl hcount => ?_,
    fun seen r x final seq length data s hq hs ha hl hm h0 hd hx => ?_⟩
  · have hreq : requestOf (.tunnel tag number bytes) = some ⟨tag, .tunnel number bytes⟩ := by simp [requestOf, h1, h16]
    have hserve : serve ⟨tag, .tunnel number bytes⟩ s = _ := serveTunnel_named hc
    have htaken : takenIn (.tunnel number bytes) s.store.mode = true := by simp [takenIn, hmode]
    refine ⟨fun he => ?_, fun he => ⟨fun hl => ?_, fun hl => ⟨fun hb => ?_, fun hb => ⟨fun hs => ?_, fun hs => ?_⟩⟩⟩⟩
    · exact exec_replied hreq hready htaken (hserve.trans (by simp [he, tunnelType]))
    · exact exec_replied hreq hready htaken (hserve.trans (by simp [he, hl, tunnelType]))
    · exact exec_replied hreq hready htaken (hserve.trans (by simp [he, hl, hb, tunnelType]))
    · exact exec_replied hreq hready htaken (hserve.trans (by simp [he, hl, hb, hs, tunnelType]))
    · exact exec_served hreq hready htaken (hserve.trans (by simp [he, hl, hb, hs, newExchange])) hready.1
  · subst hp
    obtain ⟨v, plans, y, hv, hlink, hstate, hy, hmessage, hexpected, hmail⟩ := cycleStep_exchange hmode hs hx hi hl hcount
    refine ⟨_, y, exec_cycleStart hq none, hy, fun hc hsent => ?_, fun hc hsent h1 => ?_, fun hc h1 => ?_⟩
    · rw [countedExchange_sending hsent] at hv hlink hmessage hmail
      obtain ⟨hfield, hchunk⟩ := chunkSent_chunk (plans := plans) hv hlink hstate hc hsent
      rw [hmail, hmessage, hchunk, hfield]
      refine ⟨?_, rfl⟩
      dsimp only
      congr 2
      split <;> omega
    · rw [countedExchange_collects hc hsent h1] at hv hlink hmessage hmail hexpected
      obtain ⟨hfield, hchunk⟩ := chunkSent_poll (plans := plans) hv hlink hstate rfl
      rw [hmail, hmessage, hchunk, hfield, hexpected]
      exact ⟨rfl, rfl⟩
    · rw [countedExchange_polling hc h1] at hv hlink hmessage hmail hexpected
      obtain ⟨hfield, hchunk⟩ := chunkSent_poll (plans := plans) hv hlink hstate hc
      rw [hmail, hmessage, hchunk, hfield, hexpected]
      exact ⟨rfl, rfl⟩
  · have hheard := heardState_only x.cell r s
    have hu : (heardState x.cell r s).rings.mail.get (phaseOf x.cell) = some x := by rw [hheard.rings]; exact hx
    obtain ⟨hrings, hlink⟩ := slotStep_chunk ha hs hl h0 hd
    rw [hm] at hrings hlink
    rw [← hheard.rings, ← hheard.link]
    generalize heardState x.cell r s = u at hu hrings hlink
    refine ⟨_, exec_slotEnd hq x.cell seen, ?_⟩
    rw [hrings, hlink]
    refine ⟨fun h => ?_, fun hc h4 hp => ⟨fun h => ?_, ?_⟩⟩
    · rw [takeChunk_discards hu h]
      exact ⟨rfl, rfl⟩
    · rw [takeChunk_overlong hu hc h4 hp h]
      exact endExchange_carries hu (.inr rfl)
    · rintro taken rfl h
      obtain ⟨w, hw, hwl, htake⟩ := takeChunk_taken (final := final) (data := data) hu hc h4 hp h
      rw [htake, ← hwl]
      refine ⟨fun hf => ?_, fun hf h3 => ?_, fun hf h3 => ?_⟩
      · rw [if_pos hf]
        exact endExchange_carries hw (.inl rfl)
      · rw [if_neg (by simp [hf]), if_pos h3]
        exact endExchange_carries hw (.inr rfl)
      · rw [if_neg (by simp [hf]), if_neg h3]
        exact ⟨hw, rfl⟩

end


section
/-! PROOFS. What a slot's receiver saw: the outcome, the CRC-8 over a response and the fields of its 16 bytes (Tables 2-4 and
12-9). -/

namespace Sys2Proof.Machine

open Sys2Proof

/-! ### Outcomes (R31) -/

theorem judgeSlot_silent {seen : SlotSeen} (h : seen.began = none) :
    judgeSlot seen = if seen.presentAtOpen then .invalid else .missed := by simp only [judgeSlot, h]

theorem judgeSlot_signal {seen : SlotSeen} {g : SlotSignal} (h : seen.began = some g) :
    judgeSlot seen = if g.presentAtEnd then .overrun else if seen.presentAtOpen || g.late then .invalid
      else (readResponse g.bytes).elim .invalid .valid := by
  simp only [judgeSlot, h]
  cases readResponse g.bytes <;> rfl

/-! ### CRC-8 (section 2.4) -/

/-- One bit of the CRC-8 register. -/
def crc8Shift (v : Byte) : Byte := if v.msb = true then (v <<< 1) ^^^ 0x31 else v <<< 1

theorem crcShift_toNat (v : Byte) : crcShift 0x31 8 v.toNat = (crc8Shift v).toNat := by
  have hv := v.isLt
  unfold crcShift crc8Shift
  by_cases h : v.toNat < 128
  · rw [if_pos (by omega), if_neg (by simp [BitVec.msb_eq_decide]; omega), BitVec.toNat_shiftLeft, Nat.shiftLeft_eq]
    omega
  · rw [if_neg (by omega), if_pos (by simp [BitVec.msb_eq_decide]; omega), BitVec.toNat_xor, BitVec.toNat_shiftLeft,
      Nat.shiftLeft_eq, Nat.xor_mod_two_pow]
    rfl

theorem repeat_crcShift_toNat (n : Nat) (v : Byte) : Nat.repeat (crcShift 0x31 8) n v.toNat
    = ((List.range n).foldl (fun (v : Byte) (_ : Nat) => crc8Shift v) v).toNat := by
  induction n with
  | zero => rfl
  | succ n ih =>
    rw [Nat.repeat, ih, crcShift_toNat, List.range_succ, List.foldl_append]
    rfl

theorem crcByte_toNat (v b : Byte) : crcByte 0x31 8 v.toNat b
    = ((List.range 8).foldl (fun (v : Byte) (_ : Nat) => crc8Shift v) (v ^^^ b)).toNat := by
  rw [← repeat_crcShift_toNat, BitVec.toNat_xor]
  rfl

/-- The register holds a byte throughout. -/
theorem crc8_toNat (l : List Byte) : l.foldl (crcByte 0x31 8) 0xFF = (crc8 l).toNat := by
  induction l using List.reverseRecOn with
  | nil => rfl
  | append_singleton l b ih => rw [crc8, List.foldl_append, List.foldl_cons, List.foldl_nil, ih, crcByte_toNat,
      BitVec.ofNat_toNat, BitVec.setWidth_eq]

theorem crc8_append (l : List Byte) (b : Byte) : crc8 (l ++ [b])
    = (List.range 8).foldl (fun (v : Byte) (_ : Nat) => crc8Shift v) (crc8 l ^^^ b) := by
  rw [crc8, List.foldl_append, List.foldl_cons, List.foldl_nil, crc8_toNat, crcByte_toNat, BitVec.ofNat_toNat,
    BitVec.setWidth_eq]

/-! ### The fields of a response (R179) -/

theorem toNat_append_eq_add {n m : Nat} (x : BitVec n) (y : BitVec m) : (x ++ y).toNat = x.toNat * 2 ^ m + y.toNat := by
  rw [BitVec.toNat_append, ← Nat.shiftLeft_add_eq_or_of_lt y.isLt, Nat.shiftLeft_eq]

theorem toNat_bits (b : Byte) (start n : Nat) : (b.extractLsb' start n).toNat = b.toNat / 2 ^ start % 2 ^ n := by
  rw [BitVec.extractLsb'_toNat, Nat.shiftRight_eq_div_pow]

theorem toNat_highNibble (b : Byte) : (b.extractLsb' 4 4).toNat = b.toNat / 16 := by
  have := b.isLt
  rw [toNat_bits]
  omega

theorem toNat_lowNibble (b : Byte) : (b.extractLsb' 0 4).toNat = b.toNat % 16 := by
  rw [toNat_bits]
  omega

theorem natOfBytes_one (b : Byte) : natOfBytes [b] = b.toNat := by simp [natOfBytes]

theorem natOfBytes_two (a b : Byte) : natOfBytes [a, b] = (a ++ b).toNat := by
  rw [toNat_append_eq_add]
  simp [natOfBytes]

theorem natOfBytes_four (a b c d : Byte) : natOfBytes [a, b, c, d] = (a ++ (b ++ (c ++ d))).toNat := by
  rw [toNat_append_eq_add, toNat_append_eq_add, toNat_append_eq_add]
  simp [natOfBytes]
  omega

theorem goodCrc8_iff {bytes : List Byte} {b : Byte} : goodCrc8 (bytes ++ [b]) = true ↔ b = crc8 bytes := by
  simp [goodCrc8]
  exact eq_comm

/-- A response has the 16 bytes of Table 12-9. -/
theorem readResponse_length {bytes : List Byte} (h : bytes.length ≠ 16) : readResponse bytes = none := by
  unfold readResponse
  split
  · exact if_neg fun hb => h hb.1
  · rfl

theorem readResponse_sixteen (b0 b1 b2 b3 b4 b5 b6 b7 b8 b9 b10 b11 b12 b13 b14 b15 : Byte) :
    readResponse [b0, b1, b2, b3, b4, b5, b6, b7, b8, b9, b10, b11, b12, b13, b14, b15]
      = if b15 = crc8 [b0, b1, b2, b3, b4, b5, b6, b7, b8, b9, b10, b11, b12, b13, b14] then some {
          gate := b0.extractLsb' 4 4, bypass := b0.extractLsb' 0 4, classCode := b1, detail := b2
          dc := min 4095 (natOfBytes [b3, b4]), tag := b5
          message := readMessage b6 [b7, b8, b9, b10, b11, b12, b13, b14] } else none := by
  have hcrc := goodCrc8_iff (bytes := [b0, b1, b2, b3, b4, b5, b6, b7, b8, b9, b10, b11, b12, b13, b14]) (b := b15)
  unfold readResponse
  exact if_congr ⟨fun h => hcrc.1 h.2, fun h => ⟨rfl, hcrc.2 h⟩⟩ rfl rfl

theorem readMessage_none {code : Byte} (m : List Byte) (h : code.toNat = 0) : readMessage code m = .none :=
  if_pos (BitVec.eq_of_toNat_eq h)

theorem readMessage_ability {code : Byte} (s3 s2 s1 s0 r1 r0 k f : Byte) (h : code.toNat = 1) :
    readMessage code [s3, s2, s1, s0, r1, r0, k, f] = .ability {
      serial := s3 ++ (s2 ++ (s1 ++ s0)), ratedDc := r1 ++ r0, cellClass := k.extractLsb' 4 4
      bypassKind := if k.getLsbD 1 then .thyristor else .contactor, halfRateCapable := k.getLsbD 0
      firmwareMajor := f.extractLsb' 4 4, firmwareMinor := f.extractLsb' 0 4 } := by
  obtain rfl : code = 1 := BitVec.eq_of_toNat_eq h
  rfl

theorem readMessage_accepted {code : Byte} (s3 s2 s1 s0 : Byte) (m : List Byte) (h : code.toNat = 2) :
    readMessage code (s3 :: s2 :: s1 :: s0 :: m) = .accepted (s3 ++ (s2 ++ (s1 ++ s0))) := by
  obtain rfl : code = 2 := BitVec.eq_of_toNat_eq h
  rfl

theorem readMessage_tunnel {code : Byte} (head : Byte) (data : List Byte) (h : code.toNat = 3) :
    readMessage code (head :: data)
      = .tunnel (head.getLsbD 6) (head.extractLsb' 4 2) (head.extractLsb' 0 3) (data.take 4) := by
  obtain rfl : code = 3 := BitVec.eq_of_toNat_eq h
  rfl

theorem readMessage_other {code : Byte} (m : List Byte) (h : 4 ≤ code.toNat) : readMessage code m = .other := by
  have hne (n : Byte) (hn : n.toNat < 4) : code ≠ n := by
    rintro rfl
    omega
  simp [readMessage, hne]

/-- The fields of a response in the words of Table 12-9. -/
abbrev ReadsAs (bytes : List Byte) (r : Response) : Prop :=
  r.gate.toNat = byteField bytes 0 1 / 16 ∧ r.bypass.toNat = byteField bytes 0 1 % 16
  ∧ r.classCode.toNat = byteField bytes 1 1 ∧ r.detail.toNat = byteField bytes 2 1
  ∧ r.dc = min 4095 (byteField bytes 3 2) ∧ r.tag.toNat = byteField bytes 5 1
  ∧ (byteField bytes 6 1 = 0 → r.message = .none)
  ∧ (byteField bytes 6 1 = 1 → ∃ a : Ability, r.message = .ability a
    ∧ a.serial.toNat = byteField bytes 7 4 ∧ a.ratedDc.toNat = byteField bytes 11 2
    ∧ a.cellClass.toNat = byteField bytes 13 1 / 16
    ∧ (a.bypassKind = .thyristor ↔ (byteField bytes 13 1).testBit 1 = true)
    ∧ a.halfRateCapable = (byteField bytes 13 1).testBit 0
    ∧ a.firmwareMajor.toNat = byteField bytes 14 1 / 16 ∧ a.firmwareMinor.toNat = byteField bytes 14 1 % 16)
  ∧ (byteField bytes 6 1 = 2 → ∃ serial, r.message = .accepted serial ∧ serial.toNat = byteField bytes 7 4)
  ∧ (byteField bytes 6 1 = 3 → ∃ final seq length data, r.message = .tunnel final seq length data
    ∧ final = (byteField bytes 7 1).testBit 6 ∧ seq.toNat = byteField bytes 7 1 / 16 % 4
    ∧ length.toNat = byteField bytes 7 1 % 8 ∧ data = (bytes.drop 8).take 4)
  ∧ (4 ≤ byteField bytes 6 1 → r.message = .other)

/-- A response is read where its last byte is the CRC-8 of those before it, by the fields of Table 12-9. -/
theorem readResponse_fields {bytes : List Byte} (hlen : bytes.length = 16) :
    (byteField bytes 15 1 ≠ (crc8 (bytes.take 15)).toNat → readResponse bytes = none)
    ∧ (byteField bytes 15 1 = (crc8 (bytes.take 15)).toNat → ∃ r, readResponse bytes = some r ∧ ReadsAs bytes r) := by
  match bytes, hlen with
  | [b0, b1, b2, b3, b4, b5, b6, b7, b8, b9, b10, b11, b12, b13, b14, b15], _ =>
    rw [readResponse_sixteen]
    simp only [ReadsAs, byteField, List.drop_succ_cons, List.drop_zero, List.take_succ_cons, List.take_zero, natOfBytes_one,
      natOfBytes_two, natOfBytes_four]
    refine ⟨fun h => if_neg fun e => h (by rw [e]), fun h => ⟨_, if_pos (BitVec.eq_of_toNat_eq h), toNat_highNibble b0,
      toNat_lowNibble b0, rfl, rfl, rfl, rfl, fun h => ?_, fun h => ?_, fun h => ?_, fun h => ?_, fun h => ?_⟩⟩
    · dsimp only
      exact readMessage_none _ h
    · refine ⟨_, readMessage_ability b7 b8 b9 b10 b11 b12 b13 b14 h, rfl, rfl, toNat_highNibble b13, ?_, rfl,
        toNat_highNibble b14, toNat_lowNibble b14⟩
      rw [BitVec.testBit_toNat]
      dsimp only
      split <;> simp_all
    · exact ⟨_, readMessage_accepted b7 b8 b9 b10 _ h, rfl⟩
    · exact ⟨_, _, _, _, readMessage_tunnel b7 _ h, rfl, toNat_bits b7 4 2, (toNat_bits b7 0 3).trans (by simp), rfl⟩
    · dsimp only
      exact readMessage_other _ h

end Sys2Proof.Machine
end


section
/-! PROOFS. A slot of a linked cell without a fault, and of a SEVERED one: misses with their flags, clean reports and the
relink run. -/

namespace Sys2Proof.Machine

open Sys2Proof

/-! ### Slots without a VALID response (R33) -/

theorem slotStep_unexpected {c : CellRef} {seen : SlotSeen} {s : State} (h : s.expected c = false) :
    slotStep c seen s = s := by
  simp [slotStep, h]

/-- The device with the flag of a slot's outcome: OVERRUN alone sets one (R31). -/
def markedState (c : CellRef) (seen : SlotSeen) (s : State) : State :=
  if judgeSlot seen = .overrun then setFlag .overrun c s else s

theorem markedState_only (c : CellRef) (seen : SlotSeen) (s : State) : OnRecord c s (markedState c seen s) := by
  unfold markedState
  split
  · exact .setFlag _ c s
  · exact .refl c s

theorem markedState_cell (c : CellRef) (seen : SlotSeen) (s : State) : (markedState c seen s).cell c = { s.cell c with
    flags := (s.cell c).flags ||| if judgeSlot seen = .overrun then ReportFlag.overrun.mask else 0 } := by
  unfold markedState
  split
  · exact setFlag_cell_same _ c s
  · simp

theorem slotStep_not_valid {c : CellRef} {seen : SlotSeen} {s : State} (he : s.expected c = true)
    (hj : ∀ r, judgeSlot seen ≠ .valid r) : slotStep c seen s = takeMiss c (markedState c seen s) := by
  unfold slotStep markedState
  rw [if_pos he]
  cases h : judgeSlot seen with
  | valid r => exact absurd h (hj r)
  | invalid => simp
  | overrun => simp
  | missed => simp

/-- Such a slot with no gate-off watch: link health takes the miss, and the sequencer reads nothing. -/
theorem slotStep_missed {c : CellRef} {seen : SlotSeen} {s u : State} (he : s.expected c = true)
    (hh : s.rings.healthOn = true) (hj : ∀ r, judgeSlot seen ≠ .valid r)
    (hu : linkMiss c (missedState c (markedState c seen s)) = u) (hw : u.seq.watch = none) : slotStep c seen s = u := by
  rw [slotStep_not_valid he hj, takeMiss_lit (by rw [(markedState_only c seen s).rings]; exact hh), hu, blockCheck_none hw]

/-! ### A miss of a linked cell (R54 to R56) -/

theorem warnMiss_low {n : Nat} {c : CellRef} {s : State} (h : n < 60) : warnMiss n c s = s := by
  unfold warnMiss
  rw [if_neg (by omega)]
  exact if_neg (by omega)

/-- The warnings of a miss count: degraded at 60 while armed, suspect at 120. -/
theorem warnMiss_cell_same (n : Nat) (c : CellRef) (s : State) : (warnMiss n c s).cell c = { s.cell c with
    degradedArmed := (s.cell c).degradedArmed && decide (n < 60)
    suspect := (s.cell c).suspect || decide (120 ≤ n)
    flags := (s.cell c).flags
      ||| (if 60 ≤ n ∧ (s.cell c).degradedArmed = true then ReportFlag.degraded.mask else 0)
      ||| (if 120 ≤ n ∧ (s.cell c).suspect = false then ReportFlag.suspect.mask else 0) } := by
  have hd : (if 60 ≤ n ∧ (s.cell c).degradedArmed then
      setFlag .degraded c (s.modCell c fun x => { x with degradedArmed := false }) else s).cell c = { s.cell c with
        degradedArmed := (s.cell c).degradedArmed && decide (n < 60)
        flags := (s.cell c).flags
          ||| (if 60 ≤ n ∧ (s.cell c).degradedArmed = true then ReportFlag.degraded.mask else 0) } := by
    by_cases h : 60 ≤ n ∧ (s.cell c).degradedArmed = true
    · rw [if_pos h, if_pos h, setFlag_cell_same, cell_modCell_same]
      simp [h.1]
    · rw [if_neg h, if_neg h]
      have harm : ((s.cell c).degradedArmed && decide (n < 60)) = (s.cell c).degradedArmed := by
        cases ha : (s.cell c).degradedArmed
        · rfl
        · simp [ha] at h
          simpa using h
      simp [harm]
  unfold warnMiss
  generalize (if 60 ≤ n ∧ (s.cell c).degradedArmed then
    setFlag .degraded c (s.modCell c fun x => { x with degradedArmed := false }) else s) = t at hd
  dsimp only
  have hsus : (t.cell c).suspect = (s.cell c).suspect := by rw [hd]
  by_cases h : 120 ≤ n ∧ (s.cell c).suspect = false
  · rw [if_pos (by rw [hsus]; exact h), if_pos h, setFlag_cell_same, cell_modCell_same, hd]
    simp [h.1]
  · rw [if_neg (by rw [hsus]; exact h), if_neg h, hd]
    have hsame : ((s.cell c).suspect || decide (120 ≤ n)) = (s.cell c).suspect := by
      cases ha : (s.cell c).suspect
      · simp [ha] at h
        simpa using h
      · rfl
    simp [hsame]

/-- Below 240 a miss of a linked cell raises its count and warns. -/
theorem linkMiss_raises {c : CellRef} {s : State} {n : Nat} (hl : (s.cell c).link = .enrolled)
    (hn : n = (s.cell c).missCount + 6) (h : n < 240) :
    linkMiss c s = warnMiss n c (s.modCell c fun x => { x with missCount := n }) := by
  have hmin : min 240 ((s.cell c).missCount + 6) = n := by omega
  simp only [linkMiss, hl, raiseMiss, hmin]
  exact if_neg (by omega)

theorem linkMiss_severed {c : CellRef} {s : State} (hl : (s.cell c).link = .severed) :
    linkMiss c s = s.modCell c fun x => { x with goodRun := 0 } := by
  simp only [linkMiss, hl]

/-- A missed slot of a linked cell below 240: its record, and nothing else. -/
theorem slotStep_raises {c : CellRef} {seen : SlotSeen} {s : State} {n : Nat} (he : s.expected c = true)
    (hh : s.rings.healthOn = true) (hj : ∀ r, judgeSlot seen ≠ .valid r) (hw : s.seq.watch = none)
    (hl : (s.cell c).link = .enrolled) (hn : n = (s.cell c).missCount + 6) (h : n < 240) :
    slotStep c seen s
        = warnMiss n c ((missedState c (markedState c seen s)).modCell c fun x => { x with missCount := n })
      ∧ OnRecord c s (slotStep c seen s) := by
  have hm : OnRecord c s (missedState c (markedState c seen s)) :=
    (OnRecord.modCell c _ _).after (markedState_only c seen s)
  have hcell : (missedState c (markedState c seen s)).cell c = { s.cell c with
      flags := (s.cell c).flags ||| if judgeSlot seen = .overrun then ReportFlag.overrun.mask else 0
      reportAge := min 255 ((s.cell c).reportAge + 1) } := by rw [missedState_cell, markedState_cell]
  have hmiss := linkMiss_raises (c := c) (s := missedState c (markedState c seen s)) (n := n) (by rw [hcell]; exact hl)
    (by rw [hcell]; exact hn) h
  have hr := (OnRecord.warnMiss n c _).after ((OnRecord.modCell c (fun x => { x with missCount := n }) _).after hm)
  have e := slotStep_missed he hh hj hmiss (by rw [hr.seq]; exact hw)
  exact ⟨e, e ▸ hr⟩

/-! ### A clean response of a linked cell (R32, R54 to R56) -/

theorem takeReported_clean {c : CellRef} {r : Response} (h : r.classCode = 0) (s : State) :
    takeReported c r s = s := if_pos h

/-- Inside the DC window the response of a working cell writes its record alone. -/
theorem slotStep_clean {c : CellRef} {seen : SlotSeen} {r : Response} {s : State} (ha : Answers c seen r s)
    (hw : s.seq.watch = none) (hl : (s.cell c).link = .enrolled) (h0 : r.classCode = 0) (hm : r.message = .none)
    (hs : (s.cell c).service.working = true) (hi : (s.cell c).isolation = none)
    (hd : insideWindow s.store.image r.dc = true) :
    slotStep c seen s = (heardState c r s).modCell c fun x => { x with dcDebounce := 0 } := by
  rw [slotStep_valid ha, takeValid_linked hl ha.2.1 hm, takeReported_clean h0, dcCheck_inside (s := heardState c r s) hl hs hd,
    confirmBypass_untimed r _ hi]
  exact blockCheck_unwatched r hw

/-! ### The relink run (R59) -/

theorem relinkStep_rises {c : CellRef} {s : State} (h : (s.cell c).goodRun + 1 < 48) :
    relinkStep c s = s.modCell c fun x => { x with goodRun := (s.cell c).goodRun + 1 } :=
  (if_neg (by omega)).trans (if_pos h)

theorem relinkStep_held {c : CellRef} {s : State} (h : (s.cell c).goodRun + 1 = 48)
    (hc : cfgRelinkHeld s.store.image = true) :
    relinkStep c s = setFlag .relinkReady c (s.modCell c fun x => { x with goodRun := 48 }) :=
  (if_neg (by omega)).trans ((if_neg (by omega)).trans (if_pos hc))

theorem relinkStep_auto {c : CellRef} {s : State} (h : (s.cell c).goodRun + 1 = 48)
    (hc : cfgRelinkHeld s.store.image = false) : relinkStep c s = enterLink .dark none none c s :=
  (if_neg (by omega)).trans ((if_neg (by omega)).trans (if_neg (by simp [hc])))

theorem relinkStep_service (c : CellRef) (s : State) : ((relinkStep c s).cell c).service = (s.cell c).service := by
  unfold relinkStep
  dsimp only
  (repeat' split)
  · rfl
  · rw [cell_modCell_same]
  · rw [setFlag_cell_same, cell_modCell_same]
  · rw [enterLink_cell_same]
    rfl

/-- A clean response of a SEVERED cell outside ISOLATE, with no gate-off watch: link health and the tunnel alone take it. -/
theorem slotStep_severed {c : CellRef} {seen : SlotSeen} {r : Response} {s : State} (ha : Answers c seen r s)
    (hw : s.seq.watch = none) (hi : s.seq.state ≠ .isolate) (hl : (s.cell c).link = .severed) (h0 : r.classCode = 0) :
    slotStep c seen s = linkedState c r s
      ∧ (linkedState c r s).cell c = (relinkStep c (reportedState c r s)).cell c := by
  have hseq := (linkedState_only c r s).seq
  refine ⟨?_, ?_⟩
  · rw [slotStep_valid ha, takeValid_eq ha.2.1, takeReported_clean h0, dcCheck_unlinked c _ _ (by simp [hl]),
      confirmBypass_elsewhere c _ r (by rw [hseq]; exact hi)]
    exact blockCheck_unwatched r (by rw [hseq]; exact hw)
  · have hr : ((reportedState c r s).cell c).link = .severed := by rw [reportedState_cell]; exact hl
    rw [linkedState_cell]
    simp only [linkValid, hr]

end Sys2Proof.Machine
end


section
/-! PROOFS. The DC window: the fault of a working cell in READY and the FAULT campaign that it opens, and the obligation
about slots. -/

namespace Sys2Proof.Machine

open Sys2Proof

/-! ### The queued route in READY (R66, R72) -/

/-- The device with a cell FAULTED by the queued route, before the sequencer is told. -/
def queuedState (k : FaultClass) (detail : Byte) (c : CellRef) (s : State) : State :=
  setFlag .faultSeen c (setFlag .stateChanged c (appendEntry k detail c (makeFaulted k detail c s)))

/-- The queue entry of a cell that faults now (R65). -/
abbrev entryNow (k : FaultClass) (detail : Byte) (c : CellRef) (s : State) : QueueEntry :=
  { cell := c, first := k, detail := detail, stamp := s.gen.timebase, further := 0 }

theorem queuedState_only (k : FaultClass) (detail : Byte) (c : CellRef) (s : State) :
    OnRecord c { s with queue := s.queue ++ [entryNow k detail c s] } (queuedState k detail c s) :=
  (OnRecord.setFlag _ c _).after ((OnRecord.setFlag _ c _).after (OnRecord.setCell c _ _))

theorem queuedState_cell (k : FaultClass) (detail : Byte) (c : CellRef) (s : State) :
    (queuedState k detail c s).cell c = { s.cell c with
      service := .faulted
      offset := none
      dcDebounce := 0
      fault := some (freshFault k detail s.now)
      faultedClose := baseClose s c
      flags := (s.cell c).flags ||| ReportFlag.stateChanged.mask ||| ReportFlag.faultSeen.mask } := by
  have h : (appendEntry k detail c (makeFaulted k detail c s)).cell c = { s.cell c with
      service := .faulted
      offset := none
      dcDebounce := 0
      fault := some (freshFault k detail s.now)
      faultedClose := baseClose s c } := by
    change (makeFaulted k detail c s).cell c = _
    unfold makeFaulted
    exact cell_modCell_same s c _
  rw [queuedState, setFlag_cell_same, setFlag_cell_same, h]

theorem queuedRoute_ready {k : FaultClass} {detail : Byte} {c : CellRef} {s : State} (hk : k ≠ .bypassFail)
    (hs : s.seq.state = .ready) : queuedRoute k detail c s = openFault (queuedState k detail c s) := by
  have hstate : (queuedState k detail c s).seq.state = .ready := by rw [(queuedState_only k detail c s).seq]; exact hs
  unfold queuedRoute
  dsimp only
  rw [if_neg hk]
  change told c (queuedState k detail c s) = _
  rw [told, hstate]

theorem takeFault_active {k : FaultClass} {detail : Byte} {named : Bool} {c : CellRef} {s : State} (hk : k ≠ .bypassFail)
    (hs : s.seq.state = .ready) (hc : (s.cell c).service = .active) :
    takeFault k detail named c s = openFault (queuedState k (recordedDetail s.store.image k detail) c s) := by
  unfold takeFault
  rw [if_neg (by simp [hs])]
  simp only [hc, queuedRoute_ready hk hs]

/-- A fault of a working cell in READY opens a campaign, or takes the direct route of a RESERVE cell. -/
theorem takeFault_working {k : FaultClass} {detail : Byte} {named : Bool} {c : CellRef} {s : State} (hk : k ≠ .bypassFail)
    (hs : s.seq.state = .ready) (hc : (s.cell c).service.working = true) :
    takeFault k detail named c s = openFault (queuedState k (recordedDetail s.store.image k detail) c s)
      ∨ takeFault k detail named c s = directRoute k (recordedDetail s.store.image k detail) c s := by
  rcases Bool.or_eq_true_iff.1 hc with h | h
  · exact .inl (takeFault_active hk hs (of_decide_eq_true h))
  · by_cases hd : goesDirect k named (s.cell c) = true
    · exact .inr (takeFault_direct (by simp [hs]) (of_decide_eq_true h) hd)
    · refine .inl ?_
      unfold takeFault
      rw [if_neg (by simp [hs])]
      simp only [of_decide_eq_true h, if_neg hd, queuedRoute_ready hk hs]

/-! ### What the sequencer's entries leave of FAULTED cells -/

/-- A FAULTED cell stays one, with its fault record and its report, and without a debounce count where it had none. -/
abbrev StaysFaulted (x y : Cell) : Prop :=
  x.service = .faulted → y.service = .faulted ∧ y.offset = x.offset ∧ y.fault = x.fault ∧ y.report = x.report
    ∧ (x.dcDebounce = 0 → y.dcDebounce = 0)

/-- What the sequencer's entries leave of the FAULTED cells, and the fault queue. -/
structure LeavesFaulted (s t : State) : Prop where
  cell : ∀ c : CellRef, StaysFaulted (s.cell c) (t.cell c)
  queue : t.queue = s.queue

namespace LeavesFaulted

theorem of_cells {s t : State} (h : t.cells = s.cells) (hq : t.queue = s.queue) : LeavesFaulted s t :=
  ⟨fun c hf => by rw [cell_of_cells h]; exact ⟨hf, rfl, rfl, rfl, id⟩, hq⟩

theorem trans {s t u : State} (h : LeavesFaulted s t) (k : LeavesFaulted t u) : LeavesFaulted s u where
  cell c hf := by
    obtain ⟨hs, ho, hfault, hr, hd⟩ := h.cell c hf
    obtain ⟨ks, ko, kfault, kr, kd⟩ := k.cell c hs
    exact ⟨ks, ko.trans ho, kfault.trans hfault, kr.trans hr, kd ∘ hd⟩
  queue := k.queue.trans h.queue

theorem after {s t u : State} (k : LeavesFaulted t u) (h : LeavesFaulted s t) : LeavesFaulted s u := h.trans k

theorem dropStage (s : State) : LeavesFaulted s (dropStage s) :=
  ⟨fun c hf => by rw [dropStage_cell]; exact ⟨hf, rfl, rfl, rfl, id⟩, by simp⟩

theorem haltDevice (k : ModeCause) (s : State) : LeavesFaulted s (haltDevice k s) := by
  refine ⟨fun c hf => ?_, by simp [Machine.haltDevice]⟩
  have hretired {x : Cell} (h : x.service = .faulted) : retiredCell x = x := if_neg (by simp [h, Service.working])
  unfold Machine.haltDevice
  dsimp only
  rw [retireCells_cell, darkenLinks_cell, cell_of_cells (postMode_cells _ _), hretired]
  · exact ⟨hf, rfl, rfl, rfl, fun _ => rfl⟩
  · exact hf

theorem enterStopped (st : SeqState) (r : Option CampaignRecord) (s : State) : LeavesFaulted s (enterStopped st r s) := by
  unfold Machine.enterStopped
  split
  · exact (haltDevice _ _).after (.of_cells (by simp) (by simp))
  · exact .of_cells (by simp) (by simp)

theorem trip (k : TripCause) (s : State) : LeavesFaulted s (trip k s) := by
  by_cases h : s.seq.state = .off ∨ s.seq.state = .tripped ∨ s.seq.state = .locked
  · rw [trip_stopped k h]
    exact .of_cells rfl rfl
  · rw [trip_running k h]
    have hd : LeavesFaulted s (Machine.dropStage { s with seq.tripCause := some k }) :=
      (dropStage _).after (.of_cells rfl rfl)
    exact (enterStopped _ _ _).after ((of_cells (by simp) (by simp)).after hd)

theorem enterBlock (b : Bool) (s : State) : LeavesFaulted s (enterBlock b s) := by
  have hd : LeavesFaulted s (setSeq .block (Machine.dropStage s)) := (of_cells (by simp) (by simp)).after (dropStage s)
  obtain ⟨hqueue, _⟩ := blockStyle_keeps_queue b (setSeq .block (Machine.dropStage s))
  unfold Machine.enterBlock
  dsimp only
  split
  · exact (of_cells (by simp) (by simpa using hqueue)).after hd
  · exact (trip _ _).after ((of_cells (by simp) (by simp)).after hd)

end LeavesFaulted

/-! ### The opening of a FAULT campaign (R77, R82, R83) -/

/-- The device with a FAULT campaign charged and its record open, before the entry into BLOCK. -/
def chargedState (s : State) : State :=
  { dropCampaign { s with seq.attempts := s.seq.attempts ++ [s.now] } with
    seq.campaign := some (newCampaign .fault s)
    seq.lastNumber := numberAfter s.seq.lastNumber
    lock.holdMark := false }

theorem openFault_charged {s : State} (h : s.seq.attempts.length < cfgAttemptBudget s.store.image) :
    openFault s = enterBlock true (chargedState s) := if_pos h

theorem openFault_refused {s : State} (h : ¬s.seq.attempts.length < cfgAttemptBudget s.store.image) :
    openFault s = refuseCharge s := if_neg h

theorem openFault_leaves (s : State) : LeavesFaulted s (openFault s) := by
  by_cases h : s.seq.attempts.length < cfgAttemptBudget s.store.image
  · rw [openFault_charged h]
    exact (LeavesFaulted.enterBlock _ _).after (.of_cells rfl rfl)
  · rw [openFault_refused h]
    exact (LeavesFaulted.enterStopped _ _ _).after (.of_cells rfl rfl)

theorem enterStopped_state (st : SeqState) (r : Option CampaignRecord) (s : State) :
    (enterStopped st r s).seq.state = .off ∨ (enterStopped st r s).seq.state = st := by
  unfold enterStopped
  split
  · exact .inl (by simp [haltDevice])
  · exact .inr (by simp)

theorem trip_state (k : TripCause) (s : State) :
    (trip k s).seq.state = .off ∨ (trip k s).seq.state = .tripped ∨ (trip k s).seq.state = .locked := by
  by_cases h : s.seq.state = .off ∨ s.seq.state = .tripped ∨ s.seq.state = .locked
  · rw [trip_stopped k h]
    exact h
  · rw [trip_running k h]
    exact (enterStopped_state _ _ _).imp_right .inl

/-- Charged over unchanged settings, a FAULT campaign stands in BLOCK with the queue's cells for its set (R73, R86). -/
theorem openFault_block {s : State} (hb : s.seq.attempts.length < cfgAttemptBudget s.store.image)
    (hm : s.store.storedCrc = some (crc16 s.store.image)) : (openFault s).seq.state = .block
      ∧ (∃ w, (openFault s).seq.watch = some w ∧ w.starts = 0)
      ∧ ∃ k, (openFault s).seq.campaign = some k ∧ k.kind = .fault ∧ k.set = s.queue.map QueueEntry.cell := by
  obtain ⟨st, hentry, _⟩ := enterBlock_entry (s := chargedState s) true rfl hm
  rw [openFault_charged hb, hentry.seq]
  exact ⟨rfl, ⟨_, rfl, rfl⟩, _, rfl, rfl, rfl⟩

/-- Charged over changed settings, it trips SETTINGS_CORRUPT (R86). -/
theorem openFault_corrupt {s : State} (hb : s.seq.attempts.length < cfgAttemptBudget s.store.image)
    (hh : s.seq.heldHalt = false) (hm : s.store.storedCrc ≠ some (crc16 s.store.image)) :
    CorruptTrip s (openFault s) .fault 1 none (s.queue.map QueueEntry.cell) (numberAfter s.seq.lastNumber)
      s.gen.timebase := by
  have hgen := (keeps_openFault s).gen
  rw [openFault_charged hb, enterBlock_corrupt (s := chargedState s) true hm] at hgen ⊢
  generalize hw : postOpen (setSeq .block (dropStage (chargedState s))) = w at hgen ⊢
  have hseq : w.seq = { (chargedState s).seq with
      state := .block, scale := 0, campaign := some { newCampaign .fault s with issue := none }, watch := none
      rephase := none } := by
    rw [← hw, postOpen_seq, setSeq_seq, dropStage_seq]
    rfl
  have hstore : w.store = s.store := by rw [← hw]; simp [chargedState]
  have hplans : w.plans = s.plans := by rw [← hw]; simp [chargedState]
  have he := trip_entry (cause := .settingsCorrupt) (k := { newCampaign .fault s with issue := none }) (s := w)
    (by rw [hseq]) (by rw [hseq]; exact hh) (by rw [hseq]; simp)
  obtain ⟨timer, met, hl⟩ := he.lock
  have hhist : historyWith w (closedWith w { newCampaign .fault s with issue := none } (.tripped .settingsCorrupt))
      = historyWith s {
        number := numberAfter s.seq.lastNumber, kind := .fault, style := none, iteration := 1
        set := (s.queue.map QueueEntry.cell).map (numberOf s.store.image), opened := s.gen.timebase, state := .block
        pendingTag := none, issue := none, outcome := some (.tripped .settingsCorrupt) } := by
    simp only [closedWith, openRecord, historyWith, hseq, hstore]
    rfl
  refine ⟨?_, ?_, ?_, ?_, ?_, ?_, by rw [he.plans, hplans], ?_, ?_, ?_, ?_, ?_, ?_, ?_, he.store.trans hstore, hgen⟩
  iterate 4 rw [he.seq]
  · rw [he.seq]
    exact hhist
  · rw [he.seq]
  iterate 7 rw [hl]

/-- After its opening the sequencer's reading of the same response touches the watch at most. -/
theorem openFault_readsWatch (s : State) : ReadsWatchAlone (openFault s) := by
  have hstop (h : (openFault s).seq.state = .off ∨ (openFault s).seq.state = .tripped ∨ (openFault s).seq.state = .locked) :
      ReadsWatchAlone (openFault s) := by
    rcases h with h | h | h <;> exact ⟨by simp [h], fun hb => by rw [h] at hb; cases hb⟩
  by_cases hb : s.seq.attempts.length < cfgAttemptBudget s.store.image
  · by_cases hm : s.store.storedCrc = some (crc16 s.store.image)
    · obtain ⟨hstate, ⟨w, hw, h0⟩, _⟩ := openFault_block hb hm
      exact ⟨by simp [hstate], fun _ w' hw' => by rw [hw] at hw'; cases hw'; exact h0⟩
    · refine hstop ?_
      rw [openFault_charged hb, enterBlock_corrupt (s := chargedState s) true hm]
      exact trip_state _ _
  · refine hstop ?_
    rw [openFault_refused hb]
    exact (enterStopped_state .locked _ _).imp_right .inr

/-! ### A response outside the DC window (R35) -/

/-- The device with a response outside the window taken whose debounce count has reached the setting, before the fault
intake. -/
def outsideState (c : CellRef) (r : Response) (s : State) : State :=
  (heardState c r s).modCell c fun x => { x with dcDebounce := 0 }

theorem outsideState_only (c : CellRef) (r : Response) (s : State) : OnRecord c s (outsideState c r s) :=
  (OnRecord.modCell c _ _).after (heardState_only c r s)

theorem outsideState_cell (c : CellRef) (r : Response) (s : State) : (outsideState c r s).cell c
    = { lowerMiss { s.cell c with report := some (reportOf r s.gen.timebase), reportAge := 0 } with dcDebounce := 0 } := by
  rw [outsideState, cell_modCell_same, heardState_cell]

section

variable {c : CellRef} {x : Cell} {dc : Nat} {s : State} (hl : x.link = .enrolled) (hw : x.service.working = true)
  (hd : insideWindow s.store.image dc = false)

include hl hw hd

theorem dcCheck_counts (h : x.dcDebounce + 1 < cfgDcDebounce s.store.image)
    (hc : (s.cell c).link = .enrolled ∧ (s.cell c).service.working = true) :
    dcCheck c x dc s = s.modCell c fun y => { y with dcDebounce := x.dcDebounce + 1 } := by
  unfold dcCheck
  rw [if_pos ⟨hl, hw⟩, if_neg (by simp [hd]), if_neg (by omega)]
  simp only [State.modCell, if_pos hc]

theorem dcCheck_faults (h : cfgDcDebounce s.store.image ≤ x.dcDebounce + 1) :
    dcCheck c x dc s = faultNow .dcWindow 0 c (s.modCell c fun y => { y with dcDebounce := 0 }) := by
  unfold dcCheck
  rw [if_pos ⟨hl, hw⟩, if_neg (by simp [hd]), if_pos h]

end

/-- The device with a cell FAULTED by its DC window, before the sequencer is told. -/
def windowState (c : CellRef) (r : Response) (s : State) : State := queuedState .dcWindow 0 c (outsideState c r s)

theorem windowState_cell (c : CellRef) (r : Response) (s : State) : ((windowState c r s).cell c).service = .faulted
    ∧ ((windowState c r s).cell c).offset = none ∧ ((windowState c r s).cell c).dcDebounce = 0
    ∧ ((windowState c r s).cell c).fault = some (freshFault .dcWindow 0 s.gen.timebase)
    ∧ ((windowState c r s).cell c).report = some (reportOf r s.gen.timebase) := by
  rw [windowState, queuedState_cell, outsideState_cell, (outsideState_only c r s).now]
  exact ⟨rfl, rfl, rfl, rfl, rfl⟩

theorem windowState_keeps (c : CellRef) (r : Response) (s : State) : (windowState c r s).seq = s.seq
    ∧ (windowState c r s).store = s.store ∧ (windowState c r s).plans = s.plans ∧ (windowState c r s).gen = s.gen
    ∧ (windowState c r s).queue = s.queue ++ [entryNow .dcWindow 0 c s] := by
  have ho := outsideState_only c r s
  have hq := queuedState_only .dcWindow 0 c (outsideState c r s)
  refine ⟨hq.seq.trans ho.seq, hq.store.trans ho.store, hq.plans.trans ho.plans, hq.gen.trans ho.gen, hq.queue.trans ?_⟩
  rw [ho.queue, entryNow, ho.gen]

/-- The FAULTED cell and its queue entry as the campaign's opening leaves them. -/
theorem openFault_window (c : CellRef) (r : Response) (s : State) :
    ((openFault (windowState c r s)).cell c).service = .faulted
      ∧ ((openFault (windowState c r s)).cell c).offset = none ∧ ((openFault (windowState c r s)).cell c).dcDebounce = 0
      ∧ ((openFault (windowState c r s)).cell c).fault = some (freshFault .dcWindow 0 s.gen.timebase)
      ∧ ((openFault (windowState c r s)).cell c).report = some (reportOf r s.gen.timebase)
      ∧ (openFault (windowState c r s)).queue = s.queue ++ [entryNow .dcWindow 0 c s] := by
  obtain ⟨hs, ho, hd, hf, hr⟩ := windowState_cell c r s
  obtain ⟨_, _, _, _, hq⟩ := windowState_keeps c r s
  have hleaves := openFault_leaves (windowState c r s)
  obtain ⟨ks, ko, kf, kr, kd⟩ := hleaves.cell c hs
  exact ⟨ks, ko.trans ho, kd hd, kf.trans hf, kr.trans hr, hleaves.queue.trans hq⟩

section

variable {c : CellRef} {seen : SlotSeen} {r : Response} {s : State}

/-- DC_WINDOW of a working cell in READY: a FAULT campaign, or the direct route of a RESERVE cell. -/
theorem faultNow_window (hs : s.seq.state = .ready) (hw : (s.cell c).service.working = true) :
    faultNow .dcWindow 0 c (outsideState c r s) = openFault (windowState c r s)
      ∨ faultNow .dcWindow 0 c (outsideState c r s) = directRoute .dcWindow 0 c (outsideState c r s) := by
  have ho := outsideState_only c r s
  exact takeFault_working (by simp) (by rw [ho.seq]; exact hs) (by rw [outsideState_cell]; exact hw)

theorem faultNow_window_active (hs : s.seq.state = .ready) (hw : (s.cell c).service = .active) :
    faultNow .dcWindow 0 c (outsideState c r s) = openFault (windowState c r s) := by
  have ho := outsideState_only c r s
  exact takeFault_active (by simp) (by rw [ho.seq]; exact hs) (by rw [outsideState_cell]; exact hw)

variable (ha : Answers c seen r s) (hl : (s.cell c).link = .enrolled) (hw : (s.cell c).service.working = true)
  (h0 : r.classCode = 0) (hm : r.message = .none) (hd : insideWindow s.store.image r.dc = false)

include ha hl hw h0 hm hd

/-- Below the debounce setting the count rises, and the sequencer stays in READY. -/
theorem slotStep_counts (hs : s.seq.state = .ready) (h : (s.cell c).dcDebounce + 1 < cfgDcDebounce s.store.image) :
    ∃ w, slotStep c seen s = withWatch w ((heardState c r s).modCell c fun y => { y with
      dcDebounce := (s.cell c).dcDebounce + 1 }) := by
  rw [slotStep_valid ha]
  refine takeValid_watch ha.2.1 ?_ (readsWatchAlone_ready hs)
  rw [linkedState_enrolled hl, hm, takeChunk_none, takeReported_clean h0]
  exact dcCheck_counts (s := heardState c r s) hl hw hd h (by rw [heardState_cell]; exact ⟨hl, hw⟩)

/-- At the setting DC_WINDOW goes to the fault intake; the sequencer then reads the response, which touches the watch at
most. -/
theorem slotStep_window {v : State} (h : cfgDcDebounce s.store.image ≤ (s.cell c).dcDebounce + 1)
    (hv : faultNow .dcWindow 0 c (outsideState c r s) = v) (hr : ReadsWatchAlone v) :
    (∃ w, slotStep c seen s = withWatch w v) ∧ (v.seq.watch = none → slotStep c seen s = v) := by
  have e : dcCheck c (s.cell c) r.dc (takeReported c r (linkedState c r s)) = v := by
    rw [linkedState_enrolled hl, hm, takeChunk_none, takeReported_clean h0, ← hv]
    exact dcCheck_faults (s := heardState c r s) hl hw hd h
  rw [slotStep_valid ha]
  refine ⟨takeValid_watch ha.2.1 e hr, fun hn => ?_⟩
  rw [takeValid_eq ha.2.1, e, confirmBypass_elsewhere c _ r hr.1]
  exact blockCheck_unwatched r hn

/-- Whatever follows from it, a response outside the window is the cell's last good report. -/
theorem slotStep_outside_report (hs : s.seq.state = .ready) :
    ((slotStep c seen s).cell c).report = some (reportOf r s.gen.timebase) := by
  by_cases h : (s.cell c).dcDebounce + 1 < cfgDcDebounce s.store.image
  · obtain ⟨w, e⟩ := slotStep_counts ha hl hw h0 hm hd hs h
    rw [e, withWatch_cell, cell_modCell_same, heardState_cell]
    rfl
  · rcases faultNow_window (r := r) hs hw with hv | hv
    · obtain ⟨⟨w, e⟩, _⟩ := slotStep_window ha hl hw h0 hm hd (by omega) hv (openFault_readsWatch _)
      obtain ⟨_, _, _, _, hreport, _⟩ := openFault_window c r s
      rw [e, withWatch_cell]
      exact hreport
    · have hdirect := (OnRecord.directRoute .dcWindow 0 c _).after (outsideState_only c r s)
      obtain ⟨⟨w, e⟩, _⟩ := slotStep_window ha hl hw h0 hm hd (by omega) hv
        (readsWatchAlone_ready (by rw [hdirect.seq]; exact hs))
      rw [e, withWatch_cell, directRoute_cell_same, outsideState_cell]
      rfl

end

/-- The campaign of a DC_WINDOW fault over unchanged settings, told from the device before the fault. -/
theorem openFault_window_block {c : CellRef} {r : Response} {s : State}
    (hb : s.seq.attempts.length < cfgAttemptBudget s.store.image) (hm : s.store.storedCrc = some (crc16 s.store.image)) :
    (openFault (windowState c r s)).seq.state = .block ∧ ∃ k, (openFault (windowState c r s)).seq.campaign = some k
      ∧ k.kind = .fault ∧ k.set = s.queue.map QueueEntry.cell ++ [c] := by
  obtain ⟨hseq, hstore, _, _, hqueue⟩ := windowState_keeps c r s
  obtain ⟨hstate, _, k, hk, hkind, hset⟩ := openFault_block (s := windowState c r s) (by rw [hseq, hstore]; exact hb)
    (by rw [hstore]; exact hm)
  exact ⟨hstate, k, hk, hkind, by rw [hset, hqueue, List.map_append]; rfl⟩

/-- The trip of a campaign that finds the settings changed, told from the device before the fault. -/
theorem openFault_window_corrupt {c : CellRef} {r : Response} {s : State}
    (hb : s.seq.attempts.length < cfgAttemptBudget s.store.image) (hh : s.seq.heldHalt = false)
    (hm : s.store.storedCrc ≠ some (crc16 s.store.image)) :
    CorruptTrip s (openFault (windowState c r s)) .fault 1 none (s.queue.map QueueEntry.cell ++ [c])
      (numberAfter s.seq.lastNumber) s.gen.timebase := by
  obtain ⟨hseq, hstore, hplans, hgen, hqueue⟩ := windowState_keeps c r s
  have h := openFault_corrupt (s := windowState c r s) (by rw [hseq, hstore]; exact hb) (by rw [hseq]; exact hh)
    (by rw [hstore]; exact hm)
  simpa only [CorruptTrip, historyWith, hseq, hstore, hplans, hgen, hqueue, List.map_append, List.map_cons,
    List.map_nil] using h

end Sys2Proof.Machine

open Sys2Proof Sys2Proof.Machine

/-- Settles O48: each clause by the equation of the slot that it speaks of. -/
theorem slotOutcomesMoveTheMissCount : Obligations.SlotOutcomesMoveTheMissCount := by
  refine ⟨fun c seen s => ⟨fun he => ?_, fun he hh hw hl => ⟨fun hj hn => ?_, fun r hj h0 hm hs hi hd => ?_⟩⟩,
    fun seen => ⟨fun hb => judgeSlot_silent hb, fun g hg => ?_⟩, fun bytes => ⟨fun h => ?_, fun hlen hcrc => ?_⟩,
    ⟨rfl, fun l b => crc8_append l b⟩, fun c seen s hq he hh hw hl hj n hn h => ?_,
    fun c seen r s hq ha hs hl hwork h0 hm hd => ?_, fun c seen s hq he hh hw hi hl => ⟨fun hj => ?_, fun r hj h0 => ?_⟩⟩
  · exact congrArg (fun t => Host.Outcome.next (settle t)) (slotStep_unexpected he)
  · have e : slotStep c seen s = s.modCell c fun x => { x with
        reportAge := min 255 (x.reportAge + 1), missCount := x.missCount + 6 } := by
      rw [slotStep_miss he hj, takeMiss_lit hh,
        linkMiss_raises (n := (s.cell c).missCount + 6) (by rw [missedState_cell]; exact hl) (by rw [missedState_cell])
          (by omega), warnMiss_low hn, missedState, modCell_modCell]
      exact blockCheck_none hw
    exact congrArg (fun t => Host.Outcome.next (settle t)) e
  · have e := slotStep_clean ⟨he, hh, hj⟩ hw hl h0 hm hs hi hd
    rw [heardState, modCell_modCell] at e
    refine congrArg (fun t => Host.Outcome.next (settle t)) (e.trans (congrArg (s.setCell c) ?_))
    simp [lowerMiss, reportOf, h0, State.now]
  · rw [judgeSlot_signal hg]
    refine ⟨fun h => if_pos h, fun h ho => ?_, fun h ho hlate => ⟨fun r hr => ?_, fun hr => ?_⟩⟩
    · rw [if_neg (by simp [h]), if_pos (by simpa using ho)]
    · rw [if_neg (by simp [h]), if_neg (by simp [ho, hlate]), hr, Option.elim_some]
    · rw [if_neg (by simp [h]), if_neg (by simp [ho, hlate]), hr, Option.elim_none]
  · by_cases hlen : bytes.length = 16
    · exact (readResponse_fields hlen).1 (h.resolve_left fun hne => hne hlen)
    · exact readResponse_length hlen
  · exact (readResponse_fields hlen).2 hcrc
  · obtain ⟨e, ho⟩ := slotStep_raises he hh hj hw hl hn h
    refine ⟨_, exec_slotEnd hq c seen, ?_, ho.others, ho.seq, ho.lock, ho.plans, ho.store, ho.rings, ho.gen, ho.queue,
      ho.pending⟩
    rw [e, warnMiss_cell_same, cell_modCell_same, missedState_cell, markedState_cell]
  · refine ⟨_, exec_slotEnd hq c seen, slotStep_outside_report ha hl hwork h0 hm hd hs, fun h => ?_, fun h hactive => ?_⟩
    · obtain ⟨w, e⟩ := slotStep_counts ha hl hwork h0 hm hd hs h
      rw [e, withWatch_cell, withWatch_queue, withWatch_state, cell_modCell_same, heardState_cell]
      exact ⟨rfl, rfl, rfl, rfl, hs⟩
    · obtain ⟨⟨w, e⟩, hexact⟩ := slotStep_window ha hl hwork h0 hm hd h (faultNow_window_active hs hactive)
        (openFault_readsWatch _)
      obtain ⟨hservice, hoffset, hdebounce, hfault, _, hqueue⟩ := openFault_window c r s
      have hcell := e ▸ withWatch_cell w (openFault (windowState c r s)) c
      refine ⟨?_, ?_, ?_, ?_, ?_, fun hb hcrc => ?_, fun hb hh hcrc => ?_⟩
      · rw [hcell, hdebounce]
      · rw [hcell, hservice]
      · rw [hcell, hoffset]
      · rw [hcell, hfault]
        rfl
      · rw [e, withWatch_queue, hqueue]
      · rw [e, withWatch_state, withWatch_campaign]
        exact openFault_window_block hb hcrc
      · have htrip := openFault_window_corrupt (c := c) (r := r) hb hh hcrc
        obtain ⟨_, _, _, _, _, hnone, _⟩ := id htrip
        rw [hexact hnone]
        exact htrip
  · have hm : ((missedState c (markedState c seen s)).cell c).link = .severed := by
      rw [missedState_cell, markedState_cell]
      exact hl
    have ho : OnRecord c s ((missedState c (markedState c seen s)).modCell c fun x => { x with goodRun := 0 }) :=
      (OnRecord.modCell c _ _).after ((OnRecord.modCell c _ _).after (markedState_only c seen s))
    have e := slotStep_missed he hh hj (linkMiss_severed hm) (by rw [ho.seq]; exact hw)
    refine ⟨_, exec_slotEnd hq c seen, ?_⟩
    rw [e, cell_modCell_same, missedState_cell, markedState_cell]
    exact ⟨hl, rfl, rfl, ho.seq⟩
  · obtain ⟨e, hcell⟩ := slotStep_severed ⟨he, hh, hj⟩ hw hi hl h0
    have hu := reportedState_cell c r s
    obtain ⟨_, hreport, _⟩ := relinkStep_only c (reportedState c r s)
    refine ⟨_, exec_slotEnd hq c seen, ?_⟩
    rw [e, hcell, relinkStep_service, hreport, hu]
    refine ⟨(linkedState_only c r s).seq, rfl, rfl, fun h => ?_, fun h hheld => ?_, fun h hauto => ?_⟩
    · rw [relinkStep_rises (by rw [hu]; exact h), cell_modCell_same, hu]
      exact ⟨hl, rfl, rfl⟩
    · rw [relinkStep_held (s := reportedState c r s) (by rw [hu]; exact h) hheld, setFlag_cell_same, cell_modCell_same, hu]
      exact ⟨hl, rfl, rfl⟩
    · rw [relinkStep_auto (s := reportedState c r s) (by rw [hu]; exact h) hauto, enterLink_cell_same]
      exact ⟨rfl, rfl, rfl, rfl⟩

end


section
/-! PROOFS. The miss count as the mark of a SEVERED link, and the links that RELINK and REENROL return to DARK. -/

namespace Sys2Proof.Machine

open Sys2Proof

/-! ### The miss count -/

/-- A record's miss count is at most 240, and 240 exactly while its link is SEVERED (R54, R58). -/
abbrev MissCountMarksLink (x : Cell) : Prop := x.missCount ≤ 240 ∧ (x.missCount = 240 ↔ x.link = .severed)

/-- While a link is not SEVERED, the rule bounds the miss count below 240 and says nothing else. -/
theorem missCountMarksLink_unsevered {x : Cell} (h : x.link ≠ .severed) : MissCountMarksLink x ↔ x.missCount < 240 := by
  simp only [MissCountMarksLink, h, iff_false]
  omega

theorem missCountMarksLink_invariant : CellInvariant MissCountMarksLink where
  frame h _ _ hl hm := by simpa only [MissCountMarksLink, hl, hm] using h
  park _ h := h
  activate _ h := h
  link l _ _ _ hl hm := by
    by_cases e : l = .severed <;> simp [MissCountMarksLink, hl, hm, e]
  lower hl h := by
    have hlow := (missCountMarksLink_unsevered (by simp [hl])).1 h
    exact (missCountMarksLink_unsevered (by simp [hl])).2 (Nat.lt_of_le_of_lt (Nat.sub_le _ _) hlow)
  raise hl hn _ := (missCountMarksLink_unsevered (by simp [hl])).2 hn
  fresh _ := (missCountMarksLink_unsevered (by simp [Cell.empty])).2 (by simp [Cell.empty])

/-! ### DARK again -/

/-- An entry from a link state other than ENROLLED is the write of Table 3-2's items alone: no exchange ends with it. -/
theorem enterLink_outside (l : LinkState) (a : Option Ability) (k : Option RejectCause) {c : CellRef} {s : State}
    (h : (s.cell c).link ≠ .enrolled) : enterLink l a k c s = s.modCell c (linkItems l a k s.now) :=
  if_neg fun e => h e.1

/-- DARK after SEVERED: a blind wait becomes a bypass timer from that moment (R90). -/
theorem linkItems_dark_severed {x : Cell} (now : Stamp) (h : x.link = .severed) :
    linkItems .dark none none now x = { x with
      link := .dark, missCount := 0, goodRun := 0, degradedArmed := true, suspect := false, severStamp := none,
      rejectCause := none, heldAbility := none, isolation := x.isolation.map fun _ => .bypass now } := by
  have hacross : isolationAcross .severed .dark now = fun _ => .bypass now := by funext i; simp [isolationAcross]
  simp [linkItems, h, hacross]

/-- DARK after a link state that is neither ENROLLED nor SEVERED: the isolation timer runs on. -/
theorem linkItems_dark_unlinked {x : Cell} (now : Stamp) (he : x.link ≠ .enrolled) (hs : x.link ≠ .severed) :
    linkItems .dark none none now x = { x with
      link := .dark, missCount := 0, goodRun := 0, degradedArmed := true, suspect := false, severStamp := none,
      rejectCause := none, heldAbility := none } := by
  have hacross : isolationAcross x.link .dark now = id := by funext i; simp [isolationAcross, hs]
  simp [linkItems, he, hacross]

/-- RELINK of a relink-ready link (R60). -/
theorem serveRelink_ready {number : Byte} {c : CellRef} {s : State} (tag : Byte) (hn : s.named number = some c)
    (hl : (s.cell c).link = .severed) (hr : 48 ≤ (s.cell c).goodRun) :
    serveRelink tag number s = pushReply 0x11 tag .ok [] (s.modCell c (linkItems .dark none none s.now)) := by
  have hready : ¬((s.cell c).link ≠ .severed ∨ (s.cell c).goodRun < 48) := by simp [hl, hr]
  have hout : (s.cell c).link ≠ .enrolled := by simp [hl]
  simp only [serveRelink, hn, if_neg hready, enterLink_outside .dark none none hout]

/-- REENROL of a link that gave up (R53). -/
theorem serveReenrol_ready {number : Byte} {c : CellRef} {s : State} (tag : Byte) (hn : s.named number = some c)
    (hl : (s.cell c).link = .rejected ∨ (s.cell c).link = .unsteady) :
    serveReenrol tag number s = pushReply 0x12 tag .ok []
      (s.modCell c fun x => linkItems .dark none none s.now { x with unsteadyCount := 0 }) := by
  have hready : ¬((s.cell c).link ≠ .rejected ∧ (s.cell c).link ≠ .unsteady) := by
    rcases hl with h | h <;> simp [h]
  have hout : ((s.modCell c fun x => { x with unsteadyCount := 0 }).cell c).link ≠ .enrolled := by
    rw [cell_modCell_same]
    rcases hl with h | h <;> simp [h]
  simp only [serveReenrol, hn, if_neg hready, enterLink_outside .dark none none hout, modCell_modCell]
  rfl

end Sys2Proof.Machine

open Sys2Proof Sys2Proof.Machine

/-- Settles O59: the miss count's rule is a property of one record that every kind of change of a record keeps. -/
theorem stepKeepsMissCountMarkingSevered : Obligations.StepKeepsMissCountMarkingSevered := by
  unfold Obligations.StepKeepsMissCountMarkingSevered
  intro s t h e
  exact missCountMarksLink_invariant.step h e

/-- Settles O25: each request's check of the link state, and its entry into DARK. -/
theorem relinkAndReenrolReinvite : Obligations.RelinkAndReenrolReinvite := by
  unfold Obligations.RelinkAndReenrolReinvite
  intro tag number c s hs hmode hn
  have hrelink : takenIn (.relink number) s.store.mode = true := by simp [takenIn, hmode]
  have hreenrol : takenIn (.reenrol number) s.store.mode = true := by simp [takenIn, hmode]
  refine ⟨fun hw => exec_replied rfl hs hrelink ?_, fun hl hr => exec_served rfl hs hrelink ?_ hs.1,
    fun hw => exec_replied rfl hs hreenrol ?_, fun hl => exec_served rfl hs hreenrol ?_ hs.1⟩
  · simp only [serve, serveRelink, hn, if_pos hw]
  · exact (serveRelink_ready tag hn hl hr).trans
      (congrArg (fun x => pushReply 0x11 tag .ok [] (s.setCell c x)) (linkItems_dark_severed s.now hl))
  · simp only [serve, serveReenrol, hn, if_pos hw]
  · have he : (s.cell c).link ≠ .enrolled := by rcases hl with h | h <;> simp [h]
    have hsev : (s.cell c).link ≠ .severed := by rcases hl with h | h <;> simp [h]
    exact (serveReenrol_ready tag hn hl).trans (congrArg (fun x => pushReply 0x12 tag .ok [] (s.setCell c x))
      (linkItems_dark_unlinked (x := { s.cell c with unsteadyCount := 0 }) s.now he hsev))

end


section
/-! PROOFS. The entry into ISOLATE, and on to PLAN where no cell of the set is FAULTED (R88, R91): what it writes and what it
leaves of the cells' records. -/

namespace Sys2Proof.Machine

open Sys2Proof

/-! ### The records that a stage's end leaves -/

/-- An operation that leaves every cell's fault record and last good report, and the fault queue. -/
structure LeavesRecords (s t : State) : Prop where
  fault : ∀ d : CellRef, (t.cell d).fault = (s.cell d).fault
  report : ∀ d : CellRef, (t.cell d).report = (s.cell d).report
  queue : t.queue = s.queue

namespace LeavesRecords

theorem of_cells {s t : State} (h : t.cells = s.cells) (hq : t.queue = s.queue) : LeavesRecords s t :=
  ⟨fun d => by rw [cell_of_cells h], fun d => by rw [cell_of_cells h], hq⟩

theorem trans {s t u : State} (h : LeavesRecords s t) (k : LeavesRecords t u) : LeavesRecords s u :=
  ⟨fun d => (k.fault d).trans (h.fault d), fun d => (k.report d).trans (h.report d), k.queue.trans h.queue⟩

theorem after {s t u : State} (k : LeavesRecords t u) (h : LeavesRecords s t) : LeavesRecords s u := h.trans k

theorem dropStage (s : State) : LeavesRecords s (dropStage s) :=
  ⟨fun d => by rw [dropStage_cell], fun d => by rw [dropStage_cell], by simp⟩

theorem haltDevice (k : ModeCause) (s : State) : LeavesRecords s (haltDevice k s) := by
  have hretired (x : Cell) : (retiredCell x).fault = x.fault ∧ (retiredCell x).report = x.report := by
    unfold retiredCell
    split <;> exact ⟨rfl, rfl⟩
  have hcell (d : CellRef) : ((Machine.haltDevice k s).cell d).fault = (s.cell d).fault
      ∧ ((Machine.haltDevice k s).cell d).report = (s.cell d).report := by
    unfold Machine.haltDevice
    dsimp only
    rw [retireCells_cell, (hretired _).1, (hretired _).2, darkenLinks_cell, cell_of_cells (postMode_cells _ _)]
    exact ⟨rfl, rfl⟩
  exact ⟨fun d => (hcell d).1, fun d => (hcell d).2, by simp [Machine.haltDevice]⟩

theorem enterStopped (st : SeqState) (r : Option CampaignRecord) (s : State) : LeavesRecords s (enterStopped st r s) := by
  unfold Machine.enterStopped
  split
  · exact (haltDevice _ _).after (.of_cells (by simp) (by simp))
  · exact .of_cells (by simp) (by simp)

theorem trip (k : TripCause) (s : State) : LeavesRecords s (trip k s) := by
  by_cases h : s.seq.state = .off ∨ s.seq.state = .tripped ∨ s.seq.state = .locked
  · rw [trip_stopped k h]
    exact .of_cells rfl rfl
  · rw [trip_running k h]
    have hd : LeavesRecords s (Machine.dropStage { s with seq.tripCause := some k }) :=
      (dropStage _).after (.of_cells rfl rfl)
    exact (enterStopped _ _ _).after ((of_cells (by simp) (by simp)).after hd)

theorem enterPlan (s : State) : LeavesRecords s (enterPlan s) := by
  have hd : LeavesRecords s (setSeq .plan (Machine.dropStage s)) := (of_cells (by simp) (by simp)).after (dropStage s)
  unfold Machine.enterPlan
  dsimp only
  split
  · exact (trip _ _).after ((of_cells (by simp) (by simp)).after hd)
  · exact (of_cells (by simp) (by simp)).after hd

end LeavesRecords

/-! ### A cell's isolation begins (R88) -/

/-- The record of a cell whose isolation begins. -/
def isolatedCell (now : Stamp) (x : Cell) : Cell :=
  { x with
    faultedClose := true
    isolation := some (if x.link = .severed then .blind now else .bypass now) }

theorem beginIsolation_eq (s : State) (c : CellRef) : beginIsolation s c = s.modCell c (isolatedCell s.now) := rfl

theorem foldl_beginIsolation_eq (l : List CellRef) (s : State) :
    ∃ cells, l.foldl beginIsolation s = { s with cells := cells } := by
  induction l generalizing s with
  | nil => exact ⟨s.cells, rfl⟩
  | cons c l ih => exact ih (beginIsolation s c)

/-- Of the cells of a list, repeated or not, each has its isolation begun. -/
theorem foldl_beginIsolation_cell (l : List CellRef) (s : State) (d : CellRef) :
    (l.foldl beginIsolation s).cell d = if d ∈ l then isolatedCell s.now (s.cell d) else s.cell d := by
  induction l generalizing s with
  | nil => rfl
  | cons c l ih =>
    rw [List.foldl_cons, ih, beginIsolation_eq, show (s.modCell c (isolatedCell s.now)).now = s.now from rfl]
    by_cases h : d = c
    · subst h
      rw [cell_modCell_same, if_pos (List.mem_cons_self ..)]
      split <;> rfl
    · rw [cell_modCell_ne _ _ _ _ h]
      simp [h]

/-! ### The entry into ISOLATE -/

/-- ISOLATE as it is entered, before a cell's isolation begins. -/
def isolateState (s : State) : State := postOpen (setSeq .isolate (dropStage s))

theorem isolateState_cell (s : State) (d : CellRef) : (isolateState s).cell d = { s.cell d with isolation := none } := by
  rw [isolateState, cell_of_cells (postOpen_cells _), cell_of_cells (setSeq_cells _ _), dropStage_cell]

theorem isolateState_seq {s : State} {k : Campaign} (hk : s.seq.campaign = some k) :
    (isolateState s).seq = { s.seq with
      state := .isolate, scale := 0, campaign := some { k with issue := none }, watch := none, rephase := none } := by
  rw [isolateState, postOpen_seq, setSeq_seq, dropStage_seq, hk]
  rfl

theorem isolateState_leaves (s : State) : LeavesRecords s (isolateState s) :=
  ⟨fun d => by rw [isolateState_cell], fun d => by rw [isolateState_cell], by simp [isolateState]⟩

theorem mem_faultedInSet_isolateState {s : State} {k : Campaign} (hk : s.seq.campaign = some k) {d : CellRef} :
    d ∈ faultedInSet (isolateState s) ↔ d ∈ k.set ∧ (s.cell d).service = .faulted := by
  rw [mem_faultedInSet (k := { k with issue := none }) (by rw [isolateState_seq hk]), isolateState_cell]

/-- What an entry into ISOLATE writes where a cell of the set is FAULTED (R76, R88). -/
structure IsolateEntry (k : Campaign) (s t : State) : Prop where
  seq : t.seq = { s.seq with
    state := .isolate, scale := 0, campaign := some { k with issue := none }, watch := none, rephase := none }
  lock : t.lock = { s.lock with resumeTimer := none, rampCount := 0 }
  cell : ∀ d : CellRef, t.cell d
    = if d ∈ k.set ∧ (s.cell d).service = .faulted then isolatedCell s.now (s.cell d)
      else { s.cell d with isolation := none }
  plans : t.plans = s.plans
  queue : t.queue = s.queue
  store : t.store = s.store

/-- The two items of R88 apart, each record is as it was. -/
theorem IsolateEntry.cell_keeps {k : Campaign} {s t : State} (h : IsolateEntry k s t) (d : CellRef) :
    (t.cell d).service = (s.cell d).service ∧ (t.cell d).offset = (s.cell d).offset ∧ (t.cell d).fault = (s.cell d).fault
      ∧ (t.cell d).report = (s.cell d).report := by
  rw [h.cell]
  split <;> exact ⟨rfl, rfl, rfl, rfl⟩

theorem enterIsolate_entry {s : State} {k : Campaign} (hk : s.seq.campaign = some k)
    (hf : ∃ d ∈ k.set, (s.cell d).service = .faulted) : IsolateEntry k s (enterIsolate s) := by
  obtain ⟨d, hd⟩ := hf
  have hne : faultedInSet (isolateState s) ≠ [] := List.ne_nil_of_mem ((mem_faultedInSet_isolateState hk).2 hd)
  have e : enterIsolate s = (faultedInSet (isolateState s)).foldl beginIsolation (isolateState s) := if_neg hne
  obtain ⟨cells, hcells⟩ := foldl_beginIsolation_eq (faultedInSet (isolateState s)) (isolateState s)
  have hcell (x : CellRef) : (enterIsolate s).cell x
      = if x ∈ k.set ∧ (s.cell x).service = .faulted then isolatedCell s.now (s.cell x)
        else { s.cell x with isolation := none } := by
    have hnow : (isolateState s).now = s.now := by simp [isolateState, State.now]
    rw [e, foldl_beginIsolation_cell, isolateState_cell, hnow]
    simp only [mem_faultedInSet_isolateState hk]
    rfl
  rw [hcells] at e
  refine ⟨?_, ?_, hcell, ?_, ?_, ?_⟩ <;> rw [e]
  · exact isolateState_seq hk
  · simp [isolateState, dropStage_lock]
  · simp [isolateState]
  · simp [isolateState]
  · simp [isolateState]

/-- With no cell of the set FAULTED, ISOLATE is left at once (R91). -/
theorem enterIsolate_passes {s : State} {k : Campaign} (hk : s.seq.campaign = some k)
    (hf : ∀ d ∈ k.set, (s.cell d).service ≠ .faulted) : enterIsolate s = enterPlan (isolateState s) := by
  have hnil : faultedInSet (isolateState s) = [] := by
    refine List.eq_nil_iff_forall_not_mem.2 fun d hd => ?_
    obtain ⟨hmem, hfaulted⟩ := (mem_faultedInSet_isolateState hk).1 hd
    exact hf d hmem hfaulted
  exact if_pos hnil

/-- The entry into PLAN that follows, with no HALT held (R92). -/
theorem enterIsolate_plans {s : State} {k : Campaign} (hk : s.seq.campaign = some k)
    (hf : ∀ d ∈ k.set, (s.cell d).service ≠ .faulted) (hh : s.seq.heldHalt = false) :
    PlansOrTrips s (enterIsolate s) k ∧ ∀ d : CellRef, ((enterIsolate s).cell d).service = (s.cell d).service := by
  have hseq := isolateState_seq hk
  have hp := enterPlan_entry (s := isolateState s) (k := { k with issue := none }) (by rw [hseq]) (by rw [hseq]; exact hh)
  rw [enterIsolate_passes hk hf]
  refine ⟨?_, fun d => by rw [hp.cell, isolateState_cell]⟩
  have hplans := hp.plans
  unfold PlansOrTrips at hplans ⊢
  rwa [hseq] at hplans

theorem enterIsolate_leaves {s : State} {k : Campaign} (hk : s.seq.campaign = some k) : LeavesRecords s (enterIsolate s) := by
  by_cases hf : ∃ d ∈ k.set, (s.cell d).service = .faulted
  · have hi := enterIsolate_entry hk hf
    exact ⟨fun d => (hi.cell_keeps d).2.2.1, fun d => (hi.cell_keeps d).2.2.2, hi.queue⟩
  · rw [enterIsolate_passes hk fun d hd hfaulted => hf ⟨d, hd, hfaulted⟩]
    exact (LeavesRecords.enterPlan _).after (isolateState_leaves s)

/-- Every cell keeps its service state, but where no plan is found while a HALT is held (R98, R100). -/
theorem enterIsolate_service {s : State} {k : Campaign} (hk : s.seq.campaign = some k)
    (h : s.seq.heldHalt = false ∨ ∃ d ∈ k.set, (s.cell d).service = .faulted) (d : CellRef) :
    ((enterIsolate s).cell d).service = (s.cell d).service := by
  by_cases hf : ∃ d ∈ k.set, (s.cell d).service = .faulted
  · exact ((enterIsolate_entry hk hf).cell_keeps d).1
  · exact (enterIsolate_plans hk (fun d hd hfaulted => hf ⟨d, hd, hfaulted⟩) (h.resolve_right hf)).2 d

end Sys2Proof.Machine
end


section
/-! PROOFS. The gate-off watch of BLOCK: its end by the count of cycle starts, the responses that empty it, and the obligation
about it. -/

namespace Sys2Proof.Machine

open Sys2Proof

/-! ### The silent cells faulted by NO_GATE_OFF (R66, R87) -/

theorem joinSet_seq {s : State} {k : Campaign} (hk : s.seq.campaign = some k) (c : CellRef) :
    (joinSet c s).seq
      = { s.seq with campaign := some { k with set := if c ∈ k.set then k.set else k.set ++ [c] } } := by
  simp only [joinSet, modCampaign, hk, Option.map_some]
  split <;> rfl

theorem joinSet_keeps (c : CellRef) (s : State) : (joinSet c s).cells = s.cells ∧ (joinSet c s).queue = s.queue
    ∧ (joinSet c s).lock = s.lock ∧ (joinSet c s).plans = s.plans ∧ (joinSet c s).store = s.store
    ∧ (joinSet c s).gen = s.gen := ⟨rfl, rfl, rfl, rfl, rfl, rfl⟩

theorem faultNow_noGateOff_active {c : CellRef} {s : State} (hs : s.seq.state = .block) (hc : (s.cell c).service = .active) :
    faultNow .noGateOff 0 c s = joinSet c (queuedState .noGateOff 0 c s) := by
  have hstate : (queuedState .noGateOff 0 c s).seq.state = .block := by
    rw [(queuedState_only .noGateOff 0 c s).seq]
    exact hs
  have hdetail : recordedDetail s.store.image .noGateOff 0 = 0 := rfl
  unfold faultNow takeFault
  rw [if_neg (by simp [hs])]
  simp only [hc, hdetail]
  change told c (queuedState .noGateOff 0 c s) = _
  rw [told, hstate]

/-- The class already held, NO_GATE_OFF is absorbed (R69). -/
theorem faultNow_noGateOff_held {c : CellRef} {s : State} (hs : s.seq.state = .block) (hc : (s.cell c).service = .faulted)
    (hf : (s.cell c).fault = some (freshFault .noGateOff 0 s.now)) : faultNow .noGateOff 0 c s = s := by
  unfold faultNow
  rw [takeFault_further (by simp [hs]) (by simp) (by simp [hc])]
  exact furtherFault_absorbed hf (.inl rfl)

/-- In BLOCK the cells of a list have been FAULTED by NO_GATE_OFF, and nothing else. -/
structure SilentFaulted (k : Campaign) (l : List CellRef) (s t : State) : Prop where
  seq : ∃ set, t.seq = { s.seq with campaign := some { k with set := set } } ∧ ∀ c ∈ l, c ∈ set
  silent : ∀ c ∈ l, (t.cell c).service = .faulted ∧ (t.cell c).offset = none
    ∧ (t.cell c).fault = some (freshFault .noGateOff 0 s.now)
    ∧ ∃ e ∈ t.queue, e.cell = c ∧ e.first = .noGateOff
  others : ∀ d : CellRef, d ∉ l → t.cell d = s.cell d
  lock : t.lock = s.lock
  plans : t.plans = s.plans
  store : t.store = s.store
  gen : t.gen = s.gen

section

variable {k : Campaign} {l : List CellRef} {c : CellRef} {s t : State} (hs : s.seq.state = .block)
  (h : SilentFaulted k l s t)

include h

theorem SilentFaulted.now : t.now = s.now := by rw [State.now, h.gen, State.now]

include hs

theorem SilentFaulted.block : t.seq.state = .block := by
  obtain ⟨set, hseq, _⟩ := h.seq
  rw [hseq]
  exact hs

/-- A cell that the list names once more has been FAULTED already. -/
theorem SilentFaulted.again (hmem : c ∈ l) : SilentFaulted k (l ++ [c]) s (faultNow .noGateOff 0 c t) := by
  obtain ⟨set, hseq, hset⟩ := h.seq
  obtain ⟨hservice, _, hfault, _⟩ := h.silent c hmem
  have hl (d : CellRef) : d ∈ l ++ [c] ↔ d ∈ l := by
    simp only [List.mem_append, List.mem_singleton, or_iff_left_iff_imp]
    rintro rfl
    exact hmem
  rw [faultNow_noGateOff_held (h.block hs) hservice (by rw [h.now]; exact hfault)]
  exact ⟨⟨set, hseq, fun d hd => hset d ((hl d).1 hd)⟩, fun d hd => h.silent d ((hl d).1 hd),
    fun d hd => h.others d (mt (hl d).2 hd), h.lock, h.plans, h.store, h.gen⟩

/-- The next ACTIVE cell is FAULTED, with its queue entry, and joins the set. -/
theorem SilentFaulted.next (hmem : c ∉ l) (hc : (s.cell c).service = .active) :
    SilentFaulted k (l ++ [c]) s (faultNow .noGateOff 0 c t) := by
  obtain ⟨set, hseq, hset⟩ := h.seq
  have hq := queuedState_only .noGateOff 0 c t
  obtain ⟨jcells, jqueue, jlock, jplans, jstore, jgen⟩ := joinSet_keeps c (queuedState .noGateOff 0 c t)
  have hqueue : (joinSet c (queuedState .noGateOff 0 c t)).queue = t.queue ++ [entryNow .noGateOff 0 c t] :=
    jqueue.trans hq.queue
  have hjoin : (joinSet c (queuedState .noGateOff 0 c t)).seq
      = { s.seq with campaign := some { k with set := if c ∈ set then set else set ++ [c] } } := by
    rw [joinSet_seq (k := { k with set := set }) (by rw [hq.seq, hseq]), hq.seq, hseq]
  rw [faultNow_noGateOff_active (h.block hs) (by rw [h.others c hmem]; exact hc)]
  refine ⟨⟨_, hjoin, fun d hd => ?_⟩, fun d hd => ?_, fun d hd => ?_, jlock.trans (hq.lock.trans h.lock),
    jplans.trans (hq.plans.trans h.plans), jstore.trans (hq.store.trans h.store), jgen.trans (hq.gen.trans h.gen)⟩
  · have hjoined : d ∈ set ∨ d = c := (List.mem_append.1 hd).imp (hset d) List.mem_singleton.1
    split
    · next hcset => exact hjoined.elim id fun e => e ▸ hcset
    · simpa using hjoined
  · rw [cell_of_cells jcells, hqueue]
    by_cases hdc : d = c
    · subst hdc
      rw [queuedState_cell, h.now]
      exact ⟨rfl, rfl, rfl, entryNow .noGateOff 0 d t, by simp, rfl, rfl⟩
    · obtain ⟨hservice, hoffset, hfault, e, he, hecell⟩ := h.silent d (by simpa [hdc] using hd)
      rw [hq.others d hdc]
      exact ⟨hservice, hoffset, hfault, e, List.mem_append_left _ he, hecell⟩
  · obtain ⟨hdl, hdc⟩ : d ∉ l ∧ d ≠ c := by simpa using hd
    exact (cell_of_cells jcells d).trans ((hq.others d hdc).trans (h.others d hdl))

end

/-- The cells of a list, ACTIVE in BLOCK and perhaps named more than once, FAULTED one after another. -/
theorem foldl_faultNow_silent {k : Campaign} {s : State} (hs : s.seq.state = .block) (hk : s.seq.campaign = some k)
    (l : List CellRef) (hl : ∀ c ∈ l, (s.cell c).service = .active) :
    SilentFaulted k l s (l.foldl (fun s c => faultNow .noGateOff 0 c s) s) := by
  induction l using List.reverseRecOn with
  | nil =>
    have hseq : s.seq = { s.seq with campaign := some { k with set := k.set } } := by rw [← hk]
    exact ⟨⟨k.set, hseq, by simp⟩, by simp, fun _ _ => rfl, rfl, rfl, rfl, rfl⟩
  | append_singleton l c ih =>
    have hdone := ih fun d hd => hl d (by simp [hd])
    rw [List.foldl_append]
    by_cases hmem : c ∈ l
    · exact hdone.again hs hmem
    · exact hdone.next hs hmem (hl c (by simp))

/-! ### The end of the watch by its count -/

theorem enrolWindowHolds_iff {s : State} {k : Campaign} (hk : s.seq.campaign = some k) :
    enrolWindowHolds s = true ↔ k.kind = .start ∧ k.iteration = 1 ∧ s.seq.enrolRun = false := by
  simp [enrolWindowHolds, hk, and_assoc]

/-- What the watch's end by its count writes: the cells of the list are FAULTED and in the set, in ISOLATE. -/
structure WatchTimeout (k : Campaign) (l : List CellRef) (s t : State) : Prop where
  seq : ∃ set, t.seq = { s.seq with
      state := .isolate, scale := 0, campaign := some { k with set := set, issue := none }, watch := none, rephase := none }
    ∧ ∀ c ∈ l, c ∈ set
  silent : ∀ c ∈ l, (t.cell c).service = .faulted ∧ (t.cell c).offset = none
    ∧ (t.cell c).fault = some (freshFault .noGateOff 0 s.now)
    ∧ ∃ e ∈ t.queue, e.cell = c ∧ e.first = .noGateOff
  others : ∀ d : CellRef, d ∉ l → (t.cell d).service = (s.cell d).service ∧ (t.cell d).fault = (s.cell d).fault
  lock : t.lock = { s.lock with resumeTimer := none, rampCount := 0 }
  plans : t.plans = s.plans
  store : t.store = s.store

/-- Once the silent cells are FAULTED, ISOLATE is entered with them. -/
theorem SilentFaulted.isolate {k : Campaign} {l : List CellRef} {s u : State} (hne : l ≠ []) (hu : SilentFaulted k l s u) :
    WatchTimeout k l s (enterIsolate u) := by
  obtain ⟨set, hseq, hset⟩ := hu.seq
  obtain ⟨c, hmem⟩ := List.exists_mem_of_ne_nil l hne
  have hi := enterIsolate_entry (k := { k with set := set }) (by rw [hseq]) ⟨c, hset c hmem, (hu.silent c hmem).1⟩
  refine ⟨⟨set, by rw [hi.seq, hseq], hset⟩, fun d hd => ?_, fun d hd => ?_, by rw [hi.lock, hu.lock],
    hi.plans.trans hu.plans, hi.store.trans hu.store⟩
  all_goals obtain ⟨hservice, hoffset, hfault, _⟩ := hi.cell_keeps d
  · rw [hservice, hoffset, hfault, hi.queue]
    exact hu.silent d hd
  · rw [hservice, hfault, hu.others d hd]
    exact ⟨rfl, rfl⟩

/-- The cycle start past the block confirm setting (R87). -/
theorem watchCycle_ends {s : State} {k : Campaign} {w : Watch} (hs : s.seq.state = .block) (hk : s.seq.campaign = some k)
    (hkind : k.kind ≠ .start) (hw : s.seq.watch = some w) (hne : w.cells ≠ [])
    (hn : cfgBlockConfirm s.store.image < w.starts + 1) (hl : ∀ c ∈ w.cells, (s.cell c).service = .active) :
    WatchTimeout k w.cells s (watchCycle s) := by
  have hu := foldl_faultNow_silent (s := withWatch (some ⟨[], w.starts + 1⟩) s) hs hk w.cells hl
  have e : watchCycle s = blockCheck (w.cells.foldl (fun s c => faultNow .noGateOff 0 c s)
      (withWatch (some ⟨[], w.starts + 1⟩) s)) := by
    simp only [watchCycle, hw]
    exact if_pos ⟨hne, hn⟩
  rw [e]
  generalize w.cells.foldl (fun s c => faultNow .noGateOff 0 c s) (withWatch (some ⟨[], w.starts + 1⟩) s) = u at hu
  obtain ⟨set, hseq, _⟩ := hu.seq
  have hwatch : u.seq.watch = some ⟨[], w.starts + 1⟩ := by rw [hseq]; rfl
  have hholds : enrolWindowHolds u = false := by
    refine Bool.eq_false_iff.2 fun h => hkind ?_
    exact ((enrolWindowHolds_iff (k := { k with set := set }) (by rw [hseq])).1 h).1
  rw [blockCheck_ends hwatch (by rw [hseq]; exact hs) (by simp) (by simp) hholds]
  dsimp only
  rw [← hwatch]
  obtain ⟨hset, hsilent, hothers, hlock, hplans, hstore⟩ := hu.isolate hne
  exact ⟨hset, hsilent, hothers, hlock, hplans, hstore⟩

/-- GATE_OFF_WATCH_TIMEOUT is the cycle start that ends the watch (R27). -/
theorem exec_gateOffWatchTimeout {s : State} {w : Watch} (hs : s.seq.state = .block) (hw : s.seq.watch = some w)
    (hne : w.cells ≠ []) (hn : cfgBlockConfirm s.store.image < w.starts + 1) :
    exec .gateOffWatchTimeout s = exec (.cycleStart none) s :=
  congrArg stepTo (if_pos (by simp [watchTimesOut, hw, hs, hne, hn]))

theorem seqCycle_block {s : State} (hs : s.seq.state = .block) : seqCycle s = watchCycle s := by
  rw [seqCycle, hs]

/-! ### A response while the watch runs (R87) -/

/-- The watch after a response of a cell. -/
def gateOffWatch (c : CellRef) (r : Response) (w : Watch) : Watch :=
  if 1 ≤ w.starts ∧ r.gate = 0 then { w with cells := w.cells.filter (· ≠ c) } else w

theorem confirmGateOff_some {c : CellRef} {r : Response} {s : State} {w : Watch} (hw : s.seq.watch = some w) :
    confirmGateOff c r s = withWatch (some (gateOffWatch c r w)) s := by
  simp only [confirmGateOff, hw, gateOffWatch]
  split
  · rfl
  · rw [← hw]
    rfl

theorem gateOffWatch_starts (c : CellRef) (r : Response) (w : Watch) : (gateOffWatch c r w).starts = w.starts := by
  unfold gateOffWatch
  split <;> rfl

theorem gateOffWatch_off {c : CellRef} {r : Response} {w : Watch} (h1 : 1 ≤ w.starts) (hg : r.gate = 0) :
    gateOffWatch c r w = { w with cells := w.cells.filter (· ≠ c) } := if_pos ⟨h1, hg⟩

theorem gateOffWatch_unread {c : CellRef} {r : Response} {w : Watch} (h : w.starts = 0 ∨ r.gate ≠ 0) :
    gateOffWatch c r w = w := if_neg fun ⟨h1, hg⟩ => h.elim (by omega) (· hg)

theorem mem_gateOffWatch {c d : CellRef} {r : Response} {w : Watch} (h : d ∈ (gateOffWatch c r w).cells) : d ∈ w.cells := by
  unfold gateOffWatch at h
  split at h
  · exact List.mem_of_mem_filter h
  · exact h

/-- Another cell of the watch stays in it. -/
theorem gateOffWatch_other {c d : CellRef} {r : Response} {w : Watch} (hd : d ∈ w.cells) (hdc : d ≠ c) :
    (gateOffWatch c r w).cells ≠ [] := by
  refine List.ne_nil_of_mem (a := d) ?_
  unfold gateOffWatch
  split
  · exact List.mem_filter.2 ⟨hd, by simpa using hdc⟩
  · exact hd

/-- The device with a clean response of a linked working cell taken, before BLOCK looks at its watch. A response inside the DC
window leaves the record that `outsideState` names: the debounce count is 0 again (R35). -/
def answeredState (c : CellRef) (r : Response) (w : Watch) (s : State) : State :=
  withWatch (some (gateOffWatch c r w)) (outsideState c r s)

section

variable (c : CellRef) (r : Response) (w : Watch) (s : State)

theorem answeredState_seq :
    (answeredState c r w s).seq = { s.seq with watch := some (gateOffWatch c r w) } := by
  rw [answeredState, withWatch, (outsideState_only c r s).seq]

theorem answeredState_queue : (answeredState c r w s).queue = s.queue := (outsideState_only c r s).queue

theorem answeredState_report : ((answeredState c r w s).cell c).report = some (reportOf r s.gen.timebase) := by
  rw [answeredState, withWatch_cell, outsideState_cell]
  rfl

theorem answeredState_cell (d : CellRef) :
    ((answeredState c r w s).cell d).service = (s.cell d).service
      ∧ ((answeredState c r w s).cell d).link = (s.cell d).link
      ∧ ((answeredState c r w s).cell d).fault = (s.cell d).fault := by
  rw [answeredState, withWatch_cell]
  by_cases h : d = c
  · subst h
    rw [outsideState_cell]
    exact ⟨rfl, rfl, rfl⟩
  · rw [(outsideState_only c r s).others d h]
    exact ⟨rfl, rfl, rfl⟩

end

section

variable {c : CellRef} {seen : SlotSeen} {r : Response} {s : State} {k : Campaign} {w : Watch} (ha : Answers c seen r s)
  (hs : s.seq.state = .block) (hk : s.seq.campaign = some k) (hw : s.seq.watch = some w) (h0 : r.classCode = 0)
  (hm : r.message = .none) (hl : (s.cell c).link = .enrolled) (hc : (s.cell c).service = .active)
  (hd : insideWindow s.store.image r.dc = true)
  (hwatch : ∀ d ∈ w.cells, (s.cell d).service = .active ∧ (s.cell d).link ≠ .severed)

include ha hs hw h0 hm hl hc hd

theorem slotStep_answered : slotStep c seen s = blockCheck (answeredState c r w s) := by
  have ho := outsideState_only c r s
  have hdc : dcCheck c (s.cell c) r.dc (heardState c r s) = outsideState c r s :=
    dcCheck_inside hl (by rw [hc]; rfl) hd
  rw [slotStep_valid ha, takeValid_linked hl ha.2.1 hm, takeReported_clean h0, hdc,
    confirmBypass_elsewhere c _ r (by rw [ho.seq, hs]; simp), confirmGateOff_some (by rw [ho.seq]; exact hw)]
  rfl

include hk hwatch

/-- The response does not end BLOCK: cells are left in the watch, no cycle start has followed the entry, or the enrol window
holds. -/
theorem slotStep_watches (h : (gateOffWatch c r w).cells ≠ [] ∨ w.starts = 0
    ∨ (k.kind = .start ∧ k.iteration = 1 ∧ s.seq.enrolRun = false)) : slotStep c seen s = answeredState c r w s := by
  have hseq := answeredState_seq c r w s
  rw [slotStep_answered ha hs hw h0 hm hl hc hd]
  refine blockCheck_waits (by rw [hseq]) (fun d hmem => ?_) ?_
  · obtain ⟨hservice, hlink, _⟩ := answeredState_cell c r w s d
    rw [hservice, hlink]
    exact hwatch d (mem_gateOffWatch hmem)
  · rw [gateOffWatch_starts, enrolWindowHolds_iff (k := k) (by rw [hseq]; exact hk), hseq]
    exact h

omit hwatch in
/-- The response takes the last cell out of the watch, and nothing holds BLOCK. -/
theorem slotStep_ends_watch (hnil : (gateOffWatch c r w).cells = []) (h1 : 1 ≤ w.starts)
    (he : ¬(k.kind = .start ∧ k.iteration = 1 ∧ s.seq.enrolRun = false)) :
    slotStep c seen s = enterIsolate (answeredState c r w s) := by
  have hseq := answeredState_seq c r w s
  have hwa : (answeredState c r w s).seq.watch = some (gateOffWatch c r w) := by rw [hseq]
  have hholds : enrolWindowHolds (answeredState c r w s) = false := by
    refine Bool.eq_false_iff.2 fun h => he ?_
    rwa [enrolWindowHolds_iff (k := k) (by rw [hseq]; exact hk), hseq] at h
  have hsame : ({ gateOffWatch c r w with cells := [] } : Watch) = gateOffWatch c r w := by rw [← hnil]
  rw [slotStep_answered ha hs hw h0 hm hl hc hd,
    blockCheck_ends hwa (by rw [hseq]; exact hs) (by rw [gateOffWatch_starts]; exact h1) (by simp [hnil]) hholds, hsame, ← hwa]

/-- The response does the one or the other. -/
theorem slotStep_watch_cases : slotStep c seen s = answeredState c r w s
    ∨ ((gateOffWatch c r w).cells = [] ∧ 1 ≤ w.starts ∧ ¬(k.kind = .start ∧ k.iteration = 1 ∧ s.seq.enrolRun = false)
      ∧ slotStep c seen s = enterIsolate (answeredState c r w s)) := by
  by_cases h : (gateOffWatch c r w).cells ≠ [] ∨ w.starts = 0
      ∨ (k.kind = .start ∧ k.iteration = 1 ∧ s.seq.enrolRun = false)
  · exact .inl (slotStep_watches ha hs hk hw h0 hm hl hc hd hwatch h)
  · simp only [not_or, not_not] at h
    obtain ⟨hnil, h1, he⟩ := h
    have h1 : 1 ≤ w.starts := by omega
    exact .inr ⟨hnil, h1, he, slotStep_ends_watch ha hs hk hw h0 hm hl hc hd hnil h1 he⟩

omit hwatch in
/-- A response of the last cell watched that shows gate OFF. -/
theorem slotStep_last_gateOff (h1 : 1 ≤ w.starts) (hg : r.gate = 0) (hlast : ∀ x ∈ w.cells, x = c)
    (he : k.kind ≠ .start ∨ k.iteration ≠ 1 ∨ s.seq.enrolRun = true) :
    slotStep c seen s = enterIsolate (answeredState c r w s) := by
  refine slotStep_ends_watch ha hs hk hw h0 hm hl hc hd ?_ h1 (by simpa only [not_and_or, Bool.not_eq_false] using he)
  rw [gateOffWatch_off h1 hg]
  exact List.filter_eq_nil_iff.2 fun x hx => by simp [hlast x hx]

/-- Fault records, reports and the fault queue stay, whether BLOCK ends or not. -/
theorem slotStep_watch_leaves : LeavesRecords (answeredState c r w s) (slotStep c seen s) := by
  rcases slotStep_watch_cases ha hs hk hw h0 hm hl hc hd hwatch with e | ⟨_, _, _, e⟩ <;> rw [e]
  · exact .of_cells rfl rfl
  · exact enterIsolate_leaves (by rw [answeredState_seq]; exact hk)

/-- Every cell keeps its service state, but where BLOCK ends with no FAULTED cell in the set while a HALT is held (R100). -/
theorem slotStep_watch_service (h : s.seq.heldHalt = false ∨ w.starts = 0 ∨ (w.cells ≠ [] ∧ r.gate ≠ 0)
    ∨ (∃ x ∈ w.cells, x ≠ c) ∨ (k.kind = .start ∧ k.iteration = 1 ∧ s.seq.enrolRun = false)
    ∨ ∃ x ∈ k.set, (s.cell x).service = .faulted) (d : CellRef) :
    ((slotStep c seen s).cell d).service = (s.cell d).service := by
  have hseq := answeredState_seq c r w s
  have hcell (x : CellRef) := (answeredState_cell c r w s x).1
  rcases slotStep_watch_cases ha hs hk hw h0 hm hl hc hd hwatch with e | ⟨hnil, h1, hends, e⟩
  · rw [e, hcell]
  · have hstays : (answeredState c r w s).seq.heldHalt = false
        ∨ ∃ x ∈ k.set, ((answeredState c r w s).cell x).service = .faulted := by
      rcases h with hh | hstart | ⟨hne, hg⟩ | ⟨x, hx, hxc⟩ | hwindow | ⟨x, hx, hf⟩
      · exact .inl (by rw [hseq]; exact hh)
      · omega
      · rw [gateOffWatch_unread (.inr hg)] at hnil
        exact absurd hnil hne
      · exact absurd hnil (gateOffWatch_other hx hxc)
      · exact absurd hwindow hends
      · exact .inr ⟨x, hx, (hcell x).trans hf⟩
    rw [e, enterIsolate_service (by rw [hseq]; exact hk) hstays, hcell]

end

end Sys2Proof.Machine

open Sys2Proof Sys2Proof.Machine

/-- Settles O45: the cycle start that ends the watch faults the silent cells in turn and enters ISOLATE; a response leaves BLOCK
with what `gateOffWatch` leaves of the watch, or enters ISOLATE where that is empty. -/
theorem gateOffWatchFaultsTheSilent : Obligations.GateOffWatchFaultsTheSilent := by
  refine ⟨fun s k w hq hs hk hkind hw hne hn hactive => ?_,
    fun s k w c seen r hq hs hk hw ha h0 hm hl hc hd hwatch => ?_⟩
  · have hr := roundState_round none s
    have hkeep := keeps_seqCycle (roundState none s)
    have hround : (roundState none s).seq.state = .block := by rw [hr.seq]; exact hs
    have hend := watchCycle_ends hround (by rw [hr.seq]; exact hk) hkind (by rw [hr.seq]; exact hw) hne
      (by rw [hr.image]; exact hn) fun c hmem => (hr.service c).1.trans (hactive c hmem)
    rw [← seqCycle_block hround] at hend
    obtain ⟨frames, mail, ht, _⟩ := sendFrames_eq (!atEpoch (roundState none s)) (seqCycle (roundState none s))
    refine ⟨_, (exec_gateOffWatchTimeout hs hw hne hn).trans (exec_cycleStart hq none), ?_⟩
    rw [cycleStep_eq, ht]
    generalize seqCycle (roundState none s) = v at hend hkeep
    obtain ⟨set, hseq, hset⟩ := hend.seq
    rw [hr.seq] at hseq
    have hlock := hend.lock
    rw [hr.lock] at hlock
    have hnow : (roundState none s).now = s.gen.timebase := by rw [State.now, hr.gen]
    dsimp only
    rw [hkeep.gen, hr.gen, hseq, hend.plans, hr.plans, hlock, hend.store, hr.image, hr.mode, hkeep.pending, hr.pending]
    refine ⟨rfl, rfl, rfl, fun c hmem => ?_, fun d hout => ?_,
      rfl, rfl, rfl, rfl, rfl, rfl, rfl, rfl, rfl, rfl, rfl, rfl, rfl, rfl⟩
    · obtain ⟨hservice, hoffset, hfault, hentry⟩ := hend.silent c hmem
      exact ⟨hservice, hoffset, ⟨_, hfault, rfl, rfl, rfl, hnow⟩, hentry, _, rfl, rfl, hset c hmem⟩
    · obtain ⟨hservice, hfault⟩ := hend.others d hout
      exact ⟨hservice.trans (hr.service d).1, hfault.trans (hr.service d).2⟩
  · have hseq := answeredState_seq c r w s
    have hcell := answeredState_cell c r w s
    have hka : (answeredState c r w s).seq.campaign = some k := by rw [hseq]; exact hk
    have hwait := slotStep_watches ha hs hk hw h0 hm hl hc hd hwatch
    have hlast := slotStep_last_gateOff ha hs hk hw h0 hm hl hc hd
    have hleaves := slotStep_watch_leaves ha hs hk hw h0 hm hl hc hd hwatch
    refine ⟨_, exec_slotEnd hq c seen, (hleaves.report c).trans (answeredState_report c r w s),
      hleaves.queue.trans (answeredState_queue c r w s), fun d => (hleaves.fault d).trans (hcell d).2.2,
      slotStep_watch_service ha hs hk hw h0 hm hl hc hd hwatch, fun hne hg => ?_, fun h1 hg h => ?_,
      fun h1 hg hcells he hh => ⟨fun hf => ?_, fun hf => ?_⟩⟩
    · have hsame := gateOffWatch_unread (c := c) hg
      rw [hwait (.inl (by rw [hsame]; exact hne)), hseq, hsame, ← hw]
    · rw [hwait (h.imp (fun ⟨x, hx, hxc⟩ => gateOffWatch_other hx hxc) .inr), hseq, gateOffWatch_off h1 hg]
    · have hi := enterIsolate_entry hka (by simpa only [(hcell _).1] using hf)
      rw [hlast h1 hg hcells he]
      refine ⟨by rw [hi.seq], by rw [hi.seq], by rw [hi.seq], fun d hmem hfaulted => ?_⟩
      rw [hi.cell, if_pos ⟨hmem, (hcell d).1.trans hfaulted⟩, isolatedCell, (hcell d).2.1]
      exact ⟨rfl, rfl⟩
    · have hp := (enterIsolate_plans hka (fun d hmem => (hcell d).1 ▸ hf d hmem) (by rw [hseq]; exact hh)).1
      rw [hlast h1 hg hcells he]
      unfold PlansOrTrips at hp ⊢
      rwa [hseq] at hp

end

section
/-! PROOFS. The bounded lists and the items that the device mode fixes. `Orderly s t` says that an operation from `s` to `t`
keeps the lists within their bounds, sends no reply but those already owed to exchanges in flight, and keeps the agreement of
the mode with the sequencer's state and the settings store. The walk over the operations is made once here, and the two
invariants follow from it. -/

namespace Sys2Proof.Machine

open Sys2Proof

/-- The number of mailboxes that are not EMPTY. -/
def inFlight (mail : Rings (Option Exchange)) : Nat := mail.a.isSome.toNat + mail.b.isSome.toNat + mail.c.isSome.toNat

theorem openMailboxes_eq (s : State) : openMailboxes s = inFlight s.rings.mail := by
  unfold openMailboxes inFlight
  cases s.rings.mail.a <;> cases s.rings.mail.b <;> cases s.rings.mail.c <;> rfl

theorem inFlight_le (mail : Rings (Option Exchange)) : inFlight mail ≤ 3 := by
  have h (b : Bool) : b.toNat ≤ 1 := Bool.toNat_le b
  unfold inFlight
  linarith [h mail.a.isSome, h mail.b.isSome, h mail.c.isSome]

/-- What a mailbox holds counts once. -/
theorem inFlight_set (mail : Rings (Option Exchange)) (p : Phase) (x : Option Exchange) :
    inFlight (mail.set p x) + (mail.get p).isSome.toNat = inFlight mail + x.isSome.toNat := by
  cases p <;> simp only [inFlight, Rings.set, Rings.get] <;> omega

/-- The replies that wait, with those still owed to exchanges in flight (R158, R159). -/
def repliesOwed (s : State) : Nat := s.link.replies.length + inFlight s.rings.mail

/-- The lists stay within their bounds (R78, R156, R166), and at most `n` replies become owed. -/
structure WithinBounds (n : Nat) (s t : State) : Prop where
  buffer : t.link.buffer.length ≤ max 4 s.link.buffer.length
  owed : repliesOwed t ≤ repliesOwed s + n
  urgent : t.notices.urgent.length ≤ max 8 s.notices.urgent.length
  history : t.seq.history.length ≤ max 8 s.seq.history.length

/-- The lists stay within their bounds, at most `n` replies become owed, and the mode's agreement is kept. -/
structure OrderlyBy (n : Nat) (s t : State) : Prop extends WithinBounds n s t where
  mode : ModeAgrees s → ModeAgrees t

/-- An operation that brings no reply of its own: those it sends were owed to exchanges in flight. -/
abbrev Orderly (s t : State) : Prop := OrderlyBy 0 s t

/-- A state in which the mode's agreement gives SERVICE: a campaign may move on, or open. -/
abbrev Live (s : State) : Prop := s.seq.state ≠ .off ∨ s.store.mode = .service

/-- What the mode's agreement says of a live state. -/
theorem Live.service {s : State} (hl : Live s) (h : ModeAgrees s) :
    s.store.mode = .service ∧ s.store.frozen = true ∧ s.store.storedCrc.isSome = true := by
  obtain ⟨hoff, hfrozen, hcrc⟩ := h
  have hm : s.store.mode = .service := by
    by_contra hne
    exact hl.elim (fun hs => hs (hoff hne)) hne
  have hf : s.store.frozen = true := hfrozen.2 (by simp [hm])
  exact ⟨hm, hf, hcrc.2 hf⟩

theorem live_of_state {s : State} {st : SeqState} (h : s.seq.state = st) (hst : st ≠ .off) : Live s := .inl (h ▸ hst)

namespace WithinBounds

variable {n : Nat} {s t u : State}

theorem trans (h : WithinBounds 0 s t) (k : WithinBounds n t u) : WithinBounds n s u := by
  obtain ⟨hb, ho, hu, hh⟩ := h
  obtain ⟨kb, ko, ku, kh⟩ := k
  exact ⟨by omega, by omega, by omega, by omega⟩

theorem after (k : WithinBounds n t u) (h : WithinBounds 0 s t) : WithinBounds n s u := h.trans k

theorem of_eq (hl : t.link = s.link) (hm : t.rings.mail = s.rings.mail) (hu : t.notices.urgent = s.notices.urgent)
    (hq : t.seq.history = s.seq.history) : WithinBounds 0 s t := by
  have ho : repliesOwed t = repliesOwed s := by simp only [repliesOwed, hl, hm]
  exact ⟨by rw [hl]; omega, by rw [ho]; omega, by rw [hu]; omega, by rw [hq]; omega⟩

end WithinBounds

namespace OrderlyBy

variable {n : Nat} {s t u : State}

theorem refl (s : State) : Orderly s s := ⟨.of_eq rfl rfl rfl rfl, id⟩

theorem trans (h : Orderly s t) (k : OrderlyBy n t u) : OrderlyBy n s u :=
  ⟨h.toWithinBounds.trans k.toWithinBounds, k.mode ∘ h.mode⟩

theorem after (k : OrderlyBy n t u) (h : Orderly s t) : OrderlyBy n s u := h.trans k

/-- The lists within their bounds, with the sequencer's state and the mode's items as they were. -/
theorem of_bounds (h : WithinBounds n s t) (hs : t.seq.state = s.seq.state) (hm : t.store.mode = s.store.mode)
    (hf : t.store.frozen = s.store.frozen) (hc : t.store.storedCrc.isSome = s.store.storedCrc.isSome) : OrderlyBy n s t :=
  ⟨h, fun k => by unfold ModeAgrees; rw [hs, hm, hf, hc]; exact k⟩

/-- An operation that touches none of these items. -/
theorem of_eq (hl : t.link = s.link) (hm : t.rings.mail = s.rings.mail) (hu : t.notices.urgent = s.notices.urgent)
    (hq : t.seq.history = s.seq.history) (hs : t.seq.state = s.seq.state) (hst : t.store = s.store) : Orderly s t :=
  of_bounds (.of_eq hl hm hu hq) hs (by rw [hst]) (by rw [hst]) (by rw [hst])

/-- The sequencer's and the plan unit's other items. -/
theorem plans_seq (s : State) (u : PlanUnit) (q : Sequencer)
    (h : q.history = s.seq.history ∧ q.state = s.seq.state) : Orderly s { s with plans := u, seq := q } :=
  of_eq rfl rfl rfl h.1 h.2 rfl

theorem lock (s : State) (l : Interlock) : Orderly s { s with lock := l } := of_eq rfl rfl rfl rfl rfl rfl

theorem of_onRecord {c : CellRef} (h : OnRecord c s t) : Orderly s t :=
  of_eq h.link (by rw [h.rings]) (by simpa using h.posts.1) (by rw [h.seq]) (by rw [h.seq]) h.store

/-- From a live state the mode may stay SERVICE with any state of the sequencer. -/
theorem of_live (h : WithinBounds n s t) (hl : Live s) (hst : t.store = s.store) : OrderlyBy n s t := by
  refine ⟨h, fun k => ?_⟩
  obtain ⟨hm, hf, hc⟩ := hl.service k
  unfold ModeAgrees
  rw [hst, hm, hf, hc]
  simp

/-- From a live state HALT leads to OFF and STANDBY (R100). -/
theorem of_halt (h : WithinBounds n s t) (hl : Live s) (hs : t.seq.state = .off)
    (hst : t.store = { s.store with mode := .standby }) : OrderlyBy n s t := by
  refine ⟨h, fun k => ?_⟩
  obtain ⟨_, hf, hc⟩ := hl.service k
  unfold ModeAgrees
  rw [hst, hs]
  simp [hf, hc]

theorem foldl {α : Type} {f : State → α → State} (hf : ∀ s a, Orderly s (f s a)) (l : List α) (s : State) :
    Orderly s (l.foldl f s) :=
  List.foldlRecOn (motive := Orderly s) l f (refl s) fun _ h a _ => h.trans (hf _ a)

end OrderlyBy

/-! ### Notices, replies and exchanges -/

theorem bounds_postUrgent (n : Urgent) (s : State) : WithinBounds 0 s (postUrgent n s) := by
  unfold postUrgent
  split
  · exact ⟨by simp, by simp [repliesOwed], by simp; omega, by simp⟩
  · exact .of_eq rfl rfl rfl rfl

theorem orderly_postUrgent (n : Urgent) (s : State) : Orderly s (postUrgent n s) :=
  .of_bounds (bounds_postUrgent n s) (by simp) (by simp) (by simp) (by simp)

theorem orderly_postOpen (s : State) : Orderly s (postOpen s) := orderly_postUrgent _ s

/-- A reply of its own is one more reply. -/
theorem answers_pushReply (t tag : Byte) (code : ReplyCode) (body : List Byte) (s : State) :
    OrderlyBy 1 s (pushReply t tag code body s) := by
  refine .of_bounds ⟨by simp, ?_, by simp, by simp⟩ rfl rfl rfl rfl
  simp only [repliesOwed, pushReply_replies, pushReply_rings, List.length_append, List.length_singleton]
  omega

/-- An exchange in flight may change, and stays in flight. -/
theorem orderly_setMail {s : State} {p : Phase} {x : Exchange} (y : Exchange) (hx : s.rings.mail.get p = some x) :
    Orderly s { s with rings.mail := s.rings.mail.set p (some y) } := by
  have hm := inFlight_set s.rings.mail p (some y)
  rw [hx] at hm
  refine .of_bounds ⟨by simp, ?_, by simp, by simp⟩ rfl rfl rfl rfl
  simp only [repliesOwed]
  simp only [Option.isSome_some] at hm
  omega

/-- The reply of an exchange that ends was owed to it (R41, R42). -/
theorem orderly_endExchange (p : Phase) (k : ReplyCode) (s : State) : Orderly s (endExchange p k s) := by
  cases hx : s.rings.mail.get p with
  | none => unfold endExchange; rw [hx]; exact .refl s
  | some x =>
    have hm := inFlight_set s.rings.mail p none
    rw [hx] at hm
    rw [endExchange_some k hx]
    refine .of_bounds ⟨by simp, ?_, by simp, by simp⟩ rfl rfl rfl rfl
    simp only [repliesOwed, pushReply_replies, pushReply_rings, List.length_append, List.length_singleton]
    simp only [Option.isSome_some, Option.isSome_none, Bool.toNat_true, Bool.toNat_false] at hm
    omega

theorem orderly_abortExchanges (s : State) : Orderly s (abortExchanges s) :=
  .foldl (fun s p => orderly_endExchange p _ s) phases s

/-! ### Cells and links -/

theorem orderly_modCell (c : CellRef) (f : Cell → Cell) (s : State) : Orderly s (s.modCell c f) :=
  .of_onRecord (OnRecord.modCell c f s)

theorem orderly_setFlag (f : ReportFlag) (c : CellRef) (s : State) : Orderly s (setFlag f c s) :=
  .of_onRecord (OnRecord.setFlag f c s)

theorem orderly_setService (v : Service) (c : CellRef) (s : State) : Orderly s (setService v c s) :=
  .of_onRecord (OnRecord.setService v c s)

theorem orderly_enterLink (l : LinkState) (a : Option Ability) (k : Option RejectCause) (c : CellRef) (s : State) :
    Orderly s (enterLink l a k c s) := by
  have hm := orderly_modCell c (linkItems l a k s.now) s
  unfold enterLink endExchangeWith
  dsimp only
  split
  · split
    · split
      · exact hm.trans (orderly_endExchange _ _ _)
      · exact hm
    · exact hm
  · exact hm

theorem orderly_darkenLinks (s : State) : Orderly s (darkenLinks s) :=
  .of_eq (by simp) (by simp) (by simp) (by simp) (by simp) (by simp)

theorem orderly_retireCells (s : State) : Orderly s (retireCells s) := by
  refine .foldl (fun s c => ?_) allCells s
  unfold retireCell
  split
  · exact orderly_setService _ c s
  · exact .refl s

/-! ### The sequencer -/

theorem orderly_syncLines (b : Bool) (s : State) : Orderly s (syncLines b s) := by
  have hf : Orderly s (followDemand { s with lock.trip := s.lock.trip || b }) :=
    .of_eq (by simp) (by simp) (by simp) (by simp) (by simp) (by simp)
  unfold syncLines
  dsimp only
  split
  · exact hf
  · exact hf.trans (orderly_postUrgent _ _)

theorem orderly_dropStage (s : State) : Orderly s (dropStage s) :=
  .of_eq (by simp) (by simp) (by simp) (by simp [dropStage_seq]) (by simp [dropStage_seq]) (by simp)

theorem orderly_modCampaign (f : Campaign → Campaign) (s : State) : Orderly s (modCampaign f s) := .of_eq rfl rfl rfl rfl rfl rfl

theorem orderly_discardPending (s : State) : Orderly s (discardPending s) := .of_eq rfl rfl rfl rfl rfl rfl

theorem live_appendHistory (r : CampaignRecord) {s : State} (h : Live s) : Live (appendHistory r s) := h

theorem live_lock (l : Interlock) {s : State} (h : Live s) : Live { s with lock := l } := h

theorem live_modCampaign (f : Campaign → Campaign) {s : State} (h : Live s) : Live (modCampaign f s) := h

theorem live_discardPending {s : State} (h : Live s) : Live (discardPending s) := h

theorem live_dropStage {s : State} (h : Live s) : Live (dropStage s) := by
  unfold Live
  rw [dropStage_seq, dropStage_store]
  exact h

/-- The campaign history keeps the 8 most recent records (R78). -/
theorem orderly_closeCampaign (o : CampaignOutcome) (s : State) : Orderly s (closeCampaign o s).2 := by
  cases hk : s.seq.campaign with
  | none => rw [closeCampaign_none o hk]; exact .refl s
  | some k =>
    rw [closeCampaign_some o hk]
    refine .of_bounds ⟨by simp, by simp [repliesOwed, dropCampaign], by simp, ?_⟩ rfl rfl rfl rfl
    simp [dropCampaign]
    omega

theorem bounds_setSeq (st : SeqState) (s : State) : WithinBounds 0 s (setSeq st s) := by
  have h : Orderly s (if s.seq.state = .ready ∧ st ≠ .ready then abortExchanges s else s) := by
    split
    · exact orderly_abortExchanges s
    · exact .refl s
  exact h.toWithinBounds.trans (.of_eq rfl rfl rfl rfl)

theorem orderly_setSeq (st : SeqState) {s : State} (h : Live s) : Orderly s (setSeq st s) :=
  .of_live (bounds_setSeq st s) h (by simp)

theorem bounds_haltDevice (k : ModeCause) (s : State) : WithinBounds 0 s (haltDevice k s) :=
  (orderly_retireCells _).toWithinBounds.after ((orderly_darkenLinks _).toWithinBounds.after
    ((bounds_postUrgent _ _).after (.of_eq rfl rfl rfl rfl)))

theorem haltDevice_store (k : ModeCause) (s : State) :
    (haltDevice k s).store = { s.store with mode := .standby } ∧ (haltDevice k s).seq.state = s.seq.state := by
  simp [haltDevice]

theorem orderly_enterStopped (st : SeqState) (r : Option CampaignRecord) {s : State} (h : Live s) :
    Orderly s (enterStopped st r s) := by
  have hv (st : SeqState) : Orderly s (syncLines true (postCampaign r (setSeq st s))) :=
    ((orderly_setSeq st h).trans (orderly_postUrgent _ _)).trans (orderly_syncLines _ _)
  unfold enterStopped
  split
  · obtain ⟨hstore, hstate⟩ := haltDevice_store .haltHeld (syncLines true (postCampaign r (setSeq .off s)))
    exact .of_halt ((hv .off).toWithinBounds.trans (bounds_haltDevice _ _)) h (hstate.trans (by simp))
      (hstore.trans (by simp))
  · exact hv st

theorem live_closeCampaign {s : State} (o : CampaignOutcome) (h : Live s) : Live (closeCampaign o s).2 := by
  cases hk : s.seq.campaign with
  | none => rw [closeCampaign_none o hk]; exact h
  | some k => rw [closeCampaign_some o hk]; exact h

theorem orderly_trip (k : TripCause) (s : State) : Orderly s (trip k s) := by
  by_cases hs : s.seq.state = .off ∨ s.seq.state = .tripped ∨ s.seq.state = .locked
  · rw [trip_stopped k hs]; exact .refl s
  · rw [trip_running k hs]
    have hl : Live { s with seq.tripCause := some k } := .inl fun h => hs (.inl h)
    have hd : Live (discardPending (dropStage { s with seq.tripCause := some k })) :=
      live_discardPending (live_dropStage hl)
    exact (orderly_enterStopped _ _ (live_closeCampaign _ hd)).after ((orderly_closeCampaign _ _).after
      ((orderly_discardPending _).after ((orderly_dropStage _).after (.of_eq rfl rfl rfl rfl rfl rfl))))

theorem orderly_completeCampaign {s : State} (h : Live s) : Orderly s (completeCampaign s) := by
  have hc := (orderly_dropStage s).trans (orderly_closeCampaign .completed _)
  have hl := live_closeCampaign .completed (live_dropStage h)
  unfold completeCampaign
  dsimp only
  split
  · obtain ⟨hstore, hstate⟩ := haltDevice_store .haltHeld (postCampaign (closeCampaign .completed (dropStage s)).1
      (setSeq .off (closeCampaign .completed (dropStage s)).2))
    refine .of_halt ?_ h ?_ ?_
    · exact (orderly_syncLines _ _).toWithinBounds.after ((bounds_haltDevice _ _).after ((bounds_postUrgent _ _).after
        ((bounds_setSeq _ _).after hc.toWithinBounds)))
    · rw [syncLines_seq, hstate]; simp
    · rw [syncLines_store, hstore]; simp
  · exact ((hc.trans (orderly_setSeq _ hl)).trans (orderly_postUrgent _ _)).trans (orderly_syncLines _ _)

theorem orderly_toHeld (s : State) : Orderly s (toHeld s) := .of_eq rfl rfl rfl rfl rfl rfl

theorem orderly_convertToHeld (s : State) : Orderly s (convertToHeld s) :=
  ((orderly_toHeld s).trans (orderly_postOpen _)).trans (orderly_syncLines _ _)

theorem orderly_blockStyle (b : Bool) (s : State) : Orderly s (blockStyle b s) := by
  unfold blockStyle decideStyle restyle
  (repeat' split)
  · exact .of_eq rfl rfl rfl rfl rfl rfl
  · exact .of_eq rfl rfl rfl rfl rfl rfl
  · exact orderly_toHeld s
  · exact orderly_toHeld s
  · exact .refl s
  · exact .refl s

theorem orderly_enterBlock (b : Bool) {s : State} (h : Live s) : Orderly s (enterBlock b s) := by
  have hb := (orderly_dropStage s).trans (orderly_setSeq .block (live_dropStage h))
  unfold enterBlock
  dsimp only
  split
  · exact (orderly_syncLines _ _).after ((orderly_postOpen _).after (.trans (hb.trans (orderly_blockStyle b _))
      (.of_eq rfl rfl rfl rfl rfl rfl)))
  · exact (hb.trans (orderly_postOpen _)).trans (orderly_trip _ _)

theorem orderly_openCampaign (k : CampaignKind) {s : State} (h : Live s) : Orderly s (openCampaign k s) :=
  .trans (t := { dropCampaign s with
      seq.campaign := some (newCampaign k s)
      seq.lastNumber := (newCampaign k s).number
      lock.holdMark := k.opensHeld })
    (.of_eq rfl rfl rfl rfl rfl rfl) (orderly_enterBlock true h)

theorem orderly_appendHistory (r : CampaignRecord) (s : State) : Orderly s (appendHistory r s) := by
  refine .of_bounds ⟨by simp, by simp [repliesOwed], by simp, ?_⟩ rfl rfl rfl rfl
  simp [appendHistory]
  omega

theorem orderly_openFault {s : State} (h : Live s) : Orderly s (openFault s) := by
  unfold openFault
  split
  · exact .trans (t := { s with seq.attempts := s.seq.attempts ++ [s.now] }) (.of_eq rfl rfl rfl rfl rfl rfl)
      (orderly_openCampaign .fault h)
  · unfold refuseCharge
    refine (orderly_enterStopped _ _ (live_appendHistory _ ?_)).after ((orderly_appendHistory _ _).after
      (.plans_seq s _ _ ⟨rfl, rfl⟩))
    exact h

theorem orderly_enterPlan {s : State} (h : Live s) : Orderly s (enterPlan s) := by
  have hp := (orderly_dropStage s).trans (orderly_setSeq .plan (live_dropStage h))
  unfold enterPlan
  dsimp only
  split
  · exact (hp.trans (orderly_postOpen _)).trans (orderly_trip _ _)
  · have hu := hp.trans (orderly_modCampaign (fun k => { k with pendingTag := some (s.seq.lastTag + 1) }) _)
    refine (orderly_postOpen _).after (hu.trans ?_)
    exact .plans_seq _ _ _ ⟨rfl, rfl⟩

theorem orderly_beginIsolation (s : State) (c : CellRef) : Orderly s (beginIsolation s c) := orderly_modCell c _ s

theorem orderly_enterIsolate {s : State} (h : Live s) : Orderly s (enterIsolate s) := by
  have hi := ((orderly_dropStage s).trans (orderly_setSeq .isolate (live_dropStage h))).trans (orderly_postOpen _)
  unfold enterIsolate
  dsimp only
  split
  · exact hi.trans (orderly_enterPlan (live_of_state (st := .isolate) (by simp) (by simp)))
  · exact hi.trans (.foldl orderly_beginIsolation _ _)

theorem orderly_isolateCheck (s : State) : Orderly s (isolateCheck s) := by
  unfold isolateCheck
  split
  · next h => exact orderly_enterPlan (live_of_state h.1 (by simp))
  · exact .refl s

theorem orderly_acceptBypass (b : Bool) (c : CellRef) (s : State) : Orderly s (acceptBypass b c s) := by
  have h := OrderlyBy.of_onRecord (acceptedState_only b c s)
  exact (orderly_isolateCheck _).after (h.after (.of_eq rfl rfl rfl rfl rfl rfl))

theorem orderly_blockCheck (s : State) : Orderly s (blockCheck s) := by
  rcases blockCheck_cases s with ⟨_, e⟩ | ⟨w, left, _, _, e | ⟨hs, _, _, _, e⟩⟩ <;> rw [e]
  · exact .refl s
  · exact .of_eq rfl rfl rfl rfl rfl rfl
  · exact .trans (t := { s with seq.watch := some { w with cells := left } }) (.of_eq rfl rfl rfl rfl rfl rfl)
      (orderly_enterIsolate (live_of_state hs (by simp)))

theorem orderly_reenterBlock (c : CellRef) {s : State} (h : Live s) : Orderly s (reenterBlock c s) := by
  unfold reenterBlock
  split
  · exact .refl s
  · split
    · exact orderly_trip _ s
    · exact (orderly_enterBlock false (live_modCampaign _ (live_discardPending (live_modCampaign _ h)))).after
        ((orderly_modCampaign _ _).after ((orderly_discardPending _).after (orderly_modCampaign _ s)))

theorem orderly_told (c : CellRef) (s : State) : Orderly s (told c s) := by
  unfold told
  split
  · next h => exact orderly_openFault (live_of_state h (by simp))
  · exact orderly_modCampaign _ s
  · exact (orderly_beginIsolation _ c).after (orderly_modCampaign _ s)
  iterate 4 next h => exact orderly_reenterBlock c (live_of_state h (by simp))
  iterate 3 exact .refl s

theorem orderly_applyPlan (p : Plan) (s : State) : Orderly s (applyPlan p s) := by
  refine OrderlyBy.after (.foldl (fun s c => ?_) allCells _) (.of_eq rfl rfl rfl rfl rfl rfl)
  unfold applyToCell
  split
  · exact (orderly_setService _ c s).trans (orderly_modCell c _ _)
  · split
    · exact orderly_setService _ c s
    · exact .refl s

theorem style_of_campaign {s : State} {k : Campaign} (h : s.seq.campaign = some k) : s.style = k.style := by
  simp [State.style, h]

/-- A plan put in force writes records and the plan unit alone (R11, R116). -/
theorem applyToCell_seq (p : Plan) (s : State) (c : CellRef) :
    (applyToCell p s c).seq = s.seq ∧ (applyToCell p s c).store = s.store := by
  unfold applyToCell
  split
  · simp
  · split <;> simp

theorem applyPlan_seq (p : Plan) (s : State) : (applyPlan p s).seq = s.seq ∧ (applyPlan p s).store = s.store := by
  have run (l : List CellRef) (u : State) :
      (l.foldl (applyToCell p) u).seq = u.seq ∧ (l.foldl (applyToCell p) u).store = u.store := by
    induction l generalizing u with
    | nil => exact ⟨rfl, rfl⟩
    | cons c l ih => exact ⟨(ih _).1.trans (applyToCell_seq p u c).1, (ih _).2.trans (applyToCell_seq p u c).2⟩
  exact run allCells { s with plans := { pending := none, inForce := some p } }

theorem orderly_confirmPlan (p : Plan) {s : State} (h : Live s) : Orderly s (confirmPlan p s) := by
  have hu : Orderly s (modCampaign (fun k => { k with pendingTag := none })
      (postUrgent (.plan p.tag p.m p.voltage p.speed) (applyPlan p s))) :=
    (orderly_modCampaign _ _).after ((orderly_postUrgent _ _).after (orderly_applyPlan p s))
  have hl : Live (modCampaign (fun k => { k with pendingTag := none })
      (postUrgent (.plan p.tag p.m p.voltage p.speed) (applyPlan p s))) := by
    obtain ⟨hseq, hstore⟩ := applyPlan_seq p s
    refine live_modCampaign _ ?_
    unfold Live
    rw [postUrgent_seq, postUrgent_store, hseq, hstore]
    exact h
  unfold confirmPlan
  dsimp only
  generalize modCampaign (fun k => { k with pendingTag := none })
    (postUrgent (.plan p.tag p.m p.voltage p.speed) (applyPlan p s)) = u at hu hl
  split
  · have hd := hu.trans ((orderly_dropStage u).trans (.lock _ { (dropStage u).lock with resumeTimer := some s.now }))
    exact (orderly_postOpen _).after ((orderly_setSeq _ (live_lock _ (live_dropStage hl))).after hd)
  · exact hu.trans (orderly_completeCampaign hl)

theorem orderly_enterRephase {s : State} (h : Live s) : Orderly s (enterRephase s) := by
  unfold enterRephase
  split
  · exact .refl s
  · refine (orderly_postOpen _).after ((orderly_setSeq _ ?_).after ?_)
    · exact h
    · exact .of_eq rfl rfl rfl rfl rfl rfl

theorem orderly_toStopped (s : State) : Orderly s (toStopped s) := by
  have hu : Orderly s { setStyle .stopped s with lock.rideThrough := none, lock.brakeConfirm := none } :=
    .of_eq rfl rfl rfl rfl rfl rfl
  unfold toStopped
  dsimp only
  split
  · next h => exact hu.trans (orderly_completeCampaign (by rcases h with h | h <;> exact live_of_state h (by simp)))
  · exact hu.trans (orderly_postOpen _)

/-! ### The fault intake -/

theorem orderly_makeFaulted (k : FaultClass) (detail : Byte) (c : CellRef) (s : State) :
    Orderly s (makeFaulted k detail c s) := by
  unfold makeFaulted
  exact orderly_modCell c _ s

theorem orderly_tripOnBypassFail (k : FaultClass) (s : State) : Orderly s (tripOnBypassFail k s) := by
  unfold tripOnBypassFail
  split
  · exact orderly_trip _ s
  · exact .refl s

theorem orderly_appendEntry (k : FaultClass) (detail : Byte) (c : CellRef) (s : State) :
    Orderly s (appendEntry k detail c s) := .of_eq rfl rfl rfl rfl rfl rfl

theorem orderly_queuedRoute (k : FaultClass) (detail : Byte) (c : CellRef) (s : State) :
    Orderly s (queuedRoute k detail c s) := by
  have hf : Orderly s (if k = .bypassFail then trip .bypassFail (makeFaulted k detail c s) else makeFaulted k detail c s) := by
    split
    · exact (orderly_makeFaulted k detail c s).trans (orderly_trip _ _)
    · exact orderly_makeFaulted k detail c s
  exact (orderly_told c _).after ((orderly_setFlag _ c _).after ((orderly_setFlag _ c _).after
    ((orderly_appendEntry k detail c _).after hf)))

theorem orderly_furtherFault (k : FaultClass) (detail : Byte) (c : CellRef) (s : State) :
    Orderly s (furtherFault k detail c s) :=
  (OrderlyBy.of_onRecord (furtherFault_only k detail c s)).after (.of_eq rfl rfl rfl rfl rfl rfl)

theorem orderly_takeFault (k : FaultClass) (detail : Byte) (named : Bool) (c : CellRef) (s : State) :
    Orderly s (takeFault k detail named c s) := by
  have hf := (orderly_furtherFault k (recordedDetail s.store.image k detail) c s).trans (orderly_tripOnBypassFail k _)
  unfold takeFault
  split
  · exact .refl s
  · dsimp only
    split
    · exact .refl s
    · exact orderly_tripOnBypassFail k s
    · exact orderly_queuedRoute k _ c s
    · split
      · exact .of_onRecord (OnRecord.directRoute k _ c s)
      · exact orderly_queuedRoute k _ c s
    iterate 3 exact hf

/-! ### A cycle start -/

theorem orderly_watchCycle (s : State) : Orderly s (watchCycle s) := by
  unfold watchCycle
  split
  · exact .refl s
  · dsimp only
    split
    · exact (orderly_blockCheck _).after (OrderlyBy.after (.foldl (fun s c => orderly_takeFault _ _ _ c s) _ _)
        (.of_eq rfl rfl rfl rfl rfl rfl))
    · exact (orderly_blockCheck _).after (.of_eq rfl rfl rfl rfl rfl rfl)

theorem orderly_failEpoch (p : Plan) (r : Rephase) (s : State) : Orderly s (failEpoch p r s) := by
  unfold failEpoch
  dsimp only
  split
  · exact .of_eq rfl rfl rfl rfl rfl rfl
  · split
    · exact (orderly_blockCheck _).after (.foldl (fun s c => orderly_takeFault _ _ _ c s) _ s)
    · exact orderly_trip _ s

theorem orderly_epochStep {s : State} (h : Live s) : Orderly s (epochStep s) := by
  unfold epochStep
  split
  · split
    · split
      · exact orderly_confirmPlan _ h
      · exact orderly_failEpoch _ _ s
    · exact .refl s
  · exact .refl s

theorem orderly_rampStep {s : State} (h : Live s) : Orderly s (rampStep s) := by
  have ht : Orderly s { s with lock.rampCount := s.lock.rampCount + 1, seq.scale := nextScale s } :=
    .of_eq rfl rfl rfl rfl rfl rfl
  unfold rampStep
  dsimp only
  split
  · exact ht.trans (orderly_completeCampaign h)
  · exact ht

theorem orderly_seqCycle (s : State) : Orderly s (seqCycle s) := by
  unfold seqCycle
  split
  · exact orderly_watchCycle s
  · next h => exact orderly_enterRephase (live_of_state h (by simp))
  · next h => exact orderly_epochStep (live_of_state h (by simp))
  · next h => exact orderly_rampStep (live_of_state h (by simp))
  iterate 6 exact .refl s

theorem orderly_failAttempt (c : CellRef) (s : State) : Orderly s (failAttempt c s) := by
  have h := orderly_modCell c (fun x => { x with unsteadyCount := min 3 ((s.cell c).unsteadyCount + 1) }) s
  unfold failAttempt
  dsimp only
  split
  · exact (h.trans (orderly_enterLink _ _ _ c _)).trans (orderly_setFlag _ c _)
  · exact h.trans (orderly_enterLink _ _ _ c _)

theorem orderly_confirmCycle (s : State) (c : CellRef) : Orderly s (confirmCycle s c) := by
  unfold confirmCycle
  split
  · split
    · exact orderly_failAttempt c s
    · exact orderly_modCell c _ s
  · exact .refl s

theorem orderly_tunnelCycle (s : State) (p : Phase) : Orderly s (tunnelCycle s p) := by
  unfold tunnelCycle
  split
  · exact .refl s
  · next x hx =>
    split
    · exact .refl s
    · split
      · exact orderly_endExchange p _ s
      · exact orderly_setMail _ hx

theorem orderly_ringCycle (s : State) : Orderly s (ringCycle s) := by
  unfold ringCycle
  split
  · exact (OrderlyBy.foldl orderly_confirmCycle allCells s).trans (.foldl orderly_tunnelCycle phases _)
  · exact .refl s

theorem orderly_testCycle (b : Option (List Byte)) (s : State) : Orderly s (testCycle b s) := by
  obtain ⟨m, hm⟩ := testCycle_eq b s
  rw [hm]
  exact .of_bounds (.of_eq rfl rfl rfl rfl) rfl rfl rfl rfl

/-- The frames leave the exchanges in flight. -/
theorem orderly_sendFrames (plans : Bool) (s : State) : Orderly s (sendFrames plans s) := by
  unfold sendFrames
  split
  · refine .of_bounds ⟨by simp, ?_, by simp, by simp⟩ rfl rfl rfl rfl
    simp [repliesOwed, inFlight]
  · exact .of_eq rfl rfl rfl rfl rfl rfl

theorem orderly_cycleStep (b : Option (List Byte)) (s : State) : Orderly s (cycleStep b s) := by
  have hl : Orderly s (lightRings (startCycle s)) := .of_eq rfl rfl rfl rfl rfl rfl
  exact (orderly_sendFrames _ _).after ((orderly_seqCycle _).after ((orderly_testCycle b _).after
    ((orderly_ringCycle _).after hl)))

/-! ### The end of a slot -/

theorem orderly_completeEnrolment (c : CellRef) (s : State) : Orderly s (completeEnrolment c s) := by
  have ha (u : State) : Orderly u (admitAwaiting c u) := by
    unfold admitAwaiting
    dsimp only
    split
    · exact orderly_setService _ c u
    · exact .refl u
  unfold completeEnrolment
  exact ((((orderly_enterLink _ _ _ c s).trans (orderly_modCell c _ _)).trans (orderly_setFlag _ c _)).trans (ha _)).trans
    (orderly_modCell c _ _)

theorem orderly_relinkStep (c : CellRef) (s : State) : Orderly s (relinkStep c s) := by
  unfold relinkStep
  dsimp only
  (repeat' split)
  · exact .refl s
  · exact orderly_modCell c _ s
  · exact (orderly_modCell c _ s).trans (orderly_setFlag _ c _)
  · exact orderly_enterLink _ _ _ c s

theorem orderly_linkValid (c : CellRef) (r : Response) (s : State) : Orderly s (linkValid c r s) := by
  unfold linkValid
  split
  · split
    · unfold takeAbility
      split
      · exact orderly_enterLink _ _ _ c s
      · exact (orderly_enterLink _ _ _ c s).trans (orderly_setFlag _ c _)
    · exact .refl s
  · split
    · split
      · exact orderly_enterLink _ _ _ c s
      · exact .refl s
    · exact .refl s
  · split
    · unfold trialStep
      split
      · exact orderly_completeEnrolment c s
      · exact orderly_modCell c _ s
    · exact orderly_failAttempt c s
  · exact orderly_modCell c _ s
  · exact orderly_relinkStep c s
  · exact .refl s
  · exact .refl s

theorem orderly_raiseMiss (c : CellRef) (s : State) : Orderly s (raiseMiss c s) := by
  unfold raiseMiss
  dsimp only
  generalize min 240 ((s.cell c).missCount + 6) = n
  have h := (OrderlyBy.of_onRecord (OnRecord.warnMiss n c _)).after (orderly_modCell c (fun x => { x with missCount := n }) s)
  split
  · unfold sever faultNow
    exact (orderly_takeFault _ _ _ c _).after ((orderly_setFlag _ c _).after ((orderly_enterLink _ _ _ c _).after h))
  · exact h

theorem orderly_linkMiss (c : CellRef) (s : State) : Orderly s (linkMiss c s) := by
  unfold linkMiss
  split
  · exact .refl s
  · exact .refl s
  · exact orderly_failAttempt c s
  · exact orderly_raiseMiss c s
  · exact orderly_modCell c _ s
  · exact .refl s
  · exact .refl s

theorem orderly_takeChunk (c : CellRef) (m : UpMessage) (s : State) : Orderly s (takeChunk c m s) := by
  unfold takeChunk
  dsimp only
  split
  · next final seq length data x hx =>
    split
    · exact .refl s
    · split
      · exact orderly_endExchange _ _ s
      · split
        · exact (orderly_endExchange _ _ _).after (orderly_setMail _ hx)
        · split
          · exact (orderly_endExchange _ _ _).after (orderly_setMail _ hx)
          · exact orderly_setMail _ hx
  · exact .refl s

theorem orderly_dcCheck (c : CellRef) (x : Cell) (dc : Nat) (s : State) : Orderly s (dcCheck c x dc s) := by
  unfold dcCheck
  (repeat' split)
  · exact orderly_modCell c _ s
  · exact (orderly_modCell c _ s).trans (orderly_takeFault _ _ _ c _)
  · exact orderly_modCell c _ s
  · exact .refl s

theorem orderly_confirmBypass (c : CellRef) (x : Cell) (r : Response) (s : State) : Orderly s (confirmBypass c x r s) := by
  unfold confirmBypass
  (repeat' split)
  · exact orderly_acceptBypass _ c s
  · exact .refl s
  · exact .refl s

theorem orderly_confirmGateOff (c : CellRef) (r : Response) (s : State) : Orderly s (confirmGateOff c r s) := by
  obtain ⟨w, hw⟩ := confirmGateOff_watch c r s
  rw [hw]
  exact .of_eq rfl rfl rfl rfl rfl rfl

theorem orderly_takeReported (c : CellRef) (r : Response) (s : State) : Orderly s (takeReported c r s) := by
  unfold takeReported
  split
  · exact .refl s
  · exact orderly_takeFault _ _ _ c s

theorem orderly_takeValid (c : CellRef) (r : Response) (s : State) : Orderly s (takeValid c r s) := by
  have h := orderly_modCell c (fun x => { x with report := some (reportOf r s.now), reportAge := 0 }) s
  have hl (u : State) : Orderly u (blockCheck (confirmGateOff c r (confirmBypass c (s.cell c) r
      (dcCheck c (s.cell c) r.dc (takeReported c r (takeChunk c r.message u)))))) :=
    (((((orderly_takeChunk c _ u).trans (orderly_takeReported c r _)).trans (orderly_dcCheck c _ _ _)).trans
      (orderly_confirmBypass c _ r _)).trans (orderly_confirmGateOff c r _)).trans (orderly_blockCheck _)
  unfold takeValid
  dsimp only
  split
  · exact (h.trans (orderly_linkValid c r _)).trans (hl _)
  · exact h.trans (hl _)

theorem orderly_takeMiss (c : CellRef) (s : State) : Orderly s (takeMiss c s) := by
  have h := orderly_modCell c (fun x => { x with reportAge := min 255 (x.reportAge + 1) }) s
  unfold takeMiss
  dsimp only
  split
  · exact (h.trans (orderly_linkMiss c _)).trans (orderly_blockCheck _)
  · exact h.trans (orderly_blockCheck _)

theorem orderly_slotStep (c : CellRef) (seen : SlotSeen) (s : State) : Orderly s (slotStep c seen s) := by
  unfold slotStep
  split
  · split
    · exact orderly_takeValid c _ s
    · exact orderly_takeMiss c s
    · exact (orderly_setFlag _ c s).trans (orderly_takeMiss c _)
    · exact orderly_takeMiss c s
  · exact .refl s

end Sys2Proof.Machine
end

section
/-! PROOFS. The requests and the link's own part of a step, in the bounds and the mode's agreement: a request brings at most one
reply of its own. -/

namespace Sys2Proof.Machine

open Sys2Proof

/-! ### Requests -/

/-- An orderly effect and its reply. -/
theorem OrderlyBy.replied {s u : State} {t tag : Byte} {code : ReplyCode} {body : List Byte} (h : Orderly s u) :
    OrderlyBy 1 s (pushReply t tag code body u) := h.trans (answers_pushReply t tag code body u)

/-- The settings image is no part of the bounds, nor of the mode's agreement. -/
theorem orderly_image (image : List Byte) (s : State) : Orderly s { s with store.image := image } :=
  .of_bounds (.of_eq rfl rfl rfl rfl) rfl rfl rfl rfl

theorem answers_settingsRequest (t tag : Byte) (specs : List FieldSpec) (fields : List (Option Nat)) (extra : Nat)
    {effects : State → State} (he : ∀ u, Orderly u (effects u)) (s : State) :
    OrderlyBy 1 s (settingsRequest t tag specs fields extra effects s) := by
  unfold settingsRequest
  dsimp only
  split
  · exact answers_pushReply _ _ _ _ s
  · exact ((orderly_image _ s).trans (he _)).replied

theorem withdrawNotice_urgent (c : CellRef) (s : State) : (withdrawNotice c s).notices.urgent = s.notices.urgent := by
  unfold withdrawNotice
  dsimp only
  split <;> rfl

theorem orderly_withdrawNotice (c : CellRef) (s : State) : Orderly s (withdrawNotice c s) :=
  .of_eq (by simp) (by simp) (withdrawNotice_urgent c s) (by simp) (by simp) (by simp)

theorem orderly_setCell (c : CellRef) (x : Cell) (s : State) : Orderly s (s.setCell c x) := .of_onRecord (OnRecord.setCell c x s)

theorem orderly_reshape (p : Phase) (n : Nat) (s : State) : Orderly s (reshape p n s) := by
  refine .foldl (fun s c => ?_) (cellsOf p) s
  by_cases hl : Leaves n s c
  · rw [reshapeCell_leaves hl]
    exact (orderly_withdrawNotice c _).after (.of_eq rfl rfl rfl rfl rfl rfl)
  · rcases reshapeCell_stays hl with e | e <;> rw [e]
    · exact orderly_setCell c _ s
    · exact .refl s

theorem orderly_planEffects (w : Nat) (fields : List (Option Nat)) (s : State) : Orderly s (planEffects w fields s) := by
  unfold planEffects trimWindow
  dsimp only
  (repeat' split) <;> exact .of_eq rfl rfl rfl rfl rfl rfl

theorem orderly_timingEffects (fields : List (Option Nat)) (s : State) : Orderly s (timingEffects fields s) := by
  unfold timingEffects recheckHoldMinimum
  dsimp only
  (repeat' split) <;> exact .of_eq rfl rfl rfl rfl rfl rfl

theorem orderly_reportingEffects (fields : List (Option Nat)) (s : State) : Orderly s (reportingEffects fields s) := by
  unfold reportingEffects recheckBatch
  dsimp only
  (repeat' split) <;> exact .of_eq rfl rfl rfl rfl rfl rfl

theorem orderly_ringEffects (p : Phase) (fields : List (Option Nat)) (s : State) : Orderly s (ringEffects p fields s) := by
  unfold ringEffects
  split
  · exact orderly_reshape _ _ s
  · exact .refl s

theorem answers_serveSetDevice (tag : Byte) (fields : List (Option Nat)) (s : State) :
    OrderlyBy 1 s (serveSetDevice tag fields s) := by
  unfold serveSetDevice
  (repeat' split)
  · exact answers_pushReply _ _ _ _ s
  · exact answers_settingsRequest _ _ _ _ _ (fun u => orderly_image _ u) s
  · exact answers_settingsRequest _ _ _ _ _ .refl s

theorem answers_serveSetRing (tag phaseCode : Byte) (fields : List (Option Nat)) (s : State) :
    OrderlyBy 1 s (serveSetRing tag phaseCode fields s) := by
  unfold serveSetRing
  (repeat' split)
  · exact answers_pushReply _ _ _ _ s
  · exact answers_pushReply _ _ _ _ s
  · exact answers_settingsRequest _ _ _ _ _ (orderly_ringEffects _ fields) s

theorem answers_serveSetPlan (tag : Byte) (fields : List (Option Nat)) (s : State) :
    OrderlyBy 1 s (serveSetPlan tag fields s) := by
  unfold serveSetPlan
  split
  · exact answers_pushReply _ _ _ _ s
  · exact answers_settingsRequest _ _ _ _ _ (orderly_planEffects _ fields) s

theorem answers_serveSetTiming (tag : Byte) (fields : List (Option Nat)) (s : State) :
    OrderlyBy 1 s (serveSetTiming tag fields s) := by
  unfold serveSetTiming
  split
  · exact answers_pushReply _ _ _ _ s
  · exact answers_settingsRequest _ _ _ _ _ (orderly_timingEffects fields) s

theorem answers_serveSetReporting (tag : Byte) (fields : List (Option Nat)) (s : State) :
    OrderlyBy 1 s (serveSetReporting tag fields s) := by
  unfold serveSetReporting
  split
  · exact answers_pushReply _ _ _ _ s
  · exact answers_settingsRequest _ _ _ _ _ (orderly_reportingEffects fields) s

/-- FREEZE: the image is frozen with its CRC, and the mode is STANDBY (R143, R144). -/
theorem answers_serveFreeze (tag : Byte) {s : State} (h : s.store.mode = .config) : OrderlyBy 1 s (serveFreeze tag s) := by
  unfold serveFreeze
  split
  · exact answers_pushReply _ _ _ _ s
  · split
    · exact answers_pushReply _ _ _ _ s
    · have hf : Orderly s { s with
          store.storedCrc := some (settingsCrc s), store.frozen := true, store.mode := .standby } := by
        refine ⟨.of_eq rfl rfl rfl rfl, fun ⟨hoff, _, _⟩ => ?_⟩
        simp [ModeAgrees, hoff (by simp [h])]
      exact (hf.trans (orderly_postUrgent _ _)).replied

/-- From STANDBY back to CONFIG, with the image free again (R145, R146). -/
theorem orderly_toConfig {s : State} (h : s.store.mode = .standby) :
    Orderly s { s with store.frozen := false, store.storedCrc := none, store.mode := .config } := by
  refine ⟨.of_eq rfl rfl rfl rfl, fun ⟨hoff, _, _⟩ => ?_⟩
  simp [ModeAgrees, hoff (by simp [h])]

theorem answers_serveUnfreeze (tag : Byte) {s : State} (h : s.store.mode = .standby) : OrderlyBy 1 s (serveUnfreeze tag s) :=
  ((orderly_toConfig h).trans (orderly_postUrgent _ _)).replied

theorem answers_serveSelfTest (tag ring : Byte) (s : State) : OrderlyBy 1 s (serveSelfTest tag ring s) := by
  unfold serveSelfTest
  (repeat' split)
  iterate 3 exact answers_pushReply _ _ _ _ s
  exact OrderlyBy.replied (.of_bounds (.of_eq rfl rfl rfl rfl) rfl rfl rfl rfl)

/-- GO: SERVICE with the image still frozen, and the START campaign (R146). -/
theorem answers_serveGo (tag : Byte) {s : State} (h : s.store.mode = .standby) : OrderlyBy 1 s (serveGo tag s) := by
  have hg : Orderly s { s with store.mode := .service } := by
    refine ⟨.of_eq rfl rfl rfl rfl, fun ⟨_, hfrozen, hcrc⟩ => ?_⟩
    have hf : s.store.frozen = true := hfrozen.2 (by simp [h])
    simp [ModeAgrees, hcrc.2 hf, hf]
  unfold serveGo
  (repeat' split)
  · exact answers_pushReply _ _ _ _ s
  · exact answers_pushReply _ _ _ _ s
  · exact ((hg.trans (orderly_postUrgent _ _)).trans (orderly_openCampaign _ (.inr (by simp)))).replied
  · exact ((orderly_toConfig h).trans (orderly_postUrgent _ _)).replied

theorem answers_serveHalt (tag : Byte) {s : State} (h : s.store.mode = .service) : OrderlyBy 1 s (serveHalt tag s) := by
  have hoff : WithinBounds 0 s (postCampaign none (setSeq .off (dropStage s))) :=
    (bounds_postUrgent _ _).after ((bounds_setSeq _ _).after (orderly_dropStage s).toWithinBounds)
  unfold serveHalt
  split
  · obtain ⟨hstore, hstate⟩ := haltDevice_store .haltAtOnce (postCampaign none (setSeq .off (dropStage s)))
    refine OrderlyBy.replied (.of_halt ?_ (.inr h) ?_ ?_)
    · exact (hoff.trans (bounds_haltDevice _ _)).trans (orderly_syncLines _ _).toWithinBounds
    · rw [syncLines_seq, hstate]; simp
    · rw [syncLines_store, hstore]; simp
  · exact OrderlyBy.replied (.plans_seq s _ _ ⟨rfl, rfl⟩)

theorem orderly_clearTrip (s : State) : Orderly s (clearTrip s) := by
  have h : Orderly s { s with lock.trip := false, seq.tripCause := none } := .of_eq rfl rfl rfl rfl rfl rfl
  unfold clearTrip
  dsimp only
  split
  · exact h.trans (orderly_postUrgent _ _)
  · exact h

theorem releaseTrip_orderly {s : State} (h : Live s) : Orderly s (releaseTrip s) ∧ Live (releaseTrip s) := by
  unfold releaseTrip
  split
  · refine ⟨orderly_clearTrip s, ?_⟩
    unfold clearTrip
    dsimp only
    split
    · unfold Live
      rw [postLines_seq, postLines_store]
      exact h
    · exact h
  · exact ⟨.plans_seq s _ _ ⟨rfl, rfl⟩, h⟩

theorem orderly_recover {s : State} (h : Live s) : Orderly s (openCampaign .recover (releaseTrip s)) := by
  obtain ⟨hr, hl⟩ := releaseTrip_orderly h
  exact hr.trans (orderly_openCampaign _ hl)

theorem answers_serveAckTrip (tag : Byte) (s : State) : OrderlyBy 1 s (serveAckTrip tag s) := by
  unfold serveAckTrip
  (repeat' split)
  · exact (orderly_clearTrip s).replied
  · exact answers_pushReply _ _ _ _ s
  · next hs _ => exact (orderly_recover (live_of_state (not_not.1 hs) (by simp))).replied
  · exact answers_pushReply _ _ _ _ s

theorem answers_serveClearLockout (tag : Byte) (s : State) : OrderlyBy 1 s (serveClearLockout tag s) := by
  have ha : Orderly s { s with seq.attempts := [] } := .plans_seq s _ _ ⟨rfl, rfl⟩
  unfold serveClearLockout
  (repeat' split)
  · exact (ha.trans (orderly_clearTrip _)).replied
  · exact answers_pushReply _ _ _ _ s
  · next hs _ =>
    exact (ha.trans (orderly_recover (live_of_state (s := { s with seq.attempts := [] }) (not_not.1 hs) (by simp)))).replied
  · exact answers_pushReply _ _ _ _ s

theorem answers_serveRebalance (tag : Byte) (s : State) : OrderlyBy 1 s (serveRebalance tag s) := by
  unfold serveRebalance
  (repeat' split)
  · exact answers_pushReply _ _ _ _ s
  · next hs _ => exact (orderly_openCampaign _ (live_of_state (not_not.1 hs) (by simp))).replied
  · exact answers_pushReply _ _ _ _ s

/-- RESUME passes its checks in AWAIT_RESUME alone (R132). -/
theorem resumeFault_none {s : State} (h : resumeFault s = none) : s.seq.state = .awaitResume := by
  unfold resumeFault at h
  by_contra hne
  rw [if_pos hne] at h
  cases h

theorem answers_serveResume (tag : Byte) (s : State) : OrderlyBy 1 s (serveResume tag s) := by
  unfold serveResume
  split
  · exact answers_pushReply _ _ _ _ s
  · next h =>
    have hl : Live s := live_of_state (resumeFault_none h) (by simp)
    exact (((orderly_dropStage s).trans (orderly_setSeq _ (live_dropStage hl))).trans (orderly_postOpen _)).replied

theorem answers_serveHoistStatus (tag : Byte) (speed : BitVec 16) (zone : Byte) (s : State) :
    OrderlyBy 1 s (serveHoistStatus tag speed zone s) := by
  unfold serveHoistStatus
  split
  · exact answers_pushReply _ _ _ _ s
  · exact (OrderlyBy.lock s _).replied

theorem answers_serveClearCell (tag number : Byte) (s : State) : OrderlyBy 1 s (serveClearCell tag number s) := by
  unfold serveClearCell
  (repeat' split)
  iterate 3 exact answers_pushReply _ _ _ _ s
  exact ((orderly_modCell _ _ s).trans (orderly_setService _ _ _)).replied

theorem answers_serveReinstate (tag number : Byte) (s : State) : OrderlyBy 1 s (serveReinstate tag number s) := by
  unfold serveReinstate
  dsimp only
  (repeat' split)
  iterate 5 exact answers_pushReply _ _ _ _ s
  exact ((orderly_modCell _ _ s).trans (orderly_setService _ _ _)).replied

theorem answers_serveRelink (tag number : Byte) (s : State) : OrderlyBy 1 s (serveRelink tag number s) := by
  unfold serveRelink
  (repeat' split)
  iterate 2 exact answers_pushReply _ _ _ _ s
  exact (orderly_enterLink _ _ _ _ s).replied

theorem answers_serveReenrol (tag number : Byte) (s : State) : OrderlyBy 1 s (serveReenrol tag number s) := by
  unfold serveReenrol
  (repeat' split)
  iterate 2 exact answers_pushReply _ _ _ _ s
  exact ((orderly_modCell _ _ s).trans (orderly_enterLink _ _ _ _ _)).replied

/-- TUNNEL is replied to, or its reply is owed from now on (R39). -/
theorem answers_serveTunnel (tag number : Byte) (bytes : List Byte) (s : State) :
    OrderlyBy 1 s (serveTunnel tag number bytes s) := by
  unfold serveTunnel
  (repeat' split)
  iterate 5 exact answers_pushReply _ _ _ _ s
  next c _ _ _ _ _ =>
    refine .of_bounds ⟨by simp, ?_, by simp, by simp⟩ rfl rfl rfl rfl
    have hm := inFlight_set s.rings.mail (phaseOf c) (some (newExchange c tag bytes))
    simp only [Option.isSome_some, Bool.toNat_true] at hm
    simp only [repliesOwed]
    omega

theorem answers_serveReadCell (tag number : Byte) (s : State) : OrderlyBy 1 s (serveReadCell tag number s) := by
  unfold serveReadCell
  split
  · exact answers_pushReply _ _ _ _ s
  · exact ((orderly_modCell _ _ s).trans (orderly_withdrawNotice _ _)).replied

theorem answers_serveReadCampaign (tag part : Byte) (s : State) : OrderlyBy 1 s (serveReadCampaign tag part s) := by
  unfold serveReadCampaign
  split <;> exact answers_pushReply _ _ _ _ s

theorem answers_serveReadSettings (tag part : Byte) (s : State) : OrderlyBy 1 s (serveReadSettings tag part s) := by
  unfold serveReadSettings
  split <;> exact answers_pushReply _ _ _ _ s

theorem answers_serveAttentionScan (tag : Byte) (s : State) : OrderlyBy 1 s (serveAttentionScan tag s) := by
  unfold serveAttentionScan
  split
  · exact OrderlyBy.replied (.of_eq rfl rfl rfl rfl rfl rfl)
  · exact answers_pushReply _ _ _ _ s

theorem answers_serveRestart (tag : Byte) (s : State) : OrderlyBy 1 s (serveRestart tag s) := by
  have h : OrderlyBy 1 s (pushReply 0x1A tag .ok [] (abortExchanges s)) := (orderly_abortExchanges s).replied
  exact ⟨⟨h.buffer, h.owed, h.urgent, h.history⟩, h.mode⟩

/-- A request taken in its modes brings at most one reply of its own (R157, R158). -/
theorem answers_serve (r : Request) {s : State} (h : takenIn r.op s.store.mode = true) : OrderlyBy 1 s (serve r s) := by
  unfold serve
  cases ho : r.op with
  | setDevice fields => exact answers_serveSetDevice r.tag fields s
  | setRing phaseCode fields => exact answers_serveSetRing r.tag phaseCode fields s
  | setPlan fields => exact answers_serveSetPlan r.tag fields s
  | setTiming fields => exact answers_serveSetTiming r.tag fields s
  | setReporting fields => exact answers_serveSetReporting r.tag fields s
  | freeze => exact answers_serveFreeze r.tag (by simpa [ho, takenIn] using h)
  | selfTest ring => exact answers_serveSelfTest r.tag ring s
  | unfreeze => exact answers_serveUnfreeze r.tag (by simpa [ho, takenIn] using h)
  | go => exact answers_serveGo r.tag (by simpa [ho, takenIn] using h)
  | halt => exact answers_serveHalt r.tag (by simpa [ho, takenIn] using h)
  | resume => exact answers_serveResume r.tag s
  | ackTrip => exact answers_serveAckTrip r.tag s
  | clearLockout => exact answers_serveClearLockout r.tag s
  | clearCell cell => exact answers_serveClearCell r.tag cell s
  | reinstate cell => exact answers_serveReinstate r.tag cell s
  | rebalance => exact answers_serveRebalance r.tag s
  | relink cell => exact answers_serveRelink r.tag cell s
  | reenrol cell => exact answers_serveReenrol r.tag cell s
  | tunnel cell bytes => exact answers_serveTunnel r.tag cell bytes s
  | hoistStatus speed zone => exact answers_serveHoistStatus r.tag speed zone s
  | readStatus => exact OrderlyBy.replied (.of_eq rfl rfl rfl rfl rfl rfl)
  | readCell cell => exact answers_serveReadCell r.tag cell s
  | readCampaign part => exact answers_serveReadCampaign r.tag part s
  | readSettings part => exact answers_serveReadSettings r.tag part s
  | attentionScan => exact answers_serveAttentionScan r.tag s
  | restart => exact answers_serveRestart r.tag s
  | unknown t => exact answers_pushReply _ _ _ _ s
  | malformed t => exact answers_pushReply _ _ _ _ s

theorem answers_dispatch (r : Request) (s : State) : OrderlyBy 1 s (dispatch r s) := by
  unfold dispatch
  split
  · next h => exact answers_serve r h
  · exact answers_pushReply _ _ _ _ s

/-! ### Resets and timed events -/

theorem orderly_softReset (s : State) : Orderly s (softReset s) := by
  have hl : (softReset s).link = State.reset.link := by unfold softReset; rw [followDemand_link]; rfl
  have hn : (softReset s).notices = State.reset.notices := by unfold softReset; rw [followDemand_notices]; rfl
  have hm : (softReset s).rings.mail = ⟨none, none, none⟩ := by unfold softReset; rw [followDemand_rings]
  have hmode : (softReset s).seq.state = .off ∧ (softReset s).store.mode = .config ∧ (softReset s).store.frozen = false
      ∧ (softReset s).store.storedCrc = none := by
    unfold softReset
    rw [followDemand_seq, followDemand_store]
    exact ⟨rfl, rfl, rfl, rfl⟩
  have hh : (softReset s).seq.history = (closeCampaign .abandoned s).2.seq.history := by
    unfold softReset
    rw [followDemand_seq]
    simp [dropCampaign]
  obtain ⟨hstate, hmode, hfrozen, hcrc⟩ := hmode
  refine ⟨⟨by simp [hl, State.reset], by simp [repliesOwed, hl, hm, State.reset, inFlight], by simp [hn, State.reset], ?_⟩,
    fun _ => by simp [ModeAgrees, hstate, hmode, hfrozen, hcrc]⟩
  rw [hh]
  exact (orderly_closeCampaign .abandoned s).history

theorem orderly_fullReset (s : State) : Orderly s (fullReset s) := by
  refine ⟨⟨?_, ?_, ?_, ?_⟩, fun _ => ?_⟩ <;> simp [fullReset, State.reset, repliesOwed, inFlight, ModeAgrees]

theorem orderly_frameSent (s : State) : Orderly s (frameSent s) := by
  unfold frameSent
  (repeat' split)
  · exact .refl s
  · exact orderly_softReset s
  · exact .of_bounds ⟨by simp, by simp [repliesOwed], by simp, by simp⟩ rfl rfl rfl rfl

theorem orderly_qualifyDriveRun (s : State) : Orderly s (qualifyDriveRun s) := by
  have hq : Orderly s { s with lock.driveRun := qualify s.lock.driveRun } := .lock s _
  unfold qualifyDriveRun driveRunChanged
  (repeat' split)
  · exact hq.trans (orderly_convertToHeld _)
  · exact hq
  · exact hq.trans (orderly_toStopped _)
  · exact hq
  · exact .refl s

theorem orderly_qualifyBrakeSet (s : State) : Orderly s (qualifyBrakeSet s) := by
  unfold qualifyBrakeSet brakeSetChanged
  dsimp only
  (repeat' split)
  · exact (orderly_convertToHeld _).after (.of_eq rfl rfl rfl rfl rfl rfl)
  · exact .of_eq rfl rfl rfl rfl rfl rfl
  · exact .of_eq rfl rfl rfl rfl rfl rfl
  · exact .refl s

theorem orderly_rideThroughEnds (s : State) : Orderly s (rideThroughEnds s) := by
  unfold rideThroughEnds
  dsimp only
  (repeat' split)
  · exact (orderly_convertToHeld _).after (.of_eq rfl rfl rfl rfl rfl rfl)
  · exact .of_eq rfl rfl rfl rfl rfl rfl
  · exact .refl s

theorem orderly_blindWaitEnds (c : CellRef) (s : State) : Orderly s (blindWaitEnds c s) := by
  unfold blindWaitEnds
  (repeat' split)
  · exact orderly_acceptBypass _ c s
  · exact orderly_trip _ s
  · exact .refl s

/-- A timer's trip, where it is due. -/
theorem orderly_tripIf (p : Prop) [Decidable p] (k : TripCause) (s : State) : Orderly s (if p then trip k s else s) := by
  split
  · exact orderly_trip k s
  · exact .refl s

/-- A cycle start that a named event stands for, where it would cause that event. -/
theorem orderly_cycleIf (b : Bool) (s : State) : Orderly s (if b then cycleStep none s else s) := by
  split
  · exact orderly_cycleStep none s
  · exact .refl s

theorem orderly_enrolWindowRuns (s : State) : Orderly s (enrolWindowRuns s) := by
  unfold enrolWindowRuns
  split
  · exact (orderly_blockCheck _).after (.of_eq rfl rfl rfl rfl rfl rfl)
  · exact .refl s

theorem orderly_holdMinimumEnds (s : State) : Orderly s (holdMinimumEnds s) := by
  unfold holdMinimumEnds
  split
  · exact (orderly_syncLines _ _).after (.lock s _)
  · exact .refl s

/-- The expiries that mark or drop one record. -/
theorem orderly_recordEnds (s : State) :
    Orderly s (attemptExpires s) ∧ Orderly s (hoistStales s) ∧ Orderly s (batchTimerEnds s) := by
  unfold attemptExpires hoistStales batchTimerEnds
  refine ⟨?_, ?_, ?_⟩ <;> split
  all_goals exact .of_eq rfl rfl rfl rfl rfl rfl

theorem orderly_secondStep (s : State) : Orderly s (secondStep s) := by
  apply OrderlyBy.of_eq <;> simp [secondStep]

theorem orderly_testSlotEnds (p : Nat) (seen : SlotSeen) (s : State) : Orderly s (testSlotEnds p seen s) := by
  unfold testSlotEnds
  split
  · exact .refl s
  · split
    · exact .refl s
    · exact .of_bounds (.of_eq rfl rfl rfl rfl) rfl rfl rfl rfl

theorem orderly_testEnds (s : State) : Orderly s (testEnds s) := by
  unfold testEnds
  dsimp only
  split
  · exact .refl s
  · split
    · exact (orderly_postUrgent _ _).after (.of_bounds (.of_eq rfl rfl rfl rfl) rfl rfl rfl rfl)
    · exact .refl s

/-- A storage fault alters the stored CRC, which stays present or absent (R144). -/
theorem orderly_disturb (target : StorageCell) (value : Byte) (s : State) : Orderly s (disturb target value s) := by
  unfold disturb
  (repeat' split)
  · exact orderly_image _ s
  · exact .of_bounds (.of_eq rfl rfl rfl rfl) rfl rfl rfl Option.isSome_map
  · exact .of_bounds (.of_eq rfl rfl rfl rfl) rfl rfl rfl Option.isSome_map
  · exact .refl s

/-! ### The link -/

/-- The transmit path takes a reply or a notice away (R159, R165). -/
theorem orderly_pump (s : State) : Orderly s (pump s) := by
  unfold pump
  split
  · exact .refl s
  · split
    · next r rest hr =>
      exact .of_bounds ⟨by simp [transmit], by simp [transmit, repliesOwed, hr], by simp [transmit], by simp [transmit]⟩
        rfl rfl rfl rfl
    · split
      · next n rest hn =>
        exact .of_bounds ⟨by simp [takeUrgent, transmit], by simp [takeUrgent, transmit, repliesOwed],
          by simp [takeUrgent, transmit, releaseNotices, hn], by simp [takeUrgent, transmit]⟩ rfl rfl rfl rfl
      · split
        · exact .of_bounds ⟨by simp [takeCellNotice, transmit], by simp [takeCellNotice, transmit, repliesOwed],
            by simp [takeCellNotice, transmit], by simp [takeCellNotice, transmit]⟩ rfl rfl rfl rfl
        · exact .refl s

theorem orderly_countFrameError (s : State) : Orderly s (countFrameError s) :=
  .of_bounds ⟨by simp [countFrameError], by simp [countFrameError, repliesOwed], by simp [countFrameError],
    by simp [countFrameError]⟩ rfl rfl rfl rfl

theorem orderly_framer (f : Framer) (s : State) : Orderly s { s with link.framer := f } :=
  .of_bounds ⟨by simp, by simp [repliesOwed], by simp, by simp⟩ rfl rfl rfl rfl

theorem orderly_discardFrame (s : State) : Orderly s (discardFrame s) :=
  (orderly_framer .hunt s).trans (orderly_countFrameError _)

theorem orderly_endAtGap (s : State) : Orderly s (endAtGap s) := by
  unfold endAtGap
  split
  · exact .refl s
  · exact orderly_discardFrame s

/-- A property of the device that every orderly operation keeps, and a further reply while fewer than eight wait. -/
structure OrderlyInvariant (P : State → Prop) : Prop where
  keeps : ∀ {s t : State}, Orderly s t → P s → P t
  answers : ∀ {s t : State}, s.link.replies.length < 8 → OrderlyBy 1 s t → P s → P t

namespace OrderlyInvariant

variable {P : State → Prop} {s t : State}

theorem dispatchLoop (hP : OrderlyInvariant P) (n : Nat) (h : P s) : P (dispatchLoop n s) := by
  induction n generalizing s with
  | zero => exact h
  | succ n ih =>
    unfold Machine.dispatchLoop
    split
    · exact h
    · next r rest hb =>
      split
      · next hr =>
        have hbuf : Orderly s { s with link.buffer := rest } :=
          .of_bounds ⟨by simp [hb], by simp [repliesOwed], by simp, by simp⟩ rfl rfl rfl rfl
        exact ih (hP.answers (s := { s with link.buffer := rest }) (Nat.lt_trans hr.1 (by decide)) (answers_dispatch r _) (hP.keeps hbuf h))
      · exact h

theorem settle (hP : OrderlyInvariant P) (h : P s) : P (settle s) :=
  hP.dispatchLoop _ (hP.keeps (orderly_pump _) (hP.dispatchLoop _ h))

/-- A record handed over is held, replied BUSY, or discarded (R156). -/
theorem arrive (hP : OrderlyInvariant P) (r : Request) (h : P s) : P (arrive r s) := by
  unfold Machine.arrive
  split
  · have hbuf : Orderly s { s with link.buffer := s.link.buffer ++ [r] } :=
      .of_bounds ⟨by simp; omega, by simp [repliesOwed], by simp, by simp⟩ rfl rfl rfl rfl
    exact hP.keeps hbuf h
  · split
    · next hr => exact hP.answers hr (answers_pushReply _ _ _ _ s) h
    · exact hP.keeps (orderly_countFrameError s) h

theorem takeByte (hP : OrderlyInvariant P) (b : Byte) (h : P s) : P (takeByte b s) := by
  have hf (f : Framer) : P { s with link.framer := f } := hP.keeps (orderly_framer f s) h
  unfold Machine.takeByte
  split
  · split
    · exact hf _
    · exact h
  · split
    · exact hf _
    · exact hP.keeps (orderly_discardFrame s) h
  · split <;> exact hf _
  · exact hf _
  · unfold judgeFrame
    dsimp only
    split
    · split
      · exact hP.settle (hP.arrive _ (hf _))
      · exact hf _
    · exact hP.keeps (orderly_countFrameError _) (hf _)

theorem takeChar (hP : OrderlyInvariant P) (ch : RxChar) (h : P s) : P (takeChar s ch) := by
  have ht : P (if ch.gapBefore then endAtGap s else s) := by
    split
    · exact hP.keeps (orderly_endAtGap s) h
    · exact h
  unfold Machine.takeChar
  generalize (if ch.gapBefore then endAtGap s else s) = t at ht ⊢
  dsimp only
  split
  · exact hP.takeByte _ ht
  · split
    · exact ht
    · exact hP.keeps (orderly_discardFrame t) ht

theorem takeChars (hP : OrderlyInvariant P) (chars : List RxChar) (h : P s) : P (takeChars chars s) :=
  List.foldlRecOn chars Machine.takeChar h fun _ ht ch _ => hP.takeChar ch ht

/-! ### Every command, and every step -/

theorem exec (hP : OrderlyInvariant P) {c : Instr} (h : P s) (e : exec c s = .next t) : P t := by
  have hstep {u : State} (e : stepTo u = .next t) (hu : P u) : P t := by
    cases e
    exact hP.settle hu
  have horderly {u : State} (e : stepTo u = .next t) (hu : Orderly s u) : P t := hstep e (hP.keeps hu h)
  obtain ⟨hattempt, hhoist, hbatch⟩ := orderly_recordEnds s
  cases hr : requestOf c with
  | some r =>
    rw [exec_request s hr] at e
    exact hstep e (hP.arrive r h)
  | none =>
    cases c with
    | frameReceived chars => exact hstep e (hP.takeChars chars h)
    | frameAborted chars => exact hstep e (hP.keeps (orderly_endAtGap _) (hP.takeChars chars h))
    | transmitDone => exact horderly e (orderly_frameSent s)
    | softReset =>
      refine horderly e ?_
      split
      · exact orderly_softReset s
      · exact .refl s
    | resetN => exact horderly e (orderly_fullReset s)
    | powerOn => exact horderly e (orderly_fullReset s)
    | inputPinChange line b =>
      refine horderly e ?_
      cases line <;> exact .lock s _
    | driveRunQualified => exact horderly e (orderly_qualifyDriveRun s)
    | brakeSetQualified => exact horderly e (orderly_qualifyBrakeSet s)
    | cycleStart b => exact horderly e (orderly_cycleStep b s)
    | secondTick => exact horderly e (orderly_secondStep s)
    | slotEnd c seen => exact horderly e (orderly_slotStep c seen s)
    | gateOffWatchTimeout => exact horderly e (orderly_cycleIf _ s)
    | confirmTimeout c => exact horderly e (orderly_cycleIf _ s)
    | tunnelTimeout p => exact horderly e (orderly_cycleIf _ s)
    | epochCheck => exact horderly e (orderly_cycleIf _ s)
    | rampComplete => exact horderly e (orderly_cycleIf _ s)
    | enrolWindowExpiry => exact horderly e (orderly_enrolWindowRuns s)
    | bypassTimerExpiry c => exact horderly e (orderly_tripIf _ _ s)
    | blindWaitExpiry c => exact horderly e (orderly_blindWaitEnds c s)
    | rideThroughExpiry => exact horderly e (orderly_rideThroughEnds s)
    | brakeConfirmExpiry => exact horderly e (orderly_tripIf _ _ s)
    | resumeTimerExpiry => exact horderly e (orderly_tripIf _ _ s)
    | holdMinimumExpiry => exact horderly e (orderly_holdMinimumEnds s)
    | attemptEntryExpiry => exact horderly e hattempt
    | freshnessExpiry => exact horderly e hhoist
    | batchTimerExpiry => exact horderly e hbatch
    | selfTestSlotEnd p seen => exact horderly e (orderly_testSlotEnds _ seen s)
    | selfTestEnd => exact horderly e (orderly_testEnds s)
    | storageFault target v => exact horderly e (orderly_disturb target v s)
    | _ => exact absurd hr (by simp [requestOf])

theorem step (hP : OrderlyInvariant P) (h : P s) (e : step s = .next t) : P t := by
  unfold Machine.step at e
  split at e
  · next c rest _ =>
      have hrest : Orderly s { s with pending := rest } := .of_eq rfl rfl rfl rfl rfl rfl
      exact hP.exec (hP.keeps hrest h) e
  · cases e
    have htick : Orderly s (tick s) := .of_eq rfl rfl rfl rfl rfl rfl
    exact hP.keeps htick h

end OrderlyInvariant

/-- At most 3 exchanges are in flight: a reply fits where fewer than 8 wait. -/
theorem listsBounded_invariant : OrderlyInvariant ListsBounded where
  keeps := by
    rintro s t ⟨⟨hb, ho, hu, hh⟩, _⟩ ⟨kb, ko, ku, kh⟩
    rw [openMailboxes_eq] at ko
    unfold repliesOwed at ho
    exact ⟨by omega, by rw [openMailboxes_eq]; omega, by omega, by omega⟩
  answers := by
    rintro s t hr ⟨⟨hb, ho, hu, hh⟩, _⟩ ⟨kb, ko, ku, kh⟩
    have hm := inFlight_le s.rings.mail
    unfold repliesOwed at ho
    exact ⟨by omega, by rw [openMailboxes_eq]; omega, by omega, by omega⟩

theorem modeAgrees_invariant : OrderlyInvariant ModeAgrees := ⟨fun h => h.mode, fun _ h => h.mode⟩

end Sys2Proof.Machine

open Sys2Proof Sys2Proof.Machine

/-- Settles O56: the lists' bounds are kept by every orderly operation. -/
theorem stepKeepsTheListBounds : Obligations.StepKeepsTheListBounds := by
  unfold Obligations.StepKeepsTheListBounds
  intro s t h e
  exact listsBounded_invariant.step h e

/-- Settles O57: what the mode fixes is kept by every orderly operation. -/
theorem stepKeepsTheModeAgreement : Obligations.StepKeepsTheModeAgreement := by
  unfold Obligations.StepKeepsTheModeAgreement
  intro s t h e
  exact modeAgrees_invariant.step h e

end

section
namespace Sys2Proof.Machine
open Sys2Proof

/-! ### The clearing of a trip, and the expiries that mark one record -/

/-- The clearing of TRIP and its cause, by the line's level (R85, R99, R130). -/
theorem clearTrip_quiet {s : State} (h : s.lock.trip = false) : clearTrip s = { s with seq.tripCause := none } := by
  have hlock : { s.lock with trip := false } = s.lock := by rw [← h]
  simp [clearTrip, h, hlock]

theorem clearTrip_lines {s : State} (h : s.lock.trip = true) :
    clearTrip s = postUrgent (.lines s.lock.holdReq false s.lock.driveRun.level s.lock.brakeSet.level)
      { s with seq.tripCause := none, lock.trip := false } := by
  simp [clearTrip, h, postLines]

theorem syncLines_stays {s : State} (hr : s.lock.holdReq = true) (hd : holdDemand s = true) : syncLines false s = s := by
  have hf : followDemand s = s := by rw [followDemand, if_pos hd, if_pos hr]
  unfold syncLines
  simp only [Bool.or_false, hf, and_self, if_true]

theorem syncLines_falls {s : State} (hr : s.lock.holdReq = true) (hm : s.lock.holdMet = true) (hd : holdDemand s = false) :
    syncLines false s = postLines { s with lock.holdReq := false } := by
  have hf : followDemand s = { s with lock.holdReq := false } := by
    rw [followDemand, if_neg (by simp [hd]), if_pos (by simp [hr, hm])]
  unfold syncLines
  simp only [Bool.or_false, hf]
  rw [if_neg (by simp [hr])]

/-- The hold minimum has run and the demand stands: HOLD_REQ stays (R129). -/
theorem holdMinimumEnds_demanded {s : State} (h : holdMinimumDue s = true) (hr : s.lock.holdReq = true)
    (hd : holdDemand s = true) :
    holdMinimumEnds s = { s with lock.holdTimer := none, lock.holdMet := true } :=
  (if_pos h).trans (syncLines_stays hr hd)

/-- The hold minimum has run and the demand has ended: HOLD_REQ falls, with its notice (R129). -/
theorem holdMinimumEnds_released {s : State} (h : holdMinimumDue s = true) (hr : s.lock.holdReq = true)
    (hd : holdDemand s = false) :
    holdMinimumEnds s = postUrgent (.lines false s.lock.trip s.lock.driveRun.level s.lock.brakeSet.level)
      { s with lock.holdTimer := none, lock.holdMet := true, lock.holdReq := false } :=
  (if_pos h).trans (syncLines_falls hr rfl hd)

theorem attemptExpires_cons {s : State} {e : Stamp} {rest : List Stamp} (h : s.seq.attempts = e :: rest) :
    attemptExpires s = if attemptDue s e then { s with seq.attempts := rest } else s := by
  have hdrop (due : Stamp → Bool) :
      (if s.seq.attempts.head?.any due then { s with seq.attempts := s.seq.attempts.drop 1 } else s)
        = if due e then { s with seq.attempts := rest } else s := by
    rw [h]
    rfl
  exact hdrop (attemptDue s)

theorem freshnessDue_iff {s : State} {r : HoistRecord} (hr : s.lock.hoist = some r) :
    freshnessDue s = (r.fresh && decide (cfgFreshness s.store.image * 1000 ≤ (s.gen.timebase - r.stamp).toNat)) := by
  unfold freshnessDue
  rw [hr]
  rfl

/-- Within its own time a hoist status record does not become stale (R122). -/
theorem hoistStales_within {s : State} {r : HoistRecord} (hr : s.lock.hoist = some r)
    (h : (s.gen.timebase - r.stamp).toNat < cfgFreshness s.store.image * 1000) : hoistStales s = s :=
  hoistStales_early (by rw [freshnessDue_iff hr, decide_eq_false (Nat.not_le.2 h), Bool.and_false])

/-- Past its own time a hoist status record is stale, whether it was before or not (R122). -/
theorem hoistStales_past {s : State} {r : HoistRecord} (hr : s.lock.hoist = some r)
    (h : cfgFreshness s.store.image * 1000 ≤ (s.gen.timebase - r.stamp).toNat) :
    hoistStales s = { s with lock.hoist := some { r with fresh := false } } := by
  by_cases hf : r.fresh = true
  · exact hoistStales_due (by rw [freshnessDue_iff hr, hf, decide_eq_true h, Bool.and_self]) hr
  · have hstale : some { r with fresh := false } = s.lock.hoist := by
      rw [hr, ← Bool.eq_false_iff.2 hf]
    rw [hoistStales_early (by rw [freshnessDue_iff hr, Bool.eq_false_iff.2 hf, Bool.false_and]), hstale]

theorem heldCount_posted (s : State) (c : CellRef) :
    heldCount { s.notices with cells := s.notices.cells ++ [{ cell := c, released := false }] } = s.notices.cells.countP (!·.released) + 1 := by
  simp [heldCount, List.countP_append]

/-- The first flag of a record posts its held notice (R19, R168, R169). -/
theorem setFlag_first {f : ReportFlag} {c : CellRef} {s : State} (h : (s.cell c).flags = 0) :
    setFlag f c s = postCellNotice c (s.modCell c fun x => { x with flags := x.flags ||| f.mask }) := if_pos h

theorem setFlag_further {f : ReportFlag} {c : CellRef} {s : State} (h : (s.cell c).flags ≠ 0) :
    setFlag f c s = s.modCell c fun x => { x with flags := x.flags ||| f.mask } := if_neg h

/-- A posted cell notice that fills the batch releases every held one (R169). -/
theorem postCellNotice_full {c : CellRef} {s : State}
    (h : cfgBatchCount s.store.image ≤ s.notices.cells.countP (!·.released) + 1) :
    postCellNotice c s = { s with
      notices.cells := (s.notices.cells ++ [(⟨c, false⟩ : CellNotice)]).map fun n => { n with released := true }
      notices.batchTimer := none } := by
  unfold postCellNotice
  simp only [heldCount_posted, if_pos h]
  rfl

/-- A posted cell notice that leaves the batch open starts the batch timer where it is the only one held (R169). -/
theorem postCellNotice_held {c : CellRef} {s : State}
    (h : s.notices.cells.countP (!·.released) + 1 < cfgBatchCount s.store.image) :
    postCellNotice c s = { s with
      notices.cells := s.notices.cells ++ [⟨c, false⟩]
      notices.batchTimer :=
        if s.notices.cells.countP (!·.released) + 1 = 1 then some s.gen.timebase else s.notices.batchTimer } := by
  unfold postCellNotice
  simp only [heldCount_posted, if_neg (Nat.not_le.2 h)]
  split <;> rfl

end Sys2Proof.Machine

open Sys2Proof Sys2Proof.Machine

/-- Settles O32: both requests clear the trip, and CLEAR_LOCKOUT has emptied the attempt history before. -/
theorem tripIsClearedInStandby : Obligations.TripIsClearedInStandby := by
  unfold Obligations.TripIsClearedInStandby
  intro tag s hs hm
  have hack : exec (.ackTrip tag) s = .next (pump (pushReply 0x0C tag .ok [] (clearTrip s))) :=
    exec_served (op := .ackTrip) rfl hs (by simp [takenIn, hm]) (by simp [serve, serveAckTrip, hm]) (by simpa using hs.1)
  have hclear : exec (.clearLockout tag) s
      = .next (pump (pushReply 0x0D tag .ok [] (clearTrip { s with seq.attempts := [] }))) :=
    exec_served (op := .clearLockout) rfl hs (by simp [takenIn, hm]) (by simp [serve, serveClearLockout, hm])
      (by simpa using hs.1)
  refine ⟨fun ht => ?_, fun ht => ?_⟩
  · rw [hack, hclear, clearTrip_quiet ht, clearTrip_quiet (s := { s with seq.attempts := [] }) ht]
    exact ⟨rfl, rfl⟩
  · rw [hack, hclear, clearTrip_lines ht, clearTrip_lines (s := { s with seq.attempts := [] }) ht]
    exact ⟨rfl, rfl⟩

/-- Settles O38: each expiry by its own time, and a cell notice by the count of held ones. -/
theorem recordTimersExpire : Obligations.RecordTimersExpire := by
  unfold Obligations.RecordTimersExpire
  have hexec {c : Instr} {s u v : State} (e : exec c s = .next (settle u)) (h : u = v) : exec c s = .next (settle v) := h ▸ e
  refine ⟨fun s e rest he => ?_, fun s r hr => ?_, fun s b hb => ?_, fun s b hb hreq => ?_, ?_⟩
  · have ha : attemptDue s e = decide (cfgAttemptWindow s.store.image * 1000000 ≤ (s.gen.timebase - e).toNat) := rfl
    refine ⟨fun h => hexec rfl ?_, fun h => hexec rfl ?_⟩ <;> rw [attemptExpires_cons he, ha]
    · rw [if_pos (decide_eq_true h)]
    · rw [if_neg (by rw [decide_eq_false (Nat.not_le.2 h)]; exact Bool.false_ne_true)]
  · exact ⟨fun h => hexec rfl (hoistStales_past hr h), fun h => hexec rfl (hoistStales_within hr h)⟩
  · have hdue : batchTimerDue s = decide (cfgBatchTimer s.store.image * 1000 ≤ (s.gen.timebase - b).toNat) := by
      rw [batchTimerDue, hb, ranFor_some]
    exact ⟨fun h => hexec rfl (batchTimerEnds_due (hdue.trans (decide_eq_true h))),
      fun h => hexec rfl (batchTimerEnds_early (hdue.trans (decide_eq_false (Nat.not_le.2 h))))⟩
  · have hdue : holdMinimumDue s = decide (cfgHoldMinimum s.store.image * 1000 ≤ (s.gen.timebase - b).toNat) := by
      rw [holdMinimumDue, hb, ranFor_some]
    refine ⟨fun h => hexec rfl (holdMinimumEnds_early (hdue.trans (decide_eq_false (Nat.not_le.2 h)))), fun h => ?_⟩
    have hd := hdue.trans (decide_eq_true h)
    exact ⟨fun hdem => hexec rfl (holdMinimumEnds_demanded hd hreq hdem),
      fun hdem => hexec rfl (holdMinimumEnds_released hd hreq hdem)⟩
  · rintro f c s t rfl
    refine ⟨setFlag_further, fun h0 held hheld => ⟨fun hfull => ?_, fun hopen => ?_⟩⟩ <;> subst hheld <;>
      rw [setFlag_first h0]
    · exact postCellNotice_full hfull
    · exact postCellNotice_held hopen
end

section
namespace Sys2Proof.Machine
open Sys2Proof

/-! ### DRIVE_RUN withdrawn from a RUNNING or HELD campaign (R126) -/

/-- The state in which the qualified withdrawal of DRIVE_RUN has made the open campaign `k` STOPPED (R119, R126). -/
def withdrawn (k : Campaign) (s : State) : State :=
  { s with
    seq.campaign := some { k with style := some .stopped }
    lock := { s.lock with
      driveRun := { pin := s.lock.driveRun.pin, level := false, change := none }
      rideThrough := none
      brakeConfirm := none } }

theorem driveRunDue_iff {s : State} {b : Stamp} (hb : s.lock.driveRun.change = some b) :
    driveRunDue s = true ↔ 1000 ≤ (s.gen.timebase - b).toNat := by
  rw [driveRunDue, hb, ranFor_some, decide_eq_true_iff]

theorem setStyle_some {st : Style} {s : State} {k : Campaign} (hk : s.seq.campaign = some k) :
    setStyle st s = { s with seq.campaign := some { k with style := some st } } := by
  unfold setStyle modCampaign
  rw [hk]
  rfl

theorem toStopped_some {s : State} {k : Campaign} (hk : s.seq.campaign = some k) :
    toStopped s = if s.seq.state = .awaitResume ∨ s.seq.state = .ramp then
        completeCampaign { s with
          seq.campaign := some { k with style := some .stopped }, lock.rideThrough := none, lock.brakeConfirm := none }
      else postOpen { s with
        seq.campaign := some { k with style := some .stopped }, lock.rideThrough := none, lock.brakeConfirm := none } := by
  unfold toStopped
  rw [setStyle_some hk]

/-- From AWAIT_RESUME and RAMP the campaign closes; from the stages before it goes on, with its notice. -/
theorem qualifyDriveRun_withdraws {s : State} {k : Campaign} {b : Stamp} (hb : s.lock.driveRun.change = some b)
    (hdue : 1000 ≤ (s.gen.timebase - b).toNat) (hlevel : s.lock.driveRun.level = true) (hk : s.seq.campaign = some k)
    (hstyle : k.style = some .running ∨ k.style = some .held) :
    qualifyDriveRun s = if s.seq.state = .awaitResume ∨ s.seq.state = .ramp then completeCampaign (withdrawn k s)
      else postOpen (withdrawn k s) := by
  have hqualify : qualify s.lock.driveRun = { pin := s.lock.driveRun.pin, level := false, change := none } := by
    simp [qualify, hlevel]
  rw [qualifyDriveRun_due ((driveRunDue_iff hb).2 hdue), hqualify]
  unfold driveRunChanged
  rw [if_neg (by simp), if_pos (by simpa [State.style, hk] using hstyle)]
  exact toStopped_some
    (s := { s with lock.driveRun := { pin := s.lock.driveRun.pin, level := false, change := none } }) hk

theorem completeCampaign_rings {s : State} (hh : s.seq.heldHalt = false) : (completeCampaign s).rings = s.rings := by
  have hready (u : State) : (setSeq .ready u).rings = u.rings := by simp [setSeq]
  unfold completeCampaign
  simp [hh, hready]

end Sys2Proof.Machine

open Sys2Proof Sys2Proof.Machine

/-- Settles O41: the campaign becomes STOPPED, and from AWAIT_RESUME and RAMP its close follows. -/
theorem withdrawnRunDemandClosesTheCampaign : Obligations.WithdrawnRunDemandClosesTheCampaign := by
  unfold Obligations.WithdrawnRunDemandClosesTheCampaign
  refine ⟨fun s k hq hh hk hstyle hst ⟨b, hb, hdue⟩ hlevel => ?_, fun s k b hq hk hstyle hst hb hdue hlevel => ?_⟩
  · have hkeep : Keeps (withdrawn k s) (completeCampaign (withdrawn k s)) := keeps_completeCampaign _
    have hexec : exec .driveRunQualified s = .next (completeCampaign (withdrawn k s)) := by
      have e := qualifyDriveRun_withdraws hb hdue hlevel hk hstyle
      rw [if_pos hst] at e
      exact congrArg Host.Outcome.next ((congrArg settle e).trans (hkeep.settle hq))
    have he := completeCampaign_entry (s := withdrawn k s) rfl hh
    have hrings : (completeCampaign (withdrawn k s)).rings = s.rings := completeCampaign_rings (s := withdrawn k s) hh
    refine ⟨_, hexec, ?_⟩
    generalize completeCampaign (withdrawn k s) = t at he hkeep hrings
    obtain ⟨hseq, hplans, hcell, hqueue, hstore, hlock, hposts⟩ := he
    rw [hseq, hlock]
    exact ⟨rfl, rfl, rfl, rfl, hposts, rfl, rfl, rfl, rfl, rfl, rfl, rfl, rfl, rfl, rfl, hcell, hqueue, hplans, hstore, hrings,
      hkeep.gen, hkeep.pending⟩
  · have hkeep : Keeps (withdrawn k s) (postOpen (withdrawn k s)) := keeps_postOpen _
    have hstage : ¬(s.seq.state = .awaitResume ∨ s.seq.state = .ramp) := by
      rintro (h | h) <;> simp [h] at hst
    have hexec : exec .driveRunQualified s = .next (postOpen (withdrawn k s)) := by
      have e := qualifyDriveRun_withdraws hb hdue hlevel hk hstyle
      rw [if_neg hstage] at e
      exact congrArg Host.Outcome.next ((congrArg settle e).trans (hkeep.settle hq))
    exact ⟨_, hexec, postOpen_seq _, postOpen_lock _, postOpen_posts (s := withdrawn k s) rfl, postOpen_cells _,
      postOpen_queue _, postOpen_plans _, postOpen_store _, postOpen_rings _, postOpen_gen _, postOpen_pending _⟩
end

section
/-! PROOFS. The trips of the sequencer: by the four timers, and by a reported BYPASS_FAIL, which trips with a campaign open or
with none. -/

namespace Sys2Proof.Machine

open Sys2Proof

/-! ### Timers that trip (R89, R90, R98, R127, R131) -/

theorem bypassTimerDue_iff {s : State} {c : CellRef} {st : Stamp} {a : Ability}
    (h : (s.cell c).isolation = some (.bypass st)) (ha : (s.cell c).ability = some a) :
    bypassTimerDue s c = true
      ↔ cfgBypassTimeout s.store.image a.bypassKind * 1000 ≤ (s.gen.timebase - st).toNat := by
  simp only [bypassTimerDue, bypassTimeout, h, ha, decide_eq_true_eq]
  rfl

theorem brakeConfirmDue_iff {s : State} {b : Stamp} (hb : s.lock.brakeConfirm = some b) :
    brakeConfirmDue s = true ↔ cfgBrakeConfirm s.store.image * 1000 ≤ (s.gen.timebase - b).toNat := by
  rw [brakeConfirmDue, hb, ranFor_some, decide_eq_true_iff]

theorem resumeTimerDue_iff {s : State} {b : Stamp} (hb : s.lock.resumeTimer = some b) :
    resumeTimerDue s = true ↔ cfgResumeTimeout s.store.image * 1000 ≤ (s.gen.timebase - b).toNat := by
  rw [resumeTimerDue, hb, ranFor_some, decide_eq_true_iff]

theorem exec_trips {c : Instr} {s u : State} {cause : TripCause} (hq : Quiet s) (e : exec c s = .next (settle u))
    (hu : u = trip cause s) : exec c s = .next (trip cause s) := by
  rw [e, hu, (keeps_trip cause s).settle hq]

theorem exec_bypassTimer_trips {s : State} {d : CellRef} {st : Stamp} {a : Ability} (hq : Quiet s)
    (hi : s.seq.state = .isolate) (h : (s.cell d).isolation = some (.bypass st)) (ha : (s.cell d).ability = some a)
    (hdue : cfgBypassTimeout s.store.image a.bypassKind * 1000 ≤ (s.gen.timebase - st).toNat) :
    exec (.bypassTimerExpiry d) s = .next (trip .bypassTimeout s) :=
  exec_trips hq rfl (bypassTimerEnds_due ((bypassTimerDue_iff h ha).2 hdue) hi)

/-- With blind assume off the blind wait's expiry trips (R90). -/
theorem exec_blindWait_trips {s : State} {d : CellRef} {st : Stamp} (hq : Quiet s) (hi : s.seq.state = .isolate)
    (h : (s.cell d).isolation = some (.blind st)) (hdue : cfgBlindWait s.store.image * 1000 ≤ (s.gen.timebase - st).toNat)
    (ha : cfgBlindAssume s.store.image = false) : exec (.blindWaitExpiry d) s = .next (trip .blindRefused s) :=
  exec_trips hq rfl ((blindWaitEnds_due ((blindWaitDue_iff h).2 hdue) hi).trans (if_neg (by simp [ha])))

theorem exec_brakeConfirm_trips {s : State} {b : Stamp} (hq : Quiet s) (hb : s.lock.brakeConfirm = some b)
    (hdue : cfgBrakeConfirm s.store.image * 1000 ≤ (s.gen.timebase - b).toNat) :
    exec .brakeConfirmExpiry s = .next (trip .brakeNoConfirm s) :=
  exec_trips hq rfl (brakeConfirmEnds_due ((brakeConfirmDue_iff hb).2 hdue))

theorem exec_resumeTimer_trips {s : State} {b : Stamp} (hq : Quiet s) (hs : s.seq.state = .awaitResume)
    (hb : s.lock.resumeTimer = some b) (hdue : cfgResumeTimeout s.store.image * 1000 ≤ (s.gen.timebase - b).toNat) :
    exec .resumeTimerExpiry s = .next (trip .resumeTimeout s) :=
  exec_trips hq rfl (resumeTimerEnds_due ((resumeTimerDue_iff hb).2 hdue) hs)

/-- The four timers, by the state and the time in which each runs out. -/
theorem exec_stageTimer_trips {s : State} {c : Instr} {cause : TripCause} (hq : Quiet s)
    (h : (∃ d st a, c = .bypassTimerExpiry d ∧ cause = .bypassTimeout ∧ s.seq.state = .isolate
        ∧ (s.cell d).isolation = some (.bypass st) ∧ (s.cell d).ability = some a
        ∧ cfgBypassTimeout s.store.image a.bypassKind * 1000 ≤ (s.gen.timebase - st).toNat)
      ∨ (∃ d st, c = .blindWaitExpiry d ∧ cause = .blindRefused ∧ s.seq.state = .isolate
        ∧ (s.cell d).isolation = some (.blind st) ∧ cfgBlindWait s.store.image * 1000 ≤ (s.gen.timebase - st).toNat
        ∧ cfgBlindAssume s.store.image = false)
      ∨ (∃ st, c = .brakeConfirmExpiry ∧ cause = .brakeNoConfirm ∧ s.lock.brakeConfirm = some st
        ∧ cfgBrakeConfirm s.store.image * 1000 ≤ (s.gen.timebase - st).toNat
        ∧ s.seq.state ∈ [SeqState.block, .isolate, .plan, .rephase, .awaitResume, .ramp])
      ∨ (∃ st, c = .resumeTimerExpiry ∧ cause = .resumeTimeout ∧ s.lock.resumeTimer = some st
        ∧ cfgResumeTimeout s.store.image * 1000 ≤ (s.gen.timebase - st).toNat
        ∧ s.seq.state = .awaitResume)) :
    exec c s = .next (trip cause s)
      ∧ s.seq.state ∈ [SeqState.block, .isolate, .plan, .rephase, .awaitResume, .ramp] := by
  obtain ⟨d, st, a, rfl, rfl, hi, hiso, habi, hdue⟩ | ⟨d, st, rfl, rfl, hi, hiso, hdue, hblind⟩
    | ⟨st, rfl, rfl, hb, hdue, hst⟩ | ⟨st, rfl, rfl, hb, hdue, hst⟩ := h
  · exact ⟨exec_bypassTimer_trips hq hi hiso habi hdue, by simp [hi]⟩
  · exact ⟨exec_blindWait_trips hq hi hiso hdue hblind, by simp [hi]⟩
  · exact ⟨exec_brakeConfirm_trips hq hb hdue, hst⟩
  · exact ⟨exec_resumeTimer_trips hq hst hb hdue, by simp [hst]⟩

/-- In its stages a campaign trips, and no exchange is in flight that a trip would end (R42, R98). -/
theorem stage_trips {s : State} (h : s.seq.state ∈ [SeqState.block, .isolate, .plan, .rephase, .awaitResume, .ramp]) :
    ¬(s.seq.state = .off ∨ s.seq.state = .tripped ∨ s.seq.state = .locked) ∧ s.seq.state ≠ .ready := by
  refine ⟨?_, fun hr => by simp [hr] at h⟩
  rintro (hs | hs | hs) <;> simp [hs] at h

/-! ### What a trip leaves of the rings, and a trip without a campaign -/

theorem closeCampaign_stays (o : CampaignOutcome) (s : State) :
    (closeCampaign o s).2.seq.state = s.seq.state ∧ (closeCampaign o s).2.seq.heldHalt = s.seq.heldHalt := by
  unfold closeCampaign
  split <;> exact ⟨rfl, rfl⟩

/-- Outside READY a trip with no HALT held leaves the mailboxes and the replies (R42). -/
theorem trip_rings_link {k : TripCause} {s : State} (hh : s.seq.heldHalt = false) (hr : s.seq.state ≠ .ready) :
    (trip k s).rings = s.rings ∧ (trip k s).link = s.link := by
  by_cases hs : s.seq.state = .off ∨ s.seq.state = .tripped ∨ s.seq.state = .locked
  · rw [trip_stopped k hs]
    exact ⟨rfl, rfl⟩
  · have hd : (discardPending (dropStage { s with seq.tripCause := some k })).seq.heldHalt = s.seq.heldHalt
        ∧ (discardPending (dropStage { s with seq.tripCause := some k })).seq.state = s.seq.state := by
      simp [discardPending, modCampaign, dropStage_seq]
    obtain ⟨hstate, hheld⟩ := closeCampaign_stays (.tripped k) (discardPending (dropStage { s with seq.tripCause := some k }))
    obtain ⟨hrings, hlink⟩ := setSeq_not_ready .tripped (s := (closeCampaign (.tripped k)
      (discardPending (dropStage { s with seq.tripCause := some k }))).2) (by rw [hstate, hd.2]; exact hr)
    rw [trip_running k hs, enterStopped_eq (by rw [hheld, hd.1, hh]), syncLines_rings, postCampaign_rings, syncLines_link,
      postCampaign_link, hrings, hlink]
    simp

/-- What a trip writes with no HALT held, with a campaign open or with none (R98). -/
structure TripFacts (cause : TripCause) (s t : State) : Prop where
  state : t.seq.state = .tripped
  tripCause : t.seq.tripCause = some cause
  scale : t.seq.scale = 0
  campaign : t.seq.campaign = none
  watch : t.seq.watch = none
  closed : ∀ k, s.seq.campaign = some k → t.seq.history = historyWith s (closedWith s k (.tripped cause))
  unclosed : s.seq.campaign = none → t.seq.history = s.seq.history
  attempts : t.seq.attempts = s.seq.attempts
  plans : t.plans = { pending := none, inForce := s.plans.inForce }
  cell : ∀ c : CellRef, t.cell c = { s.cell c with isolation := none }
  queue : t.queue = s.queue
  store : t.store = s.store
  gen : t.gen = s.gen
  pending : t.pending = s.pending
  trip : t.lock.trip = true
  holdReq : t.lock.holdReq = true

theorem trip_facts {cause : TripCause} {s : State} (hh : s.seq.heldHalt = false)
    (hs : ¬(s.seq.state = .off ∨ s.seq.state = .tripped ∨ s.seq.state = .locked)) : TripFacts cause s (trip cause s) := by
  have hkeep := keeps_trip cause s
  cases hk : s.seq.campaign with
  | some k =>
    obtain ⟨hseq, hplans, hcell, hqueue, hstore, ⟨timer, met, hlock⟩, _, _⟩ := trip_entry (cause := cause) hk hh hs
    constructor
    case closed => intro k' hk'; rw [hk] at hk'; cases hk'; rw [hseq]
    case unclosed => intro hn; rw [hk] at hn; cases hn
    case trip | holdReq => rw [hlock]
    case cell => exact hcell
    case gen => exact hkeep.gen
    case pending => exact hkeep.pending
    case plans => exact hplans
    case queue => exact hqueue
    case store => exact hstore
    all_goals rw [hseq]
  | none =>
    have hc : (discardPending (dropStage { s with seq.tripCause := some cause })).seq
        = { s.seq with tripCause := some cause, watch := none, rephase := none } := by
      simp [discardPending, modCampaign, dropStage_seq, hk]
    have hd (c : CellRef) : (discardPending (dropStage { s with seq.tripCause := some cause })).cell c
        = { s.cell c with isolation := none } := by
      rw [cell_of_cells (discardPending_cells _), dropStage_cell]
      rfl
    have e := trip_running cause hs
    rw [closeCampaign_none _ (by rw [hc]; exact hk)] at e
    obtain ⟨hseq, hplans, hcells, hqueue, hstore, ⟨timer, met, hlock⟩, _, _⟩ :=
      enterStopped_entry (s := discardPending (dropStage { s with seq.tripCause := some cause })) none
        (by rw [hc]; exact hh) (.inl rfl)
    rw [← e] at hseq hplans hcells hqueue hstore hlock
    rw [hc] at hseq
    constructor
    case closed => intro k' hk'; rw [hk] at hk'; cases hk'
    case unclosed => intro; rw [hseq]
    case trip | holdReq => rw [hlock]
    case cell => exact fun c => (cell_of_cells hcells c).trans (hd c)
    case gen => exact hkeep.gen
    case pending => exact hkeep.pending
    case plans => rw [hplans]; simp [discardPending, modCampaign]
    case queue => rw [hqueue]; simp
    case store => rw [hstore]; simp
    case campaign => rw [hseq]; exact hk
    all_goals rw [hseq]

/-! ### A reported BYPASS_FAIL (R68, R70) -/

/-- From `s` to `t` the sequencer has tripped by the BYPASS_FAIL of a cell; before and after the trip the cell's record, the
queue and the cell notices alone are written. -/
structure FailTrips (c : CellRef) (s t : State) : Prop where
  via : ∃ w, OnlyCell c { s with queue := w.queue } w ∧ OnlyCell c { trip .bypassFail w with queue := t.queue } t

/-- The sequencer's states in which a trip acts. -/
abbrev Running (s : State) : Prop := ¬(s.seq.state = .off ∨ s.seq.state = .tripped ∨ s.seq.state = .locked)

/-- What such a trip leaves of the rest of the device. -/
structure FailTripFacts (c : CellRef) (s t : State) : Prop where
  state : t.seq.state = .tripped
  tripCause : t.seq.tripCause = some .bypassFail
  scale : t.seq.scale = 0
  campaign : t.seq.campaign = none
  watch : t.seq.watch = none
  closed : ∀ k, s.seq.campaign = some k → t.seq.history = historyWith s (closedWith s k (.tripped .bypassFail))
  unclosed : s.seq.campaign = none → t.seq.history = s.seq.history
  attempts : t.seq.attempts = s.seq.attempts
  plans : t.plans = { pending := none, inForce := s.plans.inForce }
  others : ∀ d : CellRef, d ≠ c → t.cell d = { s.cell d with isolation := none }
  store : t.store = s.store
  gen : t.gen = s.gen
  pending : t.pending = s.pending
  trip : t.lock.trip = true
  holdReq : t.lock.holdReq = true

theorem FailTrips.facts {c : CellRef} {s t : State} (h : FailTrips c s t) (hh : s.seq.heldHalt = false) (hs : Running s) :
    FailTripFacts c s t := by
  obtain ⟨w, hw, ht⟩ := h
  have hf := trip_facts (cause := .bypassFail) (s := w) (by rw [hw.seq]; exact hh) (by rw [hw.seq]; exact hs)
  have hseq : t.seq = (Machine.trip .bypassFail w).seq := ht.seq
  have hlock : t.lock = (Machine.trip .bypassFail w).lock := ht.lock
  have hwseq : w.seq = s.seq := hw.seq
  have hwstore : w.store = s.store := hw.store
  have hrecord (k : Campaign) (o : CampaignOutcome) : closedWith w k o = closedWith s k o := by
    simp [openRecord, hwseq, hwstore]
  constructor
  case state => rw [hseq]; exact hf.state
  case tripCause => rw [hseq]; exact hf.tripCause
  case scale => rw [hseq]; exact hf.scale
  case campaign => rw [hseq]; exact hf.campaign
  case watch => rw [hseq]; exact hf.watch
  case closed =>
    intro k hk
    rw [hseq, hf.closed k (by rw [hwseq]; exact hk), hrecord, historyWith, hwseq]
  case unclosed =>
    intro hk
    rw [hseq, hf.unclosed (by rw [hwseq]; exact hk), hwseq]
  case attempts => rw [hseq, hf.attempts, hwseq]
  case plans => exact ht.plans.trans (hf.plans.trans (by rw [hw.plans]))
  case others => exact fun d hd => (ht.others d hd).trans ((hf.cell d).trans (by rw [hw.others d hd]; rfl))
  case store => exact ht.store.trans (hf.store.trans hwstore)
  case gen => exact ht.gen.trans (hf.gen.trans hw.gen)
  case pending => exact ht.pending.trans (hf.pending.trans hw.pending)
  case trip => rw [hlock]; exact hf.trip
  case holdReq => rw [hlock]; exact hf.holdReq

/-- After the trip the intake goes on with the cell's own record at most. -/
theorem FailTrips.next {c : CellRef} {s t u : State} (h : FailTrips c s t) (hu : OnlyCell c { t with queue := u.queue } u) :
    FailTrips c s u := by
  obtain ⟨w, hw, ht⟩ := h
  have hq : OnlyCell c { trip .bypassFail w with queue := u.queue } { t with queue := u.queue } :=
    ⟨ht.others, ht.seq, ht.lock, ht.plans, ht.store, ht.gen, ht.pending, rfl, ht.posts⟩
  exact ⟨w, hw, hq.trans hu⟩

theorem FailTrips.of_trip {c : CellRef} {s w : State} (h : OnlyCell c { s with queue := w.queue } w) :
    FailTrips c s (trip .bypassFail w) := ⟨w, h, (OnRecord.refl c _).toOnlyCell⟩

/-- The fault intake's routes of a BYPASS_FAIL by the cell's service state (R66, R68, R70). -/
theorem takeFault_bypassFail_queued {detail : Byte} {named : Bool} {c : CellRef} {s : State} (hoff : s.seq.state ≠ .off)
    (hs : (s.cell c).service.working = true) :
    takeFault .bypassFail detail named c s = queuedRoute .bypassFail 0 c s := by
  have hd : recordedDetail s.store.image .bypassFail detail = 0 := rfl
  unfold takeFault
  rw [if_neg hoff]
  rcases Bool.or_eq_true_iff.1 hs with h | h
  · simp only [of_decide_eq_true h, hd]
  · simp only [of_decide_eq_true h, hd]
    exact if_neg (by simp [goesDirect])

theorem takeFault_bypassFail_awaiting {detail : Byte} {named : Bool} {c : CellRef} {s : State} (hoff : s.seq.state ≠ .off)
    (hs : (s.cell c).service = .awaiting) : takeFault .bypassFail detail named c s = trip .bypassFail s := by
  unfold takeFault
  rw [if_neg hoff]
  simp only [hs]
  rfl

theorem takeFault_bypassFail_further {detail : Byte} {named : Bool} {c : CellRef} {s : State} (hoff : s.seq.state ≠ .off)
    (hs : (s.cell c).service = .faulted ∨ (s.cell c).service = .bypassed ∨ (s.cell c).service = .lockedOut) :
    takeFault .bypassFail detail named c s = trip .bypassFail (furtherFault .bypassFail 0 c s) := by
  have hd : recordedDetail s.store.image .bypassFail detail = 0 := rfl
  unfold takeFault
  rw [if_neg hoff]
  rcases hs with hs | hs | hs <;> simp only [hs, hd] <;> rfl

theorem told_tripped {c : CellRef} {s : State} (h : s.seq.state = .tripped) : told c s = s := by
  rw [told, h]

/-- The queued route of a BYPASS_FAIL trips between the cell's fault and its queue entry (R66, R68). -/
theorem queuedRoute_bypassFail {c : CellRef} {s : State} (hh : s.seq.heldHalt = false) (hs : Running s) :
    FailTrips c s (queuedRoute .bypassFail 0 c s)
      ∧ (queuedRoute .bypassFail 0 c s).queue = s.queue ++ [entryNow .bypassFail 0 c s]
      ∧ (queuedRoute .bypassFail 0 c s).cell c = { s.cell c with
        service := .faulted
        offset := none
        dcDebounce := 0
        fault := some (freshFault .bypassFail 0 s.now)
        faultedClose := baseClose s c
        isolation := none
        flags := (s.cell c).flags ||| ReportFlag.stateChanged.mask ||| ReportFlag.faultSeen.mask } := by
  have hm : OnRecord c s (makeFaulted .bypassFail 0 c s) := .setCell c _ s
  have hmc : (makeFaulted .bypassFail 0 c s).cell c = { s.cell c with
      service := .faulted
      offset := none
      dcDebounce := 0
      fault := some (freshFault .bypassFail 0 s.now)
      faultedClose := baseClose s c } := cell_modCell_same s c _
  have hf := trip_facts (cause := .bypassFail) (s := makeFaulted .bypassFail 0 c s) (by rw [hm.seq]; exact hh)
    (by rw [hm.seq]; exact hs)
  have htrips : FailTrips c s (trip .bypassFail (makeFaulted .bypassFail 0 c s)) :=
    .of_trip ⟨hm.others, hm.seq, hm.lock, hm.plans, hm.store, hm.gen, hm.pending, rfl, hm.posts⟩
  generalize hu : trip .bypassFail (makeFaulted .bypassFail 0 c s) = u at hf htrips
  have hq : OnRecord c (appendEntry .bypassFail 0 c u)
      (setFlag .faultSeen c (setFlag .stateChanged c (appendEntry .bypassFail 0 c u))) :=
    (OnRecord.setFlag _ c _).after (.setFlag _ c _)
  have e : queuedRoute .bypassFail 0 c s
      = setFlag .faultSeen c (setFlag .stateChanged c (appendEntry .bypassFail 0 c u)) := by
    unfold queuedRoute
    dsimp only
    rw [if_pos rfl, hu, told_tripped]
    rw [hq.seq]
    exact hf.state
  have hqueue : (queuedRoute .bypassFail 0 c s).queue = u.queue ++ [entryNow .bypassFail 0 c u] := by
    rw [e, hq.queue]
    rfl
  refine ⟨htrips.next ?_, ?_, ?_⟩
  · rw [hqueue, e]
    exact hq.toOnlyCell
  · rw [hqueue, hf.queue, hm.queue, entryNow, hf.gen, hm.gen]
  · rw [e, setFlag_cell_same, setFlag_cell_same, show (appendEntry .bypassFail 0 c u).cell c = u.cell c from rfl, hf.cell, hmc]

/-! ### The slot that reports a BYPASS_FAIL -/

theorem FailTrips.after {c : CellRef} {s u t : State} (h : FailTrips c u t) (hu : OnlyCell c s u) : FailTrips c s t := by
  obtain ⟨w, hw, ht⟩ := h
  have hq : OnlyCell c { s with queue := w.queue } { u with queue := w.queue } :=
    ⟨hu.others, hu.seq, hu.lock, hu.plans, hu.store, hu.gen, hu.pending, rfl, hu.posts⟩
  exact ⟨w, hq.trans hw, ht⟩

theorem furtherFault_keeps_reportAge (k : FaultClass) (detail : Byte) (c : CellRef) (s : State) :
    ((furtherFault k detail c s).cell c).reportAge = (s.cell c).reportAge := by
  cases h : (s.cell c).fault with
  | none => rw [furtherFault_first h, setFlag_cell_same, cell_modCell_same]
  | some f =>
    by_cases hk : f.first = k ∨ f.further &&& k.mask ≠ 0
    · rw [furtherFault_absorbed h hk]
    · obtain ⟨h1, h2⟩ := not_or.1 hk
      rw [furtherFault_new_cell h h1 (not_not.1 h2)]

/-- Of a cell FAULTED in the same step the DC window check writes the record and the queue alone (R64, R69). -/
theorem dcCheck_faulted {c : CellRef} {x : Cell} {dc : Nat} {s : State} (hoff : s.seq.state ≠ .off)
    (hf : (s.cell c).service = .faulted) :
    OnRecord c { s with queue := (dcCheck c x dc s).queue } (dcCheck c x dc s)
      ∧ ((dcCheck c x dc s).cell c).report = (s.cell c).report
      ∧ ((dcCheck c x dc s).cell c).reportAge = (s.cell c).reportAge := by
  have hm (f : Cell → Cell) (hr : (f (s.cell c)).report = (s.cell c).report)
      (ha : (f (s.cell c)).reportAge = (s.cell c).reportAge) :
      OnRecord c { s with queue := (s.modCell c f).queue } (s.modCell c f)
        ∧ ((s.modCell c f).cell c).report = (s.cell c).report
        ∧ ((s.modCell c f).cell c).reportAge = (s.cell c).reportAge := by
    rw [cell_modCell_same]
    exact ⟨.modCell c f s, hr, ha⟩
  unfold dcCheck
  split
  · split
    · exact hm _ rfl rfl
    · split
      · rw [faultNow, takeFault_further (by exact hoff) (by simp) (by rw [cell_modCell_same]; exact .inl hf)]
        obtain ⟨_, _, hreport⟩ := furtherFault_keeps_service .dcWindow (recordedDetail s.store.image .dcWindow 0) c
          (s.modCell c fun x => { x with dcDebounce := 0 })
        have hage := furtherFault_keeps_reportAge .dcWindow (recordedDetail s.store.image .dcWindow 0) c
          (s.modCell c fun x => { x with dcDebounce := 0 })
        rw [cell_modCell_same] at hreport hage
        refine ⟨?_, hreport, hage⟩
        exact (furtherFault_only .dcWindow _ c _).after (OnRecord.modCell c (fun x => { x with dcDebounce := 0 })
          { s with queue := (furtherFault .dcWindow (recordedDetail s.store.image .dcWindow 0) c
            (s.modCell c fun x => { x with dcDebounce := 0 })).queue })
      · exact hm _ rfl rfl
  · exact ⟨.refl c s, rfl, rfl⟩

theorem takeReported_bypassFail {c : CellRef} {r : Response} (h : r.classCode = 7) (s : State) :
    takeReported c r s = takeFault .bypassFail r.detail (namedActive s c) c s := by
  rw [takeReported_ne (by simp [h]), h]
  rfl

theorem expected_installed {c : CellRef} {s : State} (h : s.expected c = true) : (s.cell c).service ≠ .vacant := by
  simp only [State.expected, Bool.and_eq_true] at h
  exact (installed_iff s c).1 h.1.2

theorem relinkStep_keeps (c : CellRef) (s : State) :
    ((relinkStep c s).cell c).fault = (s.cell c).fault ∧ ((relinkStep c s).cell c).strikes = (s.cell c).strikes := by
  unfold relinkStep
  dsimp only
  split
  · exact ⟨rfl, rfl⟩
  · split
    · rw [cell_modCell_same]
      exact ⟨rfl, rfl⟩
    · split
      · rw [setFlag_cell_same, cell_modCell_same]
        exact ⟨rfl, rfl⟩
      · rw [enterLink_cell_same]
        exact ⟨rfl, rfl⟩

/-- What link health leaves of an AWAITING cell's record by a failing response (R49, R59). -/
structure StaysAwaiting (x y : Cell) : Prop where
  service : y.service = .awaiting
  fault : y.fault = x.fault
  strikes : y.strikes = x.strikes
  link : x.link ≠ .trial → x.link ≠ .severed → y.link = x.link ∧ y.flags = x.flags

theorem linkValid_failing {c : CellRef} {r : Response} {s : State} (h0 : r.classCode ≠ 0) (hm : r.message = .none)
    (hw : (s.cell c).service = .awaiting) : StaysAwaiting (s.cell c) ((linkValid c r s).cell c) := by
  have hsame : StaysAwaiting (s.cell c) (s.cell c) := ⟨hw, rfl, rfl, fun _ _ => ⟨rfl, rfl⟩⟩
  cases hl : (s.cell c).link with
  | dark | confirm =>
    have e : linkValid c r s = s := by simp only [linkValid, hl, hm]
    rwa [e]
  | trial =>
    rw [linkValid_failed hl h0, failAttempt_cell]
    exact ⟨hw, rfl, rfl, fun ht _ => absurd hl ht⟩
  | enrolled =>
    have e : linkValid c r s = s.modCell c lowerMiss := by simp only [linkValid, hl]
    rw [e, cell_modCell_same]
    exact ⟨hw, rfl, rfl, fun _ _ => ⟨rfl, rfl⟩⟩
  | severed =>
    have e : linkValid c r s = relinkStep c s := by simp only [linkValid, hl]
    obtain ⟨hfault, hstrikes⟩ := relinkStep_keeps c s
    rw [e]
    exact ⟨(relinkStep_service c s).trans hw, hfault, hstrikes, fun _ hn => absurd hl hn⟩
  | rejected => rwa [linkValid_ended (.inl hl)]
  | unsteady => rwa [linkValid_ended (.inr hl)]

section

variable {c : CellRef} {seen : SlotSeen} {r : Response} {s : State} (ha : Answers c seen r s)
  (hh : s.seq.heldHalt = false) (hs : Running s)

include ha hh hs

/-- After the trip the rest of the slot reads nothing: no bypass timer runs, and no cell is watched (R98). -/
theorem slotStep_fails {t : State} (ht : dcCheck c (s.cell c) r.dc (takeReported c r (linkedState c r s)) = t)
    (hf : FailTrips c s t) : slotStep c seen s = t := by
  have hfacts := hf.facts hh hs
  rw [slotStep_valid ha, takeValid_eq ha.2.1, ht, confirmBypass_elsewhere c _ r (by rw [hfacts.state]; simp)]
  exact blockCheck_unwatched r hfacts.watch

variable (h7 : r.classCode = 7) (hm : r.message = .none)

include h7 hm

/-- A working cell becomes FAULTED with its queue entry (R66, R68). -/
theorem slotStep_fails_working (hl : (s.cell c).link = .enrolled) (hw : (s.cell c).service.working = true) :
    FailTrips c s (slotStep c seen s)
      ∧ ((slotStep c seen s).cell c).report = some (reportOf r s.gen.timebase)
      ∧ ((slotStep c seen s).cell c).reportAge = 0
      ∧ (insideWindow s.store.image r.dc = true →
        ((slotStep c seen s).cell c).service = .faulted ∧ ((slotStep c seen s).cell c).offset = none
        ∧ ((slotStep c seen s).cell c).fault = some (freshFault .bypassFail 0 s.gen.timebase)
        ∧ (slotStep c seen s).queue = s.queue ++ [entryNow .bypassFail 0 c s]) := by
  have ho := heardState_only c r s
  have hcell := heardState_cell c r s
  have hu : linkedState c r s = heardState c r s := by rw [linkedState_enrolled hl, hm, takeChunk_none]
  have hrun : Running (heardState c r s) := by rw [Running, ho.seq]; exact hs
  obtain ⟨htrips, hqueue, hq⟩ := queuedRoute_bypassFail (c := c) (s := heardState c r s) (by rw [ho.seq]; exact hh) hrun
  have hroute : takeReported c r (linkedState c r s) = queuedRoute .bypassFail 0 c (heardState c r s) := by
    rw [hu, takeReported_bypassFail h7, takeFault_bypassFail_queued (fun h => hrun (.inl h)) (by rw [hcell]; exact hw)]
  have hfacts := htrips.facts (by rw [ho.seq]; exact hh) hrun
  generalize queuedRoute .bypassFail 0 c (heardState c r s) = v at htrips hqueue hq hroute hfacts
  obtain ⟨hdc, hreport, hage⟩ := dcCheck_faulted (c := c) (x := s.cell c) (dc := r.dc) (s := v)
    (by rw [hfacts.state]; simp) (by rw [hq])
  have hall := (htrips.next hdc.toOnlyCell).after ho.toOnlyCell
  rw [slotStep_fails ha hh hs (by rw [hroute]) hall]
  refine ⟨hall, by rw [hreport, hq, hcell]; rfl, by rw [hage, hq, hcell]; rfl, fun hd => ?_⟩
  rw [dcCheck_inside hl hw (by rw [hfacts.store, ho.store]; exact hd), cell_modCell_same, modCell_queue, hq, hqueue, ho.queue]
  exact ⟨rfl, rfl, by rw [ho.now]; rfl, by rw [entryNow, ho.gen]⟩

/-- A cell that has left work by a fault takes the class as a further one (R69, R70). -/
theorem slotStep_fails_further (hl : (s.cell c).link = .enrolled)
    (hv : (s.cell c).service = .faulted ∨ (s.cell c).service = .bypassed ∨ (s.cell c).service = .lockedOut) :
    FailTrips c s (slotStep c seen s)
      ∧ ((slotStep c seen s).cell c).report = some (reportOf r s.gen.timebase)
      ∧ ((slotStep c seen s).cell c).reportAge = 0 := by
  have ho := heardState_only c r s
  have hcell := heardState_cell c r s
  have hu : linkedState c r s = heardState c r s := by rw [linkedState_enrolled hl, hm, takeChunk_none]
  have hrun : Running (heardState c r s) := by rw [Running, ho.seq]; exact hs
  have hidle : (s.cell c).service.working = false := by rcases hv with hv | hv | hv <;> rw [hv] <;> rfl
  have hf := furtherFault_only .bypassFail 0 c (heardState c r s)
  have htrips : FailTrips c s (trip .bypassFail (furtherFault .bypassFail 0 c (heardState c r s))) :=
    (FailTrips.of_trip hf.toOnlyCell).after ho.toOnlyCell
  have hroute : dcCheck c (s.cell c) r.dc (takeReported c r (linkedState c r s))
      = trip .bypassFail (furtherFault .bypassFail 0 c (heardState c r s)) := by
    rw [hu, takeReported_bypassFail h7, takeFault_bypassFail_further (fun h => hrun (.inl h)) (by rw [hcell]; exact hv),
      dcCheck_idle _ _ hidle]
  rw [slotStep_fails ha hh hs hroute htrips]
  obtain ⟨_, _, hreport⟩ := furtherFault_keeps_service .bypassFail 0 c (heardState c r s)
  have hage := furtherFault_keeps_reportAge .bypassFail 0 c (heardState c r s)
  have hend := (trip_facts (cause := .bypassFail) (s := furtherFault .bypassFail 0 c (heardState c r s))
    (by rw [hf.seq]; exact ho.seq ▸ hh) (by rw [hf.seq]; exact hrun)).cell c
  rw [hend]
  exact ⟨htrips, by rw [hreport, hcell]; rfl, by rw [hage, hcell]; rfl⟩

/-- An AWAITING cell's fault is not recorded: its slot trips alone (R68). -/
theorem slotStep_fails_awaiting (hw : (s.cell c).service = .awaiting) :
    FailTrips c s (slotStep c seen s)
      ∧ (slotStep c seen s).queue = s.queue
      ∧ (slotStep c seen s).cell c = { (linkValid c r (reportedState c r s)).cell c with isolation := none } := by
  have ho := linkedState_only c r s
  have hcell := linkedState_cell c r s
  have hawait : ((linkedState c r s).cell c).service = .awaiting := by
    rw [hcell]
    exact (linkValid_failing (by simp [h7]) hm (by rw [reportedState_cell]; exact hw)).service
  have hrun : Running (linkedState c r s) := by rw [Running, ho.seq]; exact hs
  have htrips : FailTrips c s (trip .bypassFail (linkedState c r s)) :=
    (FailTrips.of_trip (OnRecord.refl c _).toOnlyCell).after ho
  have hroute : dcCheck c (s.cell c) r.dc (takeReported c r (linkedState c r s))
      = trip .bypassFail (linkedState c r s) := by
    rw [takeReported_bypassFail h7, takeFault_bypassFail_awaiting (fun h => hrun (.inl h)) hawait,
      dcCheck_idle _ _ (by rw [hw]; rfl)]
  have hend := trip_facts (cause := .bypassFail) (s := linkedState c r s) (by rw [ho.seq]; exact hh) hrun
  rw [slotStep_fails ha hh hs hroute htrips]
  exact ⟨htrips, hend.queue.trans ho.queue, by rw [hend.cell, hcell]⟩

/-- In every service state the slot trips, and leaves the report. -/
theorem slotStep_fails_reported (hcell : (s.cell c).link = .enrolled ∨ (s.cell c).service = .awaiting) :
    FailTrips c s (slotStep c seen s)
      ∧ ((slotStep c seen s).cell c).report = some (reportOf r s.gen.timebase)
      ∧ ((slotStep c seen s).cell c).reportAge = 0 := by
  have hlink (hv : (s.cell c).service ≠ .awaiting) : (s.cell c).link = .enrolled := hcell.resolve_right hv
  cases hv : (s.cell c).service with
  | vacant => exact absurd hv (expected_installed ha.1)
  | active | reserve =>
    obtain ⟨hf, hreport, hage, _⟩ := slotStep_fails_working ha hh hs h7 hm (hlink (by simp [hv])) (by rw [hv]; rfl)
    exact ⟨hf, hreport, hage⟩
  | faulted | bypassed | lockedOut =>
    exact slotStep_fails_further ha hh hs h7 hm (hlink (by simp [hv])) (by simp [hv])
  | awaiting =>
    obtain ⟨hf, _, hc⟩ := slotStep_fails_awaiting ha hh hs h7 hm hv
    obtain ⟨_, hreport, hage⟩ := linkValid_only c r (reportedState c r s)
    rw [reportedState_cell] at hreport hage
    rw [hc]
    exact ⟨hf, hreport, hage⟩

end

end Sys2Proof.Machine

open Sys2Proof Sys2Proof.Machine

/-- Settles O35: each timer is a trip of an open campaign; a reported BYPASS_FAIL trips by the cell's service state. -/
theorem stageTimersTrip : Obligations.StageTimersTrip := by
  unfold Obligations.StageTimersTrip
  refine ⟨fun s k c cause hq hh hk hcause => ?_, fun c seen r s hq hh ha h7 hm hcell ⟨hoff, htripped, hlocked⟩ => ?_⟩
  · obtain ⟨hexec, hstage⟩ := exec_stageTimer_trips hq hcause
    obtain ⟨hrun, hready⟩ := stage_trips hstage
    have hrings := (trip_rings_link (k := cause) hh hready).1
    have hkeep := keeps_trip cause s
    obtain ⟨hseq, hplans, hcell, hqueue, hstore, ⟨timer, met, hlock⟩, hposts, _⟩ := trip_entry (cause := cause) hk hh hrun
    refine ⟨_, hexec, ?_⟩
    generalize trip cause s = t at hrings hkeep hseq hplans hcell hqueue hstore hlock hposts
    rw [hseq, hlock]
    exact ⟨rfl, rfl, rfl, rfl, rfl, hposts, rfl, rfl, rfl, hplans, rfl, rfl, rfl, rfl, rfl, rfl, rfl, rfl, rfl, rfl, hcell,
      hqueue, hstore, hrings, hkeep.gen, hkeep.pending⟩
  · have hs : Running s := by
      rintro (h | h | h)
      exacts [hoff h, htripped h, hlocked h]
    obtain ⟨hf, hreport, hage⟩ := slotStep_fails_reported ha hh hs h7 hm hcell
    obtain ⟨hstate, hcause, hscale, hcamp, _, hclosed, hunclosed, hatt, hplans, hothers, hstore, hgen, hpend, htrip, hreq⟩ :=
      hf.facts hh hs
    refine ⟨_, exec_slotEnd hq c seen, hstate, hcause, hscale, hcamp, hclosed, hunclosed, hatt, hplans, htrip, hreq, hstore,
      hgen, hpend, hreport, hage, hothers, fun hw hd => ?_, fun hv => ?_⟩
    · have hl : (s.cell c).link = .enrolled := hcell.resolve_right fun hv => by simp [hv, Service.working] at hw
      obtain ⟨_, _, _, hin⟩ := slotStep_fails_working ha hh hs h7 hm hl hw
      exact hin hd
    · obtain ⟨_, hqueue, hc⟩ := slotStep_fails_awaiting ha hh hs h7 hm hv
      have hstays := linkValid_failing (r := r) (s := reportedState c r s) (by simp [h7]) hm
        (by rw [reportedState_cell]; exact hv)
      rw [reportedState_cell] at hstays
      rw [hc]
      refine ⟨hstays.service, hstays.fault, hqueue, hstays.strikes, hstays.link, fun ht => ?_⟩
      rw [linkValid_failed (by rw [reportedState_cell]; exact ht) (by simp [h7]), failAttempt_cell, reportedState_cell]
      exact ⟨rfl, rfl, rfl⟩
end

section
/-! PROOFS. The enrol window's expiry, which lets the first BLOCK of a START campaign end: into ISOLATE, or through it into
PLAN with the plan that the roster gives. -/

namespace Sys2Proof.Machine

open Sys2Proof

/-! ### The plan does not rest on the isolation timers -/

theorem computePlan_unisolated {s t : State} (hc : ∀ c, t.cell c = { s.cell c with isolation := none })
    (hs : t.store = s.store) (prefer : Bool) (tag : Byte) : computePlan t prefer tag = computePlan s prefer tag := by
  have hcell : t.cell = fun c => { s.cell c with isolation := none } := funext hc
  have hcand : isCandidate t = isCandidate s := by unfold isCandidate; rw [hcell, hs]; rfl
  have hcands : candidates t = candidates s := by unfold candidates; rw [hcand]
  have hkey : activeKey t prefer = activeKey s prefer := by unfold activeKey; rw [hcell]
  have hbefore : comesBefore t prefer = comesBefore s prefer := by unfold comesBefore; rw [hkey, hcell]
  have hinsert : insertCandidate t prefer = insertCandidate s prefer :=
    funext fun c => funext fun l => insertCandidate_congr prefer hbefore c l
  have hsel : selected t prefer = selected s prefer := by unfold selected sortCandidates; rw [hinsert, hcands]
  have hcount : activeCount t = activeCount s := by unfold activeCount; rw [hcands]
  have hsum : dcSum t = dcSum s := by unfold dcSum; rw [hcell]; rfl
  have hdes : deselectedCells t = deselectedCells s := by unfold deselectedCells; rw [hcell]
  unfold computePlan
  rw [hcount, hsel, hsum, hdes, hs]

/-! ### The entries into ISOLATE and PLAN, with their notices -/

theorem isolateState_posts {s : State} {k : Campaign} (hk : s.seq.campaign = some k) : Posts s (isolateState s)
    [.campaign .isolate s.seq.tripCause (some (recordAt s { k with issue := none } .isolate))] := by
  have hseq : (setSeq .isolate (dropStage s)).seq = { s.seq with
      state := .isolate, scale := 0, campaign := some { k with issue := none }, watch := none, rephase := none } := by
    rw [setSeq_seq, dropStage_seq, hk]
    rfl
  have hp := postOpen_posts (s := setSeq .isolate (dropStage s)) (by rw [hseq])
  have hr : openRecord (setSeq .isolate (dropStage s)) { k with issue := none }
      = recordAt s { k with issue := none } .isolate := by simp [openRecord]
  rw [hr, setSeq_state, hseq] at hp
  exact posts_of_notices hp (by simp)

/-- The beginning of the isolations posts nothing. -/
theorem enterIsolate_posts {s : State} {k : Campaign} (hk : s.seq.campaign = some k)
    (hf : ∃ d ∈ k.set, (s.cell d).service = .faulted) : Posts s (enterIsolate s)
      [.campaign .isolate s.seq.tripCause (some (recordAt s { k with issue := none } .isolate))] := by
  obtain ⟨d, hd⟩ := hf
  have hne : faultedInSet (isolateState s) ≠ [] := List.ne_nil_of_mem ((mem_faultedInSet_isolateState hk).2 hd)
  have e : enterIsolate s = (faultedInSet (isolateState s)).foldl beginIsolation (isolateState s) := if_neg hne
  obtain ⟨cells, hcells⟩ := foldl_beginIsolation_eq (faultedInSet (isolateState s)) (isolateState s)
  rw [e, hcells]
  exact isolateState_posts hk

/-- What an entry into PLAN writes with a plan found (R92). -/
structure PlanFound (k : Campaign) (p : Plan) (s t : State) : Prop where
  seq : t.seq = { s.seq with
    state := .plan, scale := 0, lastTag := s.seq.lastTag + 1, watch := none, rephase := none
    campaign := some { k with issue := none, pendingTag := some (s.seq.lastTag + 1) } }
  plans : t.plans = { pending := some p, inForce := s.plans.inForce }
  cell : ∀ c : CellRef, t.cell c = { s.cell c with isolation := none }
  queue : t.queue = s.queue
  posts : Posts s t [.campaign .plan s.seq.tripCause
    (some (recordAt s { k with issue := none, pendingTag := some (s.seq.lastTag + 1) } .plan))]

theorem enterPlan_found {s : State} {k : Campaign} {p : Plan} (hk : s.seq.campaign = some k)
    (hp : computePlan s (decide (k.kind ≠ .replan)) (s.seq.lastTag + 1) = some p) : PlanFound k p s (enterPlan s) := by
  have hseq : (setSeq .plan (dropStage s)).seq = { s.seq with
      state := .plan, scale := 0, campaign := some { k with issue := none }, watch := none, rephase := none } := by
    rw [setSeq_seq, dropStage_seq, hk]
    rfl
  have hcell (c : CellRef) : (setSeq .plan (dropStage s)).cell c = { s.cell c with isolation := none } := by
    rw [cell_of_cells (setSeq_cells _ _), dropStage_cell]
  have hrest : (setSeq .plan (dropStage s)).queue = s.queue ∧ (setSeq .plan (dropStage s)).store = s.store
      ∧ (setSeq .plan (dropStage s)).plans = s.plans ∧ (setSeq .plan (dropStage s)).notices = s.notices := by simp
  have hprefer : (s.seq.campaign.map fun k => k.kind.prefersActive).getD true = decide (k.kind ≠ .replan) := by
    rw [hk]
    exact prefersActive_eq k.kind
  obtain ⟨hqueue, hstore, hplans, hnotices⟩ := hrest
  unfold enterPlan
  dsimp only
  rw [hprefer, computePlan_unisolated hcell hstore, hp]
  dsimp only
  generalize setSeq .plan (dropStage s) = u at hseq hcell hqueue hstore hplans hnotices
  generalize hw : ({ modCampaign (fun k => { k with pendingTag := some (s.seq.lastTag + 1) }) u with
    plans.pending := some p, seq.lastTag := s.seq.lastTag + 1 } : State) = w
  have hws : w.seq = { s.seq with
      state := .plan, scale := 0, lastTag := s.seq.lastTag + 1, watch := none, rephase := none
      campaign := some { k with issue := none, pendingTag := some (s.seq.lastTag + 1) } } := by
    rw [← hw]
    simp [modCampaign, hseq]
  have hwc : w.cells = u.cells ∧ w.queue = u.queue ∧ w.store = u.store ∧ w.notices = u.notices := by
    rw [← hw]
    exact ⟨rfl, rfl, rfl, rfl⟩
  obtain ⟨hcells, hwqueue, hwstore, hwnotices⟩ := hwc
  refine ⟨(postOpen_seq w).trans hws, ?_, fun c => ?_, (postOpen_queue w).trans (hwqueue.trans hqueue), ?_⟩
  · rw [postOpen_plans, ← hw, ← hplans]
    rfl
  · rw [cell_of_cells (postOpen_cells w), cell_of_cells hcells]
    exact hcell c
  · have hposts := postOpen_posts (s := w) (by rw [hws])
    have hr : openRecord w { k with issue := none, pendingTag := some (s.seq.lastTag + 1) }
        = recordAt s { k with issue := none, pendingTag := some (s.seq.lastTag + 1) } .plan := by
      simp [openRecord, hws, hwstore, hstore]
    rw [hr, hws] at hposts
    exact posts_of_notices hposts (hwnotices.trans hnotices)

/-! ### The window's expiry -/

/-- The device with the enrol window run. -/
def windowRun (s : State) : State := { s with seq.enrolRun := true }

theorem exec_enrolWindow {s : State} {k : Campaign} (hs : s.seq.state = .block) (hk : s.seq.campaign = some k)
    (hkind : k.kind = .start) (hit : k.iteration = 1) (hrun : s.seq.enrolRun = false)
    (hdue : cfgEnrolWindow s.store.image * 1000 ≤ (s.gen.timebase - k.opened).toNat) :
    exec .enrolWindowExpiry s = .next (settle (blockCheck (windowRun s))) := by
  have hholds : enrolWindowHolds s = true := (enrolWindowHolds_iff hk).2 ⟨hkind, hit, hrun⟩
  have hranFor : ranFor s (s.seq.campaign.map Campaign.opened) (cfgEnrolWindow s.store.image * 1000) = true := by
    rw [hk, Option.map_some, ranFor_some, decide_eq_true_iff]
    exact hdue
  have hwindow : enrolWindowDue s = true := by simp only [enrolWindowDue, hs, hholds, hranFor, decide_true, Bool.and_self]
  exact congrArg (fun u => Host.Outcome.next (settle u)) (enrolWindowRuns_due hwindow)

theorem windowRun_holds {s : State} {k : Campaign} (hk : s.seq.campaign = some k) : enrolWindowHolds (windowRun s) = false := by
  rw [Bool.eq_false_iff, ne_eq, enrolWindowHolds_iff (s := windowRun s) hk]
  exact fun h => nomatch h.2.2

/-- The device as BLOCK ends: the window run, and no cell watched. -/
def unwatched (w : Watch) (s : State) : State :=
  { s with seq := { s.seq with enrolRun := true, watch := some { w with cells := [] } } }

theorem unwatched_seq (w : Watch) (s : State) :
    (unwatched w s).seq = { s.seq with enrolRun := true, watch := some { w with cells := [] } } := rfl

theorem exec_enrolWindow_ends {s : State} {k : Campaign} {w : Watch} (hq : Quiet s) (hs : s.seq.state = .block)
    (hk : s.seq.campaign = some k) (hkind : k.kind = .start) (hit : k.iteration = 1) (hrun : s.seq.enrolRun = false)
    (hw : s.seq.watch = some w) (hdue : cfgEnrolWindow s.store.image * 1000 ≤ (s.gen.timebase - k.opened).toNat)
    (h1 : 1 ≤ w.starts) (hgone : ∀ c ∈ w.cells, (s.cell c).service ≠ .active ∨ (s.cell c).link = .severed) :
    exec .enrolWindowExpiry s = .next (enterIsolate (unwatched w s)) := by
  have hends : blockCheck (windowRun s) = enterIsolate (unwatched w s) := blockCheck_ends (s := windowRun s) hw hs h1
    (fun c hc ⟨hactive, hlink⟩ => (hgone c hc).elim (fun h => h hactive) hlink) (windowRun_holds hk)
  have hquiet : Quiet (unwatched w s) := hq
  rw [exec_enrolWindow hs hk hkind hit hrun hdue, hends, (keeps_enterIsolate (unwatched w s)).settle hquiet]

end Sys2Proof.Machine

open Sys2Proof Sys2Proof.Machine

/-- Settles O37: BLOCK goes on while its watch has not ended, and else ISOLATE is entered, and passed where no cell of the
set is FAULTED. -/
theorem enrolWindowLetsBlockEnd : Obligations.EnrolWindowLetsBlockEnd := by
  unfold Obligations.EnrolWindowLetsBlockEnd
  intro s k w hs hk hkind hit hrun hw hdue
  refine ⟨fun hwait => ?_, fun hq h1 hgone => ⟨fun hf => ?_, fun hf p hp => ?_⟩⟩
  · rw [exec_enrolWindow hs hk hkind hit hrun hdue, blockCheck_filters (s := windowRun s) hw (hwait.imp_right .inl)]
    rfl
  · have he := enterIsolate_entry (s := unwatched w s) hk hf
    refine ⟨_, exec_enrolWindow_ends hq hs hk hkind hit hrun hw hdue h1 hgone, ?_⟩
    rw [he.seq]
    refine ⟨rfl, rfl, rfl, enterIsolate_posts (s := unwatched w s) hk hf, he.queue, he.plans, fun d hd hfaulted => ?_,
      fun d hd => ?_⟩
    · exact (he.cell d).trans (if_pos ⟨hd, hfaulted⟩)
    · exact (he.cell d).trans (if_neg fun h => hd.elim (fun hn => hn h.1) fun hn => hn h.2)
  · have hseq := isolateState_seq (s := unwatched w s) hk
    rw [unwatched_seq] at hseq
    have hcell (d : CellRef) : (isolateState (unwatched w s)).cell d = { s.cell d with isolation := none } :=
      isolateState_cell (unwatched w s) d
    have hstore : (isolateState (unwatched w s)).store = s.store := by simp [isolateState, unwatched]
    have hplans : (isolateState (unwatched w s)).plans = s.plans := by simp [isolateState, unwatched]
    have hqueue : (isolateState (unwatched w s)).queue = s.queue := by simp [isolateState, unwatched]
    have hposts := isolateState_posts (s := unwatched w s) hk
    have hfound : computePlan (isolateState (unwatched w s)) (decide (k.kind ≠ .replan)) (s.seq.lastTag + 1) = some p := by
      rw [computePlan_unisolated hcell hstore, hkind]
      exact hp
    refine ⟨_, exec_enrolWindow_ends hq hs hk hkind hit hrun hw hdue h1 hgone, ?_⟩
    rw [enterIsolate_passes (s := unwatched w s) hk hf]
    generalize isolateState (unwatched w s) = u at hseq hcell hstore hplans hqueue hposts hfound
    have he := enterPlan_found (s := u) (k := { k with issue := none }) (p := p) (by rw [hseq])
      (by rw [show u.seq.lastTag = s.seq.lastTag by rw [hseq]]; exact hfound)
    have hplanned := he.posts
    rw [hseq] at hplanned
    rw [he.seq, hseq]
    refine ⟨rfl, rfl, by rw [he.plans, hplans], rfl, rfl, ?_, fun d => ?_, he.queue.trans hqueue⟩
    · have hr (k : Campaign) (st : SeqState) : recordAt u k st = recordAt s k st := by simp only [recordAt, hstore]
      rw [hr] at hplanned
      exact posts_of_notices (posts_append hposts hplanned) rfl
    · rw [he.cell, hcell]
end

section
/-! PROOFS. The openings of a RECOVER and a REPLAN campaign: what the reply list and the mailboxes are left with, what the
opening writes with the drive at rest, and the trip that stands in its place where the settings have changed. -/

namespace Sys2Proof.Machine

open Sys2Proof

/-! ### A reply, and the replies of exchanges that end -/

theorem pump_takes_reply {s : State} (h : s.link.replies ≠ []) : ∃ l, pump s = { s with link := l } := by
  unfold pump
  split
  · exact ⟨s.link, rfl⟩
  · split
    · exact ⟨_, rfl⟩
    · next hnil => exact absurd hnil h

theorem pump_replies {s u : State} {l : List LinkRecord} (hl : u.link = { s.link with replies := s.link.replies ++ l })
    (hg : u.gen = s.gen) : Replies s (pump u) l := by
  refine ⟨fun ht => ?_, fun r rest ht hr => ?_⟩
  · rw [pump_busy (by rw [hl]; exact ht), hl]
    exact ⟨rfl, rfl⟩
  · have e : pump u = transmit r { u with link.replies := rest } := by
      have hfree : u.link.transmitting = none := by rw [hl]; exact ht
      have hhead : u.link.replies = r :: rest := by rw [hl]; exact hr
      unfold pump
      rw [hfree, hhead]
    rw [e, ← hg]
    exact ⟨rfl, rfl⟩

/-- A step that ends with its own reply: after those of the exchanges it has ended, and with nothing else but the link
touched. -/
theorem pump_pushReply {s v : State} {l : List LinkRecord} (t tag : Byte) (code : ReplyCode) (body : List Byte)
    (hl : v.link = { s.link with replies := s.link.replies ++ l }) (hg : v.gen = s.gen) :
    ∃ k, pump (pushReply t tag code body v) = { v with link := k }
      ∧ Replies s { v with link := k } (l ++ [replyRecord t tag code body]) := by
  obtain ⟨k, hk⟩ := pump_takes_reply (s := pushReply t tag code body v) (by simp [pushReply])
  have hr := pump_replies (s := s) (u := pushReply t tag code body v) (l := l ++ [replyRecord t tag code body])
    (by simp [pushReply, hl, List.append_assoc]) hg
  refine ⟨k, hk, ?_⟩
  rw [hk] at hr
  exact hr

/-- The ABORTED reply of a ring's exchange in flight (R42). -/
abbrev abortedReply (s : State) (p : Phase) : List LinkRecord :=
  (s.rings.mail.get p).toList.map fun x => replyRecord 0x13 x.tag .aborted []

theorem endExchange_aborted (p : Phase) (s : State) :
    (endExchange p .aborted s).link = { s.link with replies := s.link.replies ++ abortedReply s p }
      ∧ (endExchange p .aborted s).rings.mail = s.rings.mail.set p none := by
  cases h : s.rings.mail.get p with
  | none =>
    have e : endExchange p .aborted s = s := by unfold endExchange; rw [h]
    rw [e, abortedReply, h, Rings.set_get h]
    simp
  | some x =>
    rw [endExchange_some _ h, abortedReply, h]
    exact ⟨rfl, rfl⟩

theorem abortedReplies_eq (s : State) :
    abortedReplies s = abortedReply s .a ++ abortedReply s .b ++ abortedReply s .c := by
  have hone (p : Phase) : (([p].filterMap fun p => s.rings.mail.get p).map fun x => replyRecord 0x13 x.tag .aborted [])
      = abortedReply s p := by
    cases h : s.rings.mail.get p <;> simp [abortedReply, h]
  rw [← hone, ← hone, ← hone, ← List.map_append, ← List.map_append, ← List.filterMap_append, ← List.filterMap_append]
  rfl

/-- The exchanges in flight end in ring order (R42, log entry 40). -/
theorem abortExchanges_link (s : State) :
    (abortExchanges s).link = { s.link with replies := s.link.replies ++ abortedReplies s } := by
  have ha := endExchange_aborted .a s
  have hb := endExchange_aborted .b (endExchange .a .aborted s)
  have hc := endExchange_aborted .c (endExchange .b .aborted (endExchange .a .aborted s))
  have e : abortExchanges s = endExchange .c .aborted (endExchange .b .aborted (endExchange .a .aborted s)) := rfl
  rw [e, hc.1, hb.1, ha.1, abortedReplies_eq]
  simp [abortedReply, hb.2, ha.2, Rings.get_set]

theorem setSeq_link_ready {st : SeqState} {s : State} (h : s.seq.state = .ready) (hst : st ≠ .ready) :
    (setSeq st s).link = { s.link with replies := s.link.replies ++ abortedReplies s } := by
  rw [← abortExchanges_link]
  simp [setSeq, h, hst]

/-! ### What a BLOCK entry leaves of the link and of the rings -/

theorem blockStyle_rings_link (b : Bool) (s : State) :
    (blockStyle b s).rings = s.rings ∧ (blockStyle b s).link = s.link ∧ (blockStyle b s).seq.state = s.seq.state := by
  unfold blockStyle decideStyle restyle
  (repeat' split) <;> exact ⟨by simp, by simp, rfl⟩

/-- A BLOCK entry, or the trip in its place, with no HALT held ends the exchanges in flight in READY, and no other. -/
theorem enterBlock_rings_link (b : Bool) {s : State}
    (hh : s.seq.heldHalt = false ∨ s.store.storedCrc = some (crc16 s.store.image)) :
    (enterBlock b s).rings = (setSeq .block (dropStage s)).rings
      ∧ (enterBlock b s).link = (setSeq .block (dropStage s)).link := by
  by_cases hm : s.store.storedCrc = some (crc16 s.store.image)
  · have hmatch : settingsMatch (setSeq .block (dropStage s)) = true := by
      rw [settingsMatch_iff]
      simpa using hm
    obtain ⟨hrings, hlink, _⟩ := blockStyle_rings_link b (setSeq .block (dropStage s))
    unfold enterBlock
    simp only [hmatch, if_true, syncLines_rings, syncLines_link, postOpen_rings, postOpen_link]
    exact ⟨hrings, hlink⟩
  · have hheld : (postOpen (setSeq .block (dropStage s))).seq.heldHalt = false := by
      rw [postOpen_seq, setSeq_seq, dropStage_seq]
      exact hh.resolve_right hm
    have hstate : (postOpen (setSeq .block (dropStage s))).seq.state ≠ .ready := by
      rw [postOpen_seq, setSeq_state]
      simp
    rw [enterBlock_corrupt b hm, (trip_rings_link hheld hstate).1, (trip_rings_link hheld hstate).2, postOpen_rings,
      postOpen_link]
    exact ⟨rfl, rfl⟩

/-- A BLOCK entry with no hold mark: HOLD_REQ follows the demand that has ended (R129). -/
theorem enterBlock_unmarked {b : Bool} {s : State} (hm : s.store.storedCrc = some (crc16 s.store.image))
    (h : (styled b s).lock.holdMark = false) : (enterBlock b s).lock.holdReq = holdAfterDemand (styled b s) := by
  have hmatch : settingsMatch (setSeq .block (dropStage s)) = true := by
    rw [settingsMatch_iff]
    simpa using hm
  obtain ⟨_, _, hstate⟩ := blockStyle_rings_link b (setSeq .block (dropStage s))
  unfold enterBlock
  simp only [hmatch, if_true]
  generalize hw : ({ styled b s with
    seq.watch := some { cells := watchedCells (styled b s), starts := 0 } } : State) = w
  have hwl : w.lock = (styled b s).lock := by rw [← hw]
  have hws : w.seq.state = .block := by rw [← hw]; exact hstate
  have hdemand : holdDemand { postOpen w with lock.trip := (postOpen w).lock.trip || false } = false := by
    rw [Bool.eq_false_iff, ne_eq, holdDemand_iff]
    simp [hws, hwl, h]
  rw [syncLines_lock, followDemand_off_demand_lock hdemand]
  simp [holdAfterDemand, hwl]

/-! ### A campaign opens at rest (R79, R86) -/

/-- The device with the record of a campaign of a kind open, before the entry into BLOCK. -/
def openedState (kind : CampaignKind) (s : State) : State :=
  { dropCampaign s with
    seq.campaign := some (newCampaign kind s)
    seq.lastNumber := numberAfter s.seq.lastNumber
    lock.holdMark := kind.opensHeld }

theorem openCampaign_eq (kind : CampaignKind) (s : State) :
    openCampaign kind s = enterBlock true (openedState kind s) := rfl

/-- At rest the first BLOCK entry decides STOPPED (R86). -/
theorem styled_at_rest {s : State} {k : Campaign} (hk : s.seq.campaign = some k) (hd : s.lock.driveRun.level = false) :
    styled true s = setStyle .stopped (setSeq .block (dropStage s)) := by
  have hc : (setSeq .block (dropStage s)).seq.campaign = some { k with issue := none } := by
    rw [setSeq_seq, dropStage_seq, hk]
    rfl
  have hl : (setSeq .block (dropStage s)).lock.driveRun.level = false := by simpa [dropStage_lock] using hd
  have hdecided : decideStyle k.kind (setSeq .block (dropStage s)) = setStyle .stopped (setSeq .block (dropStage s)) :=
    if_pos (by rw [hl]; rfl)
  rw [← hdecided]
  unfold styled blockStyle
  rw [hc]
  rfl

/-- The record of a campaign that has opened at rest. -/
abbrev restCampaign (kind : CampaignKind) (s : State) : Campaign where
  number := numberAfter s.seq.lastNumber
  kind := kind
  style := some .stopped
  iteration := 1
  set := s.queue.map QueueEntry.cell
  opened := s.gen.timebase
  pendingTag := none
  issue := none

/-- What the opening of a campaign writes with the drive at rest and the settings unchanged. -/
structure OpensAtRest (kind : CampaignKind) (s t : State) : Prop where
  seq : t.seq = { s.seq with
    state := .block, scale := 0, campaign := some (restCampaign kind s), lastNumber := numberAfter s.seq.lastNumber
    watch := some { cells := watchedCells s, starts := 0 }, rephase := none, enrolRun := false }
  plans : t.plans = s.plans
  cell : ∀ c : CellRef, t.cell c = { s.cell c with isolation := none }
  queue : t.queue = s.queue
  store : t.store = s.store
  gen : t.gen = s.gen
  pending : t.pending = s.pending
  trip : t.lock.trip = s.lock.trip
  holdMark : t.lock.holdMark = kind.opensHeld
  holdReq : t.lock.holdReq = if kind.opensHeld = true then true else holdAfterDemand s
  lines : t.lock.driveRun = s.lock.driveRun ∧ t.lock.brakeSet = s.lock.brakeSet
  posts : Posts s t ([.campaign .block s.seq.tripCause (some (recordAt s (restCampaign kind s) .block))] ++ lineChange s t)

theorem openCampaign_opens (kind : CampaignKind) {s : State} (hd : s.lock.driveRun.level = false)
    (hm : s.store.storedCrc = some (crc16 s.store.image)) : OpensAtRest kind s (openCampaign kind s) := by
  have hkeep := keeps_openCampaign kind s
  obtain ⟨st, ⟨hseq, hplans, hcell, hqueue, hstore, ⟨req, timer, met, hlock, hmark⟩, htrip, _, _, hposts, _⟩, hstyled, _⟩ :=
    enterBlock_entry (s := openedState kind s) true rfl hm
  have hst : styled true (openedState kind s) = setStyle .stopped (setSeq .block (dropStage (openedState kind s))) :=
    styled_at_rest (s := openedState kind s) rfl hd
  have hsl : (styled true (openedState kind s)).lock
      = { (openedState kind s).lock with resumeTimer := none, rampCount := 0 } := by
    rw [hst, setStyle_lock, setSeq_lock, dropStage_lock]
  have hrecord : st = some .stopped := by
    rw [hst, setStyle_some (k := { newCampaign kind s with issue := none })
      (by rw [setSeq_seq, dropStage_seq]; rfl)] at hstyled
    exact (congrArg (fun x => x.bind Campaign.style) hstyled).symm
  subst hrecord
  have hreq : (openCampaign kind s).lock.holdReq = if kind.opensHeld = true then true else holdAfterDemand s := by
    rw [openCampaign_eq]
    by_cases hopens : kind.opensHeld = true
    · rw [hlock, if_pos hopens]
      exact hmark (by rw [hsl]; exact hopens)
    · rw [enterBlock_unmarked (s := openedState kind s) hm (by rw [hsl]; exact Bool.eq_false_iff.2 hopens),
        if_neg hopens, holdAfterDemand, hsl]
      rfl
  rw [openCampaign_eq] at hkeep hreq ⊢
  refine ⟨hseq, hplans, hcell, hqueue, hstore, hkeep.gen, hkeep.pending, htrip, ?_, hreq, ⟨hkeep.driveRun, hkeep.brakeSet⟩,
    hposts⟩
  rw [hlock, hsl]
  rfl

/-- Over changed settings the opening is a trip (R86). -/
structure OpensCorrupt (kind : CampaignKind) (s t : State) : Prop where
  corrupt : CorruptTrip s t kind 1 none (s.queue.map QueueEntry.cell) (numberAfter s.seq.lastNumber) s.gen.timebase
  lastNumber : t.seq.lastNumber = numberAfter s.seq.lastNumber
  attempts : t.seq.attempts = s.seq.attempts
  queue : t.queue = s.queue
  cell : ∀ c : CellRef, t.cell c = { s.cell c with isolation := none }
  gen : t.gen = s.gen
  pending : t.pending = s.pending

theorem openCampaign_corrupt (kind : CampaignKind) {s : State} (hh : s.seq.heldHalt = false)
    (hm : s.store.storedCrc ≠ some (crc16 s.store.image)) : OpensCorrupt kind s (openCampaign kind s) := by
  have hkeep := keeps_openCampaign kind s
  rw [openCampaign_eq, enterBlock_corrupt (s := openedState kind s) true hm] at hkeep ⊢
  have hcell (c : CellRef) : (postOpen (setSeq .block (dropStage (openedState kind s)))).cell c
      = { s.cell c with isolation := none } := by
    rw [cell_of_cells (postOpen_cells _), cell_of_cells (setSeq_cells _ _), dropStage_cell]
    rfl
  generalize hw : postOpen (setSeq .block (dropStage (openedState kind s))) = w at hkeep hcell ⊢
  have hseq : w.seq = { s.seq with
      state := .block, scale := 0, campaign := some { newCampaign kind s with issue := none }, watch := none
      rephase := none, enrolRun := false, lastNumber := numberAfter s.seq.lastNumber } := by
    rw [← hw, postOpen_seq, setSeq_seq, dropStage_seq]
    rfl
  have hrest : w.store = s.store ∧ w.plans = s.plans ∧ w.queue = s.queue := by
    rw [← hw]
    simp [openedState]
  obtain ⟨hstore, hplans, hqueue⟩ := hrest
  have he := trip_entry (cause := .settingsCorrupt) (k := { newCampaign kind s with issue := none }) (s := w)
    (by rw [hseq]) (by rw [hseq]; exact hh) (by rw [hseq]; simp)
  obtain ⟨timer, met, hl⟩ := he.lock
  have hhist : historyWith w (closedWith w { newCampaign kind s with issue := none } (.tripped .settingsCorrupt))
      = historyWith s {
        number := numberAfter s.seq.lastNumber, kind := kind, style := none, iteration := 1
        set := (s.queue.map QueueEntry.cell).map (numberOf s.store.image), opened := s.gen.timebase, state := .block
        pendingTag := none, issue := none, outcome := some (.tripped .settingsCorrupt) } := by
    simp only [closedWith, openRecord, historyWith, hseq, hstore]
    rfl
  refine ⟨?_, ?_, ?_, he.queue.trans hqueue, fun c => by rw [he.cell, hcell], hkeep.gen, hkeep.pending⟩
  · rw [CorruptTrip, he.seq, hl, he.plans, hplans]
    exact ⟨rfl, rfl, rfl, rfl, hhist, rfl, rfl, rfl, rfl, rfl, rfl, rfl, rfl, rfl, he.store.trans hstore, hkeep.gen⟩
  · rw [he.seq, hseq]
  · rw [he.seq, hseq]

/-! ### The link and the rings of an opening -/

theorem openCampaign_elsewhere (kind : CampaignKind) {s : State} (hr : s.seq.state ≠ .ready)
    (hh : s.seq.heldHalt = false ∨ s.store.storedCrc = some (crc16 s.store.image)) :
    (openCampaign kind s).rings = s.rings ∧ (openCampaign kind s).link = s.link := by
  obtain ⟨hrings, hlink⟩ := enterBlock_rings_link (s := openedState kind s) true hh
  obtain ⟨hr', hl'⟩ := setSeq_not_ready .block (s := dropStage (openedState kind s)) (by rw [dropStage_seq]; exact hr)
  rw [openCampaign_eq, hrings, hlink, hr', hl', dropStage_rings, dropStage_link]
  exact ⟨rfl, rfl⟩

/-- In READY the exchanges in flight end first (R42). -/
theorem openCampaign_ready (kind : CampaignKind) {s : State} (hr : s.seq.state = .ready)
    (hh : s.seq.heldHalt = false ∨ s.store.storedCrc = some (crc16 s.store.image)) :
    (openCampaign kind s).rings.mail = ⟨none, none, none⟩
      ∧ (openCampaign kind s).link = { s.link with replies := s.link.replies ++ abortedReplies s } := by
  obtain ⟨hrings, hlink⟩ := enterBlock_rings_link (s := openedState kind s) true hh
  have hready : (dropStage (openedState kind s)).seq.state = .ready := by rw [dropStage_seq]; exact hr
  have hsame : abortedReplies (dropStage (openedState kind s)) = abortedReplies s := by
    rw [abortedReplies, dropStage_rings]
    rfl
  rw [openCampaign_eq, hrings, hlink, setSeq_mail hready (by simp), setSeq_link_ready hready (by simp), hsame, dropStage_link]
  exact ⟨rfl, rfl⟩

theorem Keeps.buffer {s t : State} (h : Keeps s t) : t.link.buffer = s.link.buffer := by rw [h.link]

theorem atRest_iff (s : State) : s.atRest = true ↔ s.lock.driveRun.level = false ∧ s.lock.brakeSet.level = true := by
  simp [State.atRest]

end Sys2Proof.Machine

open Sys2Proof Sys2Proof.Machine

/-- Settles O34: the request's checks in order, and the opening of a REPLAN campaign, or the trip in its place. -/
theorem rebalanceOpensAReplan : Obligations.RebalanceOpensAReplan := by
  unfold Obligations.RebalanceOpensAReplan
  intro tag s hs hmode
  have htaken : takenIn .rebalance s.store.mode = true := by simp [takenIn, hmode]
  have hserved (hr : s.seq.state = .ready) (hd : s.lock.driveRun.level = false) (hb : s.lock.brakeSet.level = true) :
      exec (.rebalance tag) s = .next (pump (pushReply 0x10 tag .ok [] (openCampaign .replan s))) := by
    refine exec_served (op := .rebalance) rfl hs htaken ?_ ?_
    · simp [serve, serveRebalance, hr, (atRest_iff s).2 ⟨hd, hb⟩]
    · exact (keeps_openCampaign .replan s).buffer.trans hs.1
  refine ⟨fun hr => exec_replied (op := .rebalance) rfl hs htaken ?_,
    fun hr hrest => exec_replied (op := .rebalance) rfl hs htaken ?_,
    fun hr hd hb hm => ?_, fun hr hd hb hh hm => ?_⟩
  · simp [serve, serveRebalance, hr]
  · have hnot : s.atRest = false := by
      rw [Bool.eq_false_iff, ne_eq, atRest_iff]
      rintro ⟨hd, hb⟩
      simp [hd, hb] at hrest
    simp [serve, serveRebalance, hr, hnot]
  · obtain ⟨hseq, hplans, hcell, hqueue, hstore, hgen, hpend, htrip, hmark, hreq, _, hposts⟩ := openCampaign_opens .replan hd hm
    obtain ⟨hmail, hlink⟩ := openCampaign_ready .replan hr (.inr hm)
    obtain ⟨l, hl, hreplies⟩ := pump_pushReply 0x10 tag .ok [] hlink hgen
    refine ⟨_, (hserved hr hd hb).trans (congrArg _ hl), ?_⟩
    generalize openCampaign .replan s = t at hseq hplans hcell hqueue hstore hgen hpend htrip hmark hreq hposts hmail hreplies
    dsimp only
    rw [hseq]
    refine ⟨rfl, rfl, rfl, rfl, rfl, rfl, rfl, hmark, htrip, hreq, hmail, hreplies, fun k hk => ?_, hcell, hqueue, hplans,
      hstore, hgen, hpend⟩
    cases hk
    exact hposts
  · obtain ⟨hcorrupt, hnumber, hatt, hqueue, hcell, hgen, hpend⟩ := openCampaign_corrupt .replan hh hm
    obtain ⟨hmail, hlink⟩ := openCampaign_ready .replan hr (.inl hh)
    obtain ⟨l, hl, hreplies⟩ := pump_pushReply 0x10 tag .ok [] hlink hgen
    exact ⟨_, (hserved hr hd hb).trans (congrArg _ hl), hcorrupt, hnumber, hatt, hqueue, hcell, hreplies, hmail, hpend⟩
end


section
namespace Sys2Proof.Machine

open Sys2Proof

/-! ### The clearing of the trip before a RECOVER campaign (R85, R99) -/

/-- What the clearing of TRIP and its cause writes. -/
structure TripCleared (s t : State) : Prop where
  seq : t.seq = { s.seq with tripCause := none }
  lock : t.lock = { s.lock with trip := false }
  posts : Posts s t (if s.lock.trip = true then
    [.lines s.lock.holdReq false s.lock.driveRun.level s.lock.brakeSet.level] else [])

theorem clearTrip_clears (s : State) : TripCleared s (clearTrip s) := by
  cases h : s.lock.trip with
  | false =>
    rw [clearTrip_quiet h]
    refine ⟨rfl, ?_, by rw [if_neg (by simp [h])]; exact posts_nil rfl rfl⟩
    rw [← h]
  | true =>
    rw [clearTrip_lines h]
    refine ⟨by simp, by simp, ?_⟩
    rw [if_pos h]
    exact posts_of_notices (postUrgent_posts _ _) rfl

theorem releaseTrip_link (s : State) : (releaseTrip s).link = s.link := by
  unfold releaseTrip
  split <;> simp

/-- The device as ACK_TRIP and CLEAR_LOCKOUT find it: CLEAR_LOCKOUT has emptied the attempt history. -/
def recoverable (st : SeqState) (s : State) : State :=
  { s with seq.attempts := if st = .locked then [] else s.seq.attempts }

/-- The two requests that open a RECOVER campaign, with their record types and the states that take them. -/
abbrev Recovers (c : Instr) (tag code : Byte) (st : SeqState) : Prop :=
  (c = .ackTrip tag ∧ code = 0x0C ∧ st = .tripped) ∨ (c = .clearLockout tag ∧ code = 0x0D ∧ st = .locked)

section

variable {c : Instr} {tag code : Byte} {st : SeqState} {s : State} (hc : Recovers c tag code st) (hs : Ready s)
  (hmode : s.store.mode = .service)

include hc hs hmode

theorem exec_recover_wrongState (hst : s.seq.state ≠ st) : exec c s = .next (replyOnly code tag .wrongState [] s) := by
  rcases hc with ⟨rfl, rfl, rfl⟩ | ⟨rfl, rfl, rfl⟩
  · exact exec_replied (op := .ackTrip) rfl hs (by simp [takenIn, hmode]) (by simp [serve, serveAckTrip, hmode, hst])
  · exact exec_replied (op := .clearLockout) rfl hs (by simp [takenIn, hmode])
      (by simp [serve, serveClearLockout, hmode, hst])

theorem exec_recover_notAtRest (hst : s.seq.state = st) (hrest : s.atRest = false) :
    exec c s = .next (replyOnly code tag .notAtRest [] s) := by
  rcases hc with ⟨rfl, rfl, rfl⟩ | ⟨rfl, rfl, rfl⟩
  · exact exec_replied (op := .ackTrip) rfl hs (by simp [takenIn, hmode]) (by simp [serve, serveAckTrip, hmode, hst, hrest])
  · exact exec_replied (op := .clearLockout) rfl hs (by simp [takenIn, hmode])
      (by simp [serve, serveClearLockout, hmode, hst, hrest])

theorem exec_recover_opens (hst : s.seq.state = st) (hrest : s.atRest = true) :
    exec c s = .next (pump (pushReply code tag .ok [] (openCampaign .recover (releaseTrip (recoverable st s))))) := by
  have hbuffer : (openCampaign .recover (releaseTrip (recoverable st s))).link.buffer = [] := by
    rw [(keeps_openCampaign .recover _).buffer, releaseTrip_link]
    exact hs.1
  rcases hc with ⟨rfl, rfl, rfl⟩ | ⟨rfl, rfl, rfl⟩
  · refine exec_served (op := .ackTrip) rfl hs (by simp [takenIn, hmode]) ?_ hbuffer
    change serveAckTrip tag s = _
    unfold serveAckTrip
    rw [if_neg (by simp [hmode]), if_neg (by simp [hst]), if_pos hrest]
    rfl
  · refine exec_served (op := .clearLockout) rfl hs (by simp [takenIn, hmode]) ?_ hbuffer
    change serveClearLockout tag s = _
    unfold serveClearLockout
    rw [if_neg (by simp [hmode]), if_neg (by simp [hst]), if_pos hrest]
    rfl

end

end Sys2Proof.Machine

open Sys2Proof Sys2Proof.Machine

/-- Settles O33: both requests by their checks in order, and the opening of a RECOVER campaign once the trip is cleared, or
the trip in its place. -/
theorem recoverCampaignOpens : Obligations.RecoverCampaignOpens := by
  unfold Obligations.RecoverCampaignOpens
  intro tag s c code st hs hmode hc
  have hready : s.seq.state = st → s.seq.state ≠ .ready := by
    rintro rfl hr
    rcases hc with ⟨_, _, h⟩ | ⟨_, _, h⟩ <;> simp [hr] at h
  refine ⟨fun hst => exec_recover_wrongState hc hs hmode hst, fun hst hrest => exec_recover_notAtRest hc hs hmode hst ?_,
    fun hst hd hb hm => ?_, fun hst hd hb hh hm => ?_⟩
  · rw [Bool.eq_false_iff, ne_eq, atRest_iff]
    rintro ⟨hd, hb⟩
    simp [hd, hb] at hrest
  · have hmatch : settingsMatch (recoverable st s) = true := (settingsMatch_iff _).2 hm
    have hexec := exec_recover_opens hc hs hmode hst ((atRest_iff s).2 ⟨hd, hb⟩)
    obtain ⟨cseq, clock, cposts⟩ := clearTrip_clears (recoverable st s)
    have hrest : (clearTrip (recoverable st s)).store = s.store ∧ (clearTrip (recoverable st s)).gen = s.gen
        ∧ (clearTrip (recoverable st s)).rings = s.rings ∧ (clearTrip (recoverable st s)).cells = s.cells
        ∧ (clearTrip (recoverable st s)).queue = s.queue ∧ (clearTrip (recoverable st s)).plans = s.plans
        ∧ (clearTrip (recoverable st s)).link = s.link ∧ (clearTrip (recoverable st s)).pending = s.pending := by
      simp [recoverable]
    rw [show releaseTrip (recoverable st s) = clearTrip (recoverable st s) from if_pos hmatch] at hexec
    generalize clearTrip (recoverable st s) = u at hexec cseq clock cposts hrest
    obtain ⟨ustore, ugen, urings, ucells, uqueue, uplans, ulink, upend⟩ := hrest
    have ucrc : u.store.storedCrc = some (crc16 u.store.image) := by rw [ustore]; exact hm
    obtain ⟨hrings, hlink⟩ := openCampaign_elsewhere .recover (s := u) (by rw [cseq]; exact hready hst) (.inr ucrc)
    obtain ⟨hseq, hplans, hcell, hqueue, hstore, hgen, hpend, htrip, hmark, hreq, ⟨hdrive, hbrake⟩, hposts⟩ :=
      openCampaign_opens .recover (s := u) (by rw [clock]; exact hd) ucrc
    obtain ⟨l, hl, hreplies⟩ := pump_pushReply (s := s) (v := openCampaign .recover u) (l := []) code tag .ok []
      (by rw [hlink, ulink, List.append_nil]) (hgen.trans ugen)
    refine ⟨_, hexec.trans (congrArg _ hl), ?_⟩
    generalize openCampaign .recover u = t at *
    have hrecord : restCampaign .recover u = restCampaign .recover s := by
      simp only [restCampaign, cseq, uqueue, ugen]
      rfl
    have hwatch : watchedCells u = watchedCells s :=
      watchedCells_of_cell fun d => by rw [cell_of_cells ucells]; exact ⟨rfl, rfl⟩
    have hfalls : t.lock.trip = false := by rw [htrip, clock]
    have hline : lineChange u t = if s.lock.holdReq = true then [] else
        [.lines true false s.lock.driveRun.level s.lock.brakeSet.level] := by
      have hheld : t.lock.holdReq = true := hreq
      unfold lineChange
      rw [hheld, hfalls, hdrive, hbrake, clock]
      cases h : s.lock.holdReq <;> simp [recoverable, h]
    rw [hrecord, hwatch, cseq] at hseq
    dsimp only
    rw [hseq]
    refine ⟨rfl, rfl, rfl, rfl, rfl, rfl, rfl, rfl, hfalls, hmark, hreq, hreplies, fun k hk => ?_,
      fun d => (hcell d).trans (by rw [cell_of_cells ucells]), hqueue.trans uqueue, hplans.trans uplans, hstore.trans ustore,
      hrings.trans urings, hgen.trans ugen, hpend.trans upend⟩
    cases hk
    have hat (k : Campaign) (x : SeqState) : recordAt u k x = recordAt s k x := by simp only [recordAt, ustore]
    have hcause : u.seq.tripCause = none := by rw [cseq]
    have hall := posts_append cposts hposts
    rw [hrecord, hline, hat, hcause, ← List.append_assoc] at hall
    exact posts_of_notices hall rfl
  · have hmatch : ¬settingsMatch (recoverable st s) = true := mt (settingsMatch_iff _).1 hm
    have hexec := exec_recover_opens hc hs hmode hst ((atRest_iff s).2 ⟨hd, hb⟩)
    rw [show releaseTrip (recoverable st s) = { recoverable st s with seq.tripCause := none } from if_neg hmatch] at hexec
    generalize hu : ({ recoverable st s with seq.tripCause := none } : State) = u at hexec
    have hrest : u.store = s.store ∧ u.gen = s.gen ∧ u.rings = s.rings ∧ u.link = s.link ∧ u.pending = s.pending := by
      rw [← hu]
      exact ⟨rfl, rfl, rfl, rfl, rfl⟩
    obtain ⟨ustore, ugen, _, ulink, _⟩ := hrest
    have uheld : u.seq.heldHalt = false := by rw [← hu]; exact hh
    have ustate : u.seq.state ≠ .ready := by rw [← hu]; exact hready hst
    obtain ⟨hrings, hlink⟩ := openCampaign_elsewhere .recover ustate (.inl uheld)
    obtain ⟨hcorrupt, hnumber, hatt, hqueue, hcell, hgen, hpend⟩ :=
      openCampaign_corrupt .recover uheld (by rw [ustore]; exact hm)
    obtain ⟨l, hl, hreplies⟩ := pump_pushReply (s := s) (v := openCampaign .recover u) (l := []) code tag .ok []
      (by rw [hlink, ulink, List.append_nil]) (hgen.trans ugen)
    refine ⟨_, hexec.trans (congrArg _ hl), ?_⟩
    generalize openCampaign .recover u = t at hcorrupt hnumber hatt hqueue hcell hrings hpend hreplies
    subst hu
    exact ⟨hcorrupt, hnumber, hatt, hqueue, hcell, hreplies, hrings, hpend⟩
end

section
/-! PROOFS. HALT: what its taking effect writes, at once or in place of the state that a campaign's close would have entered,
and the events at which a held HALT takes effect. -/

namespace Sys2Proof.Machine

open Sys2Proof

/-! ### The halt of the device (R21, R45, R100) -/

/-- The record of a cell as HALT leaves it: link DARK, and AWAITING where it was working. -/
def haltedCell (now : Stamp) (x : Cell) : Cell :=
  retiredCell { linkItems .dark none none now x with unsteadyCount := 0, dcDebounce := 0 }

/-- The items of a record that HALT leaves, and those it clears. -/
structure HaltedRecord (x y : Cell) : Prop where
  service : y.service = if x.service.working then .awaiting else x.service
  flags : y.flags = if x.service.working then x.flags ||| ReportFlag.stateChanged.mask else x.flags
  offset : x.service.working = true → y.offset = none
  link : y.link = .dark
  missCount : y.missCount = 0
  goodRun : y.goodRun = 0
  unsteadyCount : y.unsteadyCount = 0
  dcDebounce : y.dcDebounce = 0
  ability : y.ability = x.ability
  report : y.report = x.report
  fault : y.fault = x.fault
  strikes : y.strikes = x.strikes
  activeTime : y.activeTime = x.activeTime
  reportAge : y.reportAge = x.reportAge

theorem haltedCell_record (now : Stamp) (x : Cell) : HaltedRecord x (haltedCell now x) := by
  unfold haltedCell retiredCell
  by_cases h : x.service.working = true
  · have hw : (linkItems .dark none none now x).service.working = true := h
    rw [if_pos hw]
    exact ⟨(if_pos h).symm, (if_pos h).symm, fun _ => rfl, rfl, rfl, rfl, rfl, rfl, rfl, rfl, rfl, rfl, rfl, rfl⟩
  · have hw : ¬(linkItems .dark none none now x).service.working = true := h
    rw [if_neg hw]
    exact ⟨(if_neg h).symm, (if_neg h).symm, fun hx => absurd hx h, rfl, rfl, rfl, rfl, rfl, rfl, rfl, rfl, rfl, rfl, rfl⟩

theorem retireCell_posts (s : State) (c : CellRef) : Posts s (retireCell s c) [] := by
  unfold retireCell
  split
  · exact (OnRecord.setService _ c s).posts
  · exact posts_refl s

theorem retireCells_posts (s : State) : Posts s (retireCells s) [] := by
  have run (l : List CellRef) (u : State) : Posts u (l.foldl retireCell u) [] := by
    induction l generalizing u with
    | nil => exact posts_refl u
    | cons c l ih => exact posts_append (retireCell_posts u c) (ih _)
  unfold retireCells
  exact run allCells s

theorem posts_to_notices {s t t' : State} {l : List Urgent} (h : Posts s t l) (e : t'.notices = t.notices) : Posts s t' l := by
  unfold Posts at h ⊢
  rw [e]
  exact h

/-- What HALT writes beside the sequencer's entry into OFF. -/
structure Halted (cause : ModeCause) (s t : State) : Prop where
  store : t.store = { s.store with mode := .standby }
  seq : t.seq = { s.seq with heldHalt := false }
  plans : t.plans = { pending := none, inForce := none }
  queue : t.queue = s.queue
  rings : t.rings = { s.rings with healthOn := false }
  link : t.link = s.link
  lock : t.lock = s.lock
  gen : t.gen = s.gen
  pending : t.pending = s.pending
  cell : ∀ d : CellRef, t.cell d = haltedCell s.now (s.cell d)
  posts : Posts s t [.mode .standby cause none]

theorem haltDevice_halted (cause : ModeCause) (s : State) : Halted cause s (haltDevice cause s) := by
  constructor
  case cell =>
    intro d
    unfold haltDevice
    dsimp only
    rw [retireCells_cell, darkenLinks_cell, cell_of_cells (postMode_cells _ _)]
    have hnow (t : State) : (postMode cause t).now = t.now := by simp [State.now]
    rw [hnow]
    rfl
  case posts =>
    unfold haltDevice
    dsimp only
    generalize hu : ({ s with
      seq.heldHalt := false, plans.pending := none, plans.inForce := none, store.mode := .standby
      rings.healthOn := false } : State) = u
    have hmode : u.store.mode = .standby ∧ u.notices = s.notices := by
      rw [← hu]
      exact ⟨rfl, rfl⟩
    have hp : Posts u (postMode cause u) [.mode u.store.mode cause none] := postUrgent_posts _ u
    rw [hmode.1] at hp
    have hall := posts_append (posts_of_notices (posts_to_notices hp (darkenLinks_notices _)) hmode.2)
      (retireCells_posts (darkenLinks (postMode cause u)))
    rw [List.append_nil] at hall
    exact hall
  all_goals simp [haltDevice]

/-- The halt of a device whose sequencer has entered OFF, with HOLD_REQ following its demand (R100, R128, R129). -/
structure HaltedOff (cause : ModeCause) (s t : State) : Prop where
  store : t.store = { s.store with mode := .standby }
  seq : t.seq = { s.seq with heldHalt := false }
  plans : t.plans = { pending := none, inForce := none }
  queue : t.queue = s.queue
  rings : t.rings = { s.rings with healthOn := false }
  link : t.link = s.link
  lock : ∃ timer met, t.lock = { s.lock with holdReq := true, holdTimer := timer, holdMet := met }
  gen : t.gen = s.gen
  pending : t.pending = s.pending
  cell : ∀ d : CellRef, t.cell d = haltedCell s.now (s.cell d)
  posts : Posts s t ([.mode .standby cause none] ++ lineChange s t)

theorem haltedOff (cause : ModeCause) {s : State} (h : s.seq.state = .off) :
    HaltedOff cause s (syncLines false (haltDevice cause s)) := by
  have hh := haltDevice_halted cause s
  generalize haltDevice cause s = u at hh
  have hoff : u.seq.state = .off := by rw [hh.seq]; exact h
  have hlock : (syncLines false u).lock = (followDemand u).lock := by rw [syncLines_lock, Bool.or_false]
  refine ⟨(syncLines_store _ _).trans hh.store, (syncLines_seq _ _).trans hh.seq, (syncLines_plans _ _).trans hh.plans,
    (syncLines_queue _ _).trans hh.queue, (syncLines_rings _ _).trans hh.rings, (syncLines_link _ _).trans hh.link,
    ⟨_, _, by rw [hlock, followDemand_off_lock hoff, hh.lock]⟩, (syncLines_gen _ _).trans hh.gen,
    (syncLines_pending _ _).trans hh.pending, fun d => (cell_of_cells (syncLines_cells _ _) d).trans (hh.cell d), ?_⟩
  have h2 := syncLines_posts false u
  rw [lineChange_congr hh.lock] at h2
  exact posts_append hh.posts h2

/-! ### HALT at once (R100) -/

/-- Leaving READY the replies of the exchanges in flight are appended, and else none. -/
theorem setSeq_replies {st : SeqState} (s : State) (hst : st ≠ .ready) : (setSeq st s).link = { s.link with
    replies := s.link.replies ++ if s.seq.state = .ready then abortedReplies s else [] } := by
  by_cases hr : s.seq.state = .ready
  · rw [if_pos hr, setSeq_link_ready hr hst]
  · rw [if_neg hr, List.append_nil, (setSeq_not_ready st hr).2]

/-- The device with the sequencer's entry into OFF made, before the halt. -/
def offState (s : State) : State := postCampaign none (setSeq .off (dropStage s))

theorem offState_seq (s : State) : (offState s).seq = { s.seq with
    state := .off, scale := 0, campaign := s.seq.campaign.map fun k => { k with issue := none }, watch := none
    rephase := none } := by
  rw [offState, postCampaign_seq, setSeq_seq, dropStage_seq]
  rfl

theorem offState_lock (s : State) : (offState s).lock = { s.lock with resumeTimer := none, rampCount := 0 } := by
  rw [offState, postCampaign_lock, setSeq_lock, dropStage_lock]

theorem offState_cell (s : State) (d : CellRef) : (offState s).cell d = { s.cell d with isolation := none } := by
  rw [offState, cell_of_cells (postCampaign_cells _ _), cell_of_cells (setSeq_cells _ _), dropStage_cell]

theorem offState_posts (s : State) : Posts s (offState s) [.campaign .off s.seq.tripCause none] := by
  have hp := postCampaign_posts none (setSeq .off (dropStage s))
  rw [setSeq_state, setSeq_tripCause, dropStage_seq] at hp
  exact posts_of_notices hp (by simp)

theorem offState_link (s : State) : (offState s).link = { s.link with
    replies := s.link.replies ++ if s.seq.state = .ready then abortedReplies s else [] } := by
  have hsame : abortedReplies (dropStage s) = abortedReplies s := by rw [abortedReplies, dropStage_rings]
  rw [offState, postCampaign_link, setSeq_replies _ (by simp), hsame, dropStage_link, dropStage_seq]

theorem keeps_offState (s : State) : Keeps s (offState s) :=
  (keeps_postUrgent _ _).after ((keeps_setSeq _ _).after (keeps_dropStage s))

theorem offState_mail {s : State} (h : s.seq.state = .ready) : (offState s).rings.mail = ⟨none, none, none⟩ := by
  rw [offState, postCampaign_rings, setSeq_mail (by rw [dropStage_seq]; exact h) (by simp)]

theorem exec_halt_held {s : State} (tag : Byte) (hs : Ready s) (hm : s.store.mode = .service)
    (h : s.seq.state ≠ .ready ∧ s.seq.state ≠ .tripped ∧ s.seq.state ≠ .locked) :
    exec (.halt tag) s = .next (pump (pushReply 0x0A tag .accepted [] { s with seq.heldHalt := true })) := by
  obtain ⟨hready, htripped, hlocked⟩ := h
  exact exec_served (op := .halt) rfl hs (by simp [takenIn, hm]) (by simp [serve, serveHalt, hready, htripped, hlocked]) hs.1

theorem exec_halt_atOnce {s : State} (tag : Byte) (hs : Ready s) (hm : s.store.mode = .service)
    (h : s.seq.state = .ready ∨ s.seq.state = .tripped ∨ s.seq.state = .locked) :
    exec (.halt tag) s
      = .next (pump (pushReply 0x0A tag .ok [] (syncLines false (haltDevice .haltAtOnce (offState s))))) := by
  have hserve : serveHalt tag s = pushReply 0x0A tag .ok [] (syncLines false (haltDevice .haltAtOnce (offState s))) := by
    unfold serveHalt
    rw [if_pos h]
    rfl
  have hkeeps := (keeps_syncLines false _).after ((keeps_haltDevice .haltAtOnce _).after (keeps_offState s))
  have hbuffer := hkeeps.buffer.trans hs.1
  clear hkeeps
  generalize syncLines false (haltDevice .haltAtOnce (offState s)) = u at hserve hbuffer
  exact exec_served (op := .halt) rfl hs (by simp [takenIn, hm]) hserve hbuffer

/-! ### A held HALT at the close of a campaign (R100) -/

/-- What a held HALT leaves of a record; with a plan confirmed in the same step, the working state it had is not said. -/
structure HaltedAtClose (confirmed : Bool) (x y : Cell) : Prop where
  link : y.link = .dark
  missCount : y.missCount = 0
  goodRun : y.goodRun = 0
  unsteadyCount : y.unsteadyCount = 0
  dcDebounce : y.dcDebounce = 0
  idle : y.service.working = false
  service : confirmed = false → y.service = if x.service.working then .awaiting else x.service
  fault : y.fault = x.fault
  strikes : y.strikes = x.strikes
  ability : y.ability = x.ability
  report : y.report = x.report

theorem haltedCell_atClose (now : Stamp) (x : Cell) :
    HaltedAtClose false x (haltedCell now { x with isolation := none }) := by
  obtain ⟨hservice, _, _, hlink, hmiss, hgood, hunsteady, hdc, hability, hreport, hfault, hstrikes, _, _⟩ :=
    haltedCell_record now { x with isolation := none }
  refine ⟨hlink, hmiss, hgood, hunsteady, hdc, ?_, fun _ => hservice, hfault, hstrikes, hability, hreport⟩
  rw [hservice]
  split
  · rfl
  · next hw => simpa using hw

/-- A held HALT has taken effect: the campaign's record is `r`, and the trip cause and the TRIP latch are as given. -/
structure HaltTaken (confirmed : Bool) (r : CampaignRecord) (cause : Option TripCause) (latch : Bool) (s t : State) :
    Prop where
  store : t.store = { s.store with mode := .standby, selfTest := t.store.selfTest }
  state : t.seq.state = .off
  scale : t.seq.scale = 0
  heldHalt : t.seq.heldHalt = false
  campaign : t.seq.campaign = none
  history : t.seq.history = historyWith s r
  attempts : t.seq.attempts = s.seq.attempts
  lastTag : t.seq.lastTag = s.seq.lastTag
  lastNumber : t.seq.lastNumber = s.seq.lastNumber
  tripCause : t.seq.tripCause = cause
  trip : t.lock.trip = latch
  plans : t.plans = { pending := none, inForce := none }
  queue : t.queue = s.queue
  healthOn : t.rings.healthOn = false
  holdReq : t.lock.holdReq = true
  holdMark : t.lock.holdMark = false
  resumeTimer : t.lock.resumeTimer = none
  brakeConfirm : t.lock.brakeConfirm = none
  rideThrough : t.lock.rideThrough = none
  rampCount : t.lock.rampCount = 0
  hoist : t.lock.hoist = s.lock.hoist
  pending : t.pending = s.pending
  cell : ∀ d : CellRef, HaltedAtClose confirmed (s.cell d) (t.cell d)

/-- The campaign of `s` has closed with the record `r`, before the sequencer's next state is entered. -/
structure CampaignClosed (r : CampaignRecord) (cause : Option TripCause) (s u : State) : Prop where
  seq : u.seq = { s.seq with
    tripCause := cause, campaign := none, watch := none, rephase := none, enrolRun := false, history := historyWith s r }
  lock : u.lock = { s.lock with
    holdMark := false, rideThrough := none, budgetSpent := false, brakeConfirm := none, resumeTimer := none
    rampCount := 0 }
  cell : ∀ c : CellRef, u.cell c = { s.cell c with isolation := none }
  store : u.store = s.store
  queue : u.queue = s.queue
  pending : u.pending = s.pending

theorem close_completed {s : State} {k : Campaign} (hk : s.seq.campaign = some k) :
    ∃ u, closeCampaign .completed (dropStage s) = (some (closedWith s k .completed), u)
      ∧ CampaignClosed (closedWith s k .completed) s.seq.tripCause s u := by
  have hseq : (dropStage s).seq = { s.seq with
      campaign := some { k with issue := none }, watch := none, rephase := none } := by
    rw [dropStage_seq, hk]
    rfl
  have hlock := dropStage_lock s
  have hcell := dropStage_cell s
  have hrest : (dropStage s).store = s.store ∧ (dropStage s).queue = s.queue ∧ (dropStage s).pending = s.pending := by simp
  generalize dropStage s = u at hseq hlock hcell hrest
  obtain ⟨hstore, hqueue, hpending⟩ := hrest
  have hrec : closedWith u { k with issue := none } .completed = closedWith s k .completed := by
    simp [openRecord, hseq, hstore]
  have hhist (r : CampaignRecord) : historyWith u r = historyWith s r := by
    unfold historyWith
    rw [hseq]
  have e := closeCampaign_some .completed (s := u) (by rw [hseq])
  rw [hrec, hhist] at e
  refine ⟨_, e, ?_, ?_, hcell, hstore, hqueue, hpending⟩
  · simp [dropCampaign, hseq]
  · simp [dropCampaign, hlock]

theorem close_tripped {s : State} {k : Campaign} (cause : TripCause) (hk : s.seq.campaign = some k) :
    ∃ u, closeCampaign (.tripped cause) (discardPending (dropStage { s with seq.tripCause := some cause }))
        = (some (closedWith s k (.tripped cause)), u)
      ∧ CampaignClosed (closedWith s k (.tripped cause)) (some cause) s u := by
  have hseq : (discardPending (dropStage { s with seq.tripCause := some cause })).seq = { s.seq with
      tripCause := some cause, campaign := some { k with issue := none, pendingTag := none }, watch := none
      rephase := none } := by
    simp [discardPending, modCampaign, dropStage_seq, hk]
  have hlock : (discardPending (dropStage { s with seq.tripCause := some cause })).lock
      = { s.lock with resumeTimer := none, rampCount := 0 } := by
    rw [discardPending_lock, dropStage_lock]
  have hcell (c : CellRef) : (discardPending (dropStage { s with seq.tripCause := some cause })).cell c
      = { s.cell c with isolation := none } := by
    rw [cell_of_cells (discardPending_cells _), dropStage_cell]
    rfl
  have hrest : (discardPending (dropStage { s with seq.tripCause := some cause })).store = s.store
      ∧ (discardPending (dropStage { s with seq.tripCause := some cause })).queue = s.queue
      ∧ (discardPending (dropStage { s with seq.tripCause := some cause })).pending = s.pending := by simp
  generalize discardPending (dropStage { s with seq.tripCause := some cause }) = u at hseq hlock hcell hrest
  obtain ⟨hstore, hqueue, hpending⟩ := hrest
  have hrec : closedWith u { k with issue := none, pendingTag := none } (.tripped cause)
      = closedWith s k (.tripped cause) := by simp [openRecord, hseq, hstore]
  have hhist (r : CampaignRecord) : historyWith u r = historyWith s r := by
    unfold historyWith
    rw [hseq]
  have e := closeCampaign_some (.tripped cause) (s := u) (by rw [hseq])
  rw [hrec, hhist] at e
  refine ⟨_, e, ?_, ?_, hcell, hstore, hqueue, hpending⟩
  · simp [dropCampaign, hseq]
  · simp [dropCampaign, hlock]

/-- The halt of a device whose campaign has closed. -/
theorem CampaignClosed.haltTaken {r : CampaignRecord} {cause : Option TripCause} {latch : Bool} {s u t : State}
    (h : CampaignClosed r cause s u) (hstore : t.store = { u.store with mode := .standby })
    (hseq : t.seq = { u.seq with state := .off, scale := 0, heldHalt := false })
    (hplans : t.plans = { pending := none, inForce := none }) (hqueue : t.queue = u.queue)
    (hrings : t.rings.healthOn = false)
    (hlock : ∃ timer met, t.lock = { u.lock with trip := latch, holdReq := true, holdTimer := timer, holdMet := met })
    (hpending : t.pending = u.pending) (hcell : ∀ d : CellRef, ∃ now, t.cell d = haltedCell now (u.cell d)) :
    HaltTaken false r cause latch s t := by
  obtain ⟨timer, met, hlock⟩ := hlock
  have hrecord (d : CellRef) : HaltedAtClose false (s.cell d) (t.cell d) := by
    obtain ⟨now, hd⟩ := hcell d
    rw [hd, h.cell]
    exact haltedCell_atClose now (s.cell d)
  constructor
  case store => rw [hstore, h.store]
  case plans => exact hplans
  case queue => exact hqueue.trans h.queue
  case healthOn => exact hrings
  case pending => exact hpending.trans h.pending
  case cell => exact hrecord
  case trip | holdReq | holdMark | resumeTimer | brakeConfirm | rideThrough | rampCount | hoist => rw [hlock, h.lock]
  all_goals rw [hseq, h.seq]

theorem completeCampaign_held {s : State} {k : Campaign} (hk : s.seq.campaign = some k) (hh : s.seq.heldHalt = true) :
    HaltTaken false (closedWith s k .completed) s.seq.tripCause s.lock.trip s (completeCampaign s) := by
  obtain ⟨u, hu, hclosed⟩ := close_completed hk
  have e : completeCampaign s = syncLines false (haltDevice .haltHeld
      (postCampaign (some (closedWith s k .completed)) (setSeq .off u))) := by
    unfold completeCampaign
    rw [hu]
    exact if_pos hh
  obtain ⟨hstore, hseq, hplans, hqueue, hrings, _, ⟨timer, met, hlock⟩, _, hpending, hcell, _⟩ :=
    haltedOff .haltHeld (s := postCampaign (some (closedWith s k .completed)) (setSeq .off u)) (by simp)
  rw [← e] at hstore hseq hplans hqueue hrings hlock hpending hcell
  refine hclosed.haltTaken ?_ ?_ hplans (by rw [hqueue]; simp) (by rw [hrings]) ⟨timer, met, ?_⟩ (by rw [hpending]; simp)
    fun d => ⟨_, (hcell d).trans (congrArg _ (cell_of_cells (by simp) d))⟩
  · rw [hstore]; simp
  · rw [hseq, postCampaign_seq, setSeq_seq]; rfl
  · rw [hlock, postCampaign_lock, setSeq_lock, hclosed.lock]

theorem trip_held {s : State} {k : Campaign} (cause : TripCause) (hk : s.seq.campaign = some k)
    (hh : s.seq.heldHalt = true) (hs : Running s) :
    HaltTaken false (closedWith s k (.tripped cause)) (some cause) true s (trip cause s) := by
  obtain ⟨u, hu, hclosed⟩ := close_tripped cause hk
  have hheld : u.seq.heldHalt = true := by rw [hclosed.seq]; exact hh
  generalize hr : some (closedWith s k (.tripped cause)) = r at hu
  have e : trip cause s = haltDevice .haltHeld (syncLines true (postCampaign r (setSeq .off u))) := by
    rw [trip_running cause hs, hu]
    exact if_pos hheld
  have hlines : ∃ timer met, (syncLines true (postCampaign r (setSeq .off u))).lock
      = { u.lock with trip := true, holdReq := true, holdTimer := timer, holdMet := met } := by
    rw [syncLines_lock, followDemand_off_lock (by simp)]
    simp only [postCampaign_lock, setSeq_lock, Bool.or_true]
    exact ⟨_, _, rfl⟩
  obtain ⟨hstore, hseq, hplans, hqueue, hrings, _, hlock, _, hpending, hcell, _⟩ :=
    haltDevice_halted .haltHeld (syncLines true (postCampaign r (setSeq .off u)))
  rw [← e] at hstore hseq hplans hqueue hrings hlock hpending hcell
  refine hclosed.haltTaken ?_ ?_ hplans (by rw [hqueue]; simp) (by rw [hrings]) (by rw [hlock]; exact hlines)
    (by rw [hpending]; simp) fun d => ⟨_, (hcell d).trans (congrArg _ (cell_of_cells (by simp) d))⟩
  · rw [hstore]; simp
  · rw [hseq, syncLines_seq, postCampaign_seq, setSeq_seq]; rfl

/-! ### What an event leaves before it closes the campaign -/

/-- The items of a record that a campaign's last step leaves; a plan confirmed in it moves the service states. -/
structure RecordKept (confirmed : Bool) (x y : Cell) : Prop where
  service : confirmed = false → y.service = x.service
  fault : y.fault = x.fault
  strikes : y.strikes = x.strikes
  ability : y.ability = x.ability
  report : y.report = x.report

theorem RecordKept.trans {b : Bool} {x y z : Cell} (h : RecordKept b x y) (k : RecordKept b y z) : RecordKept b x z :=
  ⟨fun hb => (k.service hb).trans (h.service hb), k.fault.trans h.fault, k.strikes.trans h.strikes,
    k.ability.trans h.ability, k.report.trans h.report⟩

theorem RecordKept.refl (b : Bool) (x : Cell) : RecordKept b x x := ⟨fun _ => rfl, rfl, rfl, rfl, rfl⟩

/-- An event has come to the close of the campaign, with these items as they were. -/
structure ComesToClose (confirmed : Bool) (s v : State) : Prop where
  store : ∃ m, v.store = { s.store with selfTest := m }
  seq : v.seq.state = s.seq.state ∧ v.seq.history = s.seq.history ∧ v.seq.attempts = s.seq.attempts
    ∧ v.seq.lastTag = s.seq.lastTag ∧ v.seq.lastNumber = s.seq.lastNumber ∧ v.seq.tripCause = s.seq.tripCause
    ∧ v.seq.heldHalt = s.seq.heldHalt
  lock : v.lock.trip = s.lock.trip ∧ v.lock.hoist = s.lock.hoist
  queue : v.queue = s.queue
  pending : v.pending = s.pending
  cell : ∀ d : CellRef, RecordKept confirmed (s.cell d) (v.cell d)

theorem ComesToClose.closedWith {b : Bool} {s v : State} (h : ComesToClose b s v) (k : Campaign) (o : CampaignOutcome) :
    closedWith v k o = closedWith s k o := by
  obtain ⟨m, hm⟩ := h.store
  simp [openRecord, h.seq.1, hm]

theorem ComesToClose.refl (b : Bool) (s : State) : ComesToClose b s s :=
  ⟨⟨_, rfl⟩, ⟨rfl, rfl, rfl, rfl, rfl, rfl, rfl⟩, ⟨rfl, rfl⟩, rfl, rfl, fun _ => .refl b _⟩

theorem ComesToClose.trans {b : Bool} {s v w : State} (h : ComesToClose b s v) (k : ComesToClose b v w) :
    ComesToClose b s w := by
  obtain ⟨m, hm⟩ := h.store
  obtain ⟨n, hn⟩ := k.store
  obtain ⟨h1, h2, h3, h4, h5, h6, h7⟩ := h.seq
  obtain ⟨k1, k2, k3, k4, k5, k6, k7⟩ := k.seq
  exact ⟨⟨n, by rw [hn, hm]⟩,
    ⟨k1.trans h1, k2.trans h2, k3.trans h3, k4.trans h4, k5.trans h5, k6.trans h6, k7.trans h7⟩,
    ⟨k.lock.1.trans h.lock.1, k.lock.2.trans h.lock.2⟩, k.queue.trans h.queue, k.pending.trans h.pending,
    fun d => (h.cell d).trans (k.cell d)⟩

/-- Where the service states are kept, nothing more need be said of a plan. -/
theorem ComesToClose.weaken {s v : State} (h : ComesToClose false s v) (b : Bool) : ComesToClose b s v :=
  ⟨h.store, h.seq, h.lock, h.queue, h.pending, fun d =>
    ⟨fun _ => (h.cell d).service rfl, (h.cell d).fault, (h.cell d).strikes, (h.cell d).ability, (h.cell d).report⟩⟩

theorem HaltTaken.of_close {b : Bool} {r : CampaignRecord} {cause : Option TripCause} {latch : Bool} {s v t : State}
    (h : HaltTaken b r cause latch v t) (ha : ComesToClose b s v) : HaltTaken b r cause latch s t := by
  obtain ⟨m, hm⟩ := ha.store
  obtain ⟨_, hhistory, hattempts, htag, hnumber, _, _⟩ := ha.seq
  have hstore := h.store
  rw [hm] at hstore
  refine ⟨hstore, h.state, h.scale, h.heldHalt, h.campaign, ?_, h.attempts.trans hattempts, h.lastTag.trans htag,
    h.lastNumber.trans hnumber, h.tripCause, h.trip, h.plans, h.queue.trans ha.queue, h.healthOn, h.holdReq, h.holdMark,
    h.resumeTimer, h.brakeConfirm, h.rideThrough, h.rampCount, h.hoist.trans ha.lock.2, h.pending.trans ha.pending,
    fun d => ?_⟩
  · rw [h.history, historyWith, hhistory]
  · obtain ⟨hl, hmiss, hgood, hun, hdc, hidle, hservice, hf, hs, hab, hrep⟩ := h.cell d
    have hkept := ha.cell d
    exact ⟨hl, hmiss, hgood, hun, hdc, hidle, fun hb => by rw [hservice hb, hkept.service hb], hf.trans hkept.fault,
      hs.trans hkept.strikes, hab.trans hkept.ability, hrep.trans hkept.report⟩

theorem HaltTaken.weaken {r : CampaignRecord} {cause : Option TripCause} {latch : Bool} {s t : State}
    (h : HaltTaken false r cause latch s t) (b : Bool) : HaltTaken b r cause latch s t :=
  ⟨h.store, h.state, h.scale, h.heldHalt, h.campaign, h.history, h.attempts, h.lastTag, h.lastNumber, h.tripCause, h.trip,
    h.plans, h.queue, h.healthOn, h.holdReq, h.holdMark, h.resumeTimer, h.brakeConfirm, h.rideThrough, h.rampCount, h.hoist,
    h.pending, fun d =>
      let hd := h.cell d
      ⟨hd.link, hd.missCount, hd.goodRun, hd.unsteadyCount, hd.dcDebounce, hd.idle, fun _ => hd.service rfl, hd.fault,
        hd.strikes, hd.ability, hd.report⟩⟩

/-- The frames of a cycle start come after the halt. -/
theorem HaltTaken.frames {b : Bool} {r : CampaignRecord} {cause : Option TripCause} {latch : Bool} {s t : State}
    (h : HaltTaken b r cause latch s t) (frames : Option (Rings DownFrame)) (mail : Rings (Option Exchange)) :
    HaltTaken b r cause latch s { t with rings := { t.rings with frames := frames, mail := mail } } :=
  ⟨h.store, h.state, h.scale, h.heldHalt, h.campaign, h.history, h.attempts, h.lastTag, h.lastNumber, h.tripCause, h.trip,
    h.plans, h.queue, h.healthOn, h.holdReq, h.holdMark, h.resumeTimer, h.brakeConfirm, h.rideThrough, h.rampCount, h.hoist,
    h.pending, h.cell⟩

/-! ### The rings' counts of a cycle start -/

theorem confirmedCell_kept (now : Stamp) (x : Cell) : RecordKept false x (confirmedCell now x) := by
  unfold confirmedCell
  split
  · split
    · exact ⟨fun _ => rfl, rfl, rfl, rfl, rfl⟩
    · exact ⟨fun _ => rfl, rfl, rfl, rfl, rfl⟩
  · exact .refl false x

theorem roundState_kept (loopback : Option (List Byte)) (s : State) (d : CellRef) :
    RecordKept false (s.cell d) ((roundState loopback s).cell d) := by
  by_cases h : s.store.mode = .service
  · rw [roundState_cell loopback h]
    exact confirmedCell_kept s.now _
  · have hdark : ringCycle (lightRings (startCycle s)) = lightRings (startCycle s) :=
      if_neg (by simp [lightRings, startCycle, h])
    unfold roundState
    rw [hdark, cell_of_cells (CellInvariant.testCycle_cells _ _)]
    exact .refl false _

theorem roundState_comes (loopback : Option (List Byte)) (s : State) : ComesToClose false s (roundState loopback s) := by
  have hr := roundState_round loopback s
  have hc := counted_ringCycle (lightRings (startCycle s))
  obtain ⟨m, hm⟩ := testCycle_eq loopback (ringCycle (lightRings (startCycle s)))
  have hstore : (roundState loopback s).store = { s.store with selfTest := m } := by
    unfold roundState
    rw [hm, hc.settings]
    rfl
  refine ⟨⟨m, hstore⟩, ?_, ?_, hr.queue, hr.pending, roundState_kept loopback s⟩
  · rw [hr.seq]
    exact ⟨rfl, rfl, rfl, rfl, rfl, rfl, rfl⟩
  · rw [hr.lock]
    exact ⟨rfl, rfl⟩

/-! ### A plan put in force (R11, R116) -/

theorem applyToCell_comes (p : Plan) (s : State) (c : CellRef) : ComesToClose true s (applyToCell p s c) := by
  have hrecord : OnRecord c s (applyToCell p s c) ∧ RecordKept true (s.cell c) ((applyToCell p s c).cell c) := by
    unfold applyToCell
    split
    · rw [cell_modCell_same, setService_cell_same]
      exact ⟨(OnRecord.modCell c _ _).after (.setService _ c s), nofun, rfl, rfl, rfl, rfl⟩
    · split
      · rw [setService_cell_same]
        exact ⟨.setService _ c s, nofun, rfl, rfl, rfl, rfl⟩
      · exact ⟨.refl c s, .refl true _⟩
  obtain ⟨ho, hkept⟩ := hrecord
  refine ⟨⟨s.store.selfTest, ho.store⟩, by rw [ho.seq]; exact ⟨rfl, rfl, rfl, rfl, rfl, rfl, rfl⟩,
    by rw [ho.lock]; exact ⟨rfl, rfl⟩, ho.queue, ho.pending, fun d => ?_⟩
  by_cases hd : d = c
  · rw [hd]
    exact hkept
  · rw [ho.others d hd]
    exact .refl true _

theorem applyPlan_comes (p : Plan) (s : State) : ComesToClose true s (applyPlan p s) := by
  have run (l : List CellRef) (u : State) : ComesToClose true u (l.foldl (applyToCell p) u) := by
    induction l generalizing u with
    | nil => exact .refl true u
    | cons c l ih => exact (applyToCell_comes p u c).trans (ih _)
  have hstart : ComesToClose true s { s with plans := { pending := none, inForce := some p } } :=
    ⟨⟨_, rfl⟩, ⟨rfl, rfl, rfl, rfl, rfl, rfl, rfl⟩, ⟨rfl, rfl⟩, rfl, rfl, fun _ => .refl true _⟩
  exact hstart.trans (run allCells _)

/-- The check at an epoch reads the reports alone (R94). -/
theorem planConfirmed_congr {s v : State} (h : ∀ d : CellRef, (v.cell d).report = (s.cell d).report) (p : Plan) :
    planConfirmed v p = planConfirmed s p := by
  have htag : holdsTag v = holdsTag s := by
    funext tag c
    unfold holdsTag
    rw [h]
  have hopen : reportsOpen v = reportsOpen s := by
    funext c
    unfold reportsOpen
    rw [h]
  have hclosed : reportsClosed v = reportsClosed s := by
    funext c
    unfold reportsClosed
    rw [h]
  unfold planConfirmed
  rw [htag, hopen, hclosed]

/-! ### The events that close a campaign while a HALT is held -/

section

variable {s : State} {k : Campaign} (hq : Quiet s) (hk : s.seq.campaign = some k) (hh : s.seq.heldHalt = true)

include hq hk hh

theorem exec_withdrawn_halts {b : Stamp} (hb : s.lock.driveRun.change = some b)
    (hdue : 1000 ≤ (s.gen.timebase - b).toNat) (hlevel : s.lock.driveRun.level = true)
    (hstyle : k.style = some .running ∨ k.style = some .held) (hst : s.seq.state = .awaitResume ∨ s.seq.state = .ramp) :
    ∃ t, exec .driveRunQualified s = .next t
      ∧ HaltTaken false (closedWith s { k with style := some .stopped } .completed) s.seq.tripCause s.lock.trip s t := by
  have hcomes : ComesToClose false s (withdrawn k s) :=
    ⟨⟨_, rfl⟩, ⟨rfl, rfl, rfl, rfl, rfl, rfl, rfl⟩, ⟨rfl, rfl⟩, rfl, rfl, fun _ => .refl false _⟩
  have e := qualifyDriveRun_withdraws hb hdue hlevel hk hstyle
  rw [if_pos hst] at e
  have hexec : exec .driveRunQualified s = .next (completeCampaign (withdrawn k s)) :=
    congrArg Host.Outcome.next ((congrArg settle e).trans ((keeps_completeCampaign (withdrawn k s)).settle hq))
  have hhalt := completeCampaign_held (s := withdrawn k s) (k := { k with style := some .stopped }) rfl hh
  rw [hcomes.closedWith] at hhalt
  exact ⟨_, hexec, hhalt.of_close hcomes⟩

omit hk hh in
/-- A cycle start whose sequencer's part closes the campaign. -/
theorem exec_cycleStart_halts {confirmed latch : Bool} {r : CampaignRecord} {cause : Option TripCause}
    (h : HaltTaken confirmed r cause latch s (seqCycle (roundState none s))) :
    ∃ t, exec (.cycleStart none) s = .next t ∧ HaltTaken confirmed r cause latch s t := by
  obtain ⟨frames, mail, ht, _⟩ := sendFrames_eq (!atEpoch (roundState none s)) (seqCycle (roundState none s))
  exact ⟨_, (exec_cycleStart hq none).trans (congrArg _ ht), h.frames frames mail⟩

end

/-! ### The last ramp step, and a confirmed plan -/

theorem nextScale_full {s : State} (hr : 0 < cfgRampTime s.store.image)
    (h : 1024 ≤ (s.lock.rampCount + 1) * 1024 * s.gen.period / (cfgRampTime s.store.image * 1000)) : nextScale s = 1024 := by
  have hne : cfgRampTime s.store.image * 1000 ≠ 0 := by omega
  unfold nextScale divFloor
  rw [if_neg hne]
  exact min_eq_left h

theorem rampStep_last {s : State} (h : nextScale s = 1024) :
    rampStep s = completeCampaign { s with lock.rampCount := s.lock.rampCount + 1, seq.scale := 1024 } := by
  unfold rampStep
  rw [h]
  exact if_pos rfl

theorem confirmPlan_stopped {p : Plan} {s : State} {k : Campaign} (hk : s.seq.campaign = some k)
    (hst : k.style = some .stopped) (hh : s.seq.heldHalt = true) :
    HaltTaken true (closedWith s k .completed) s.seq.tripCause s.lock.trip s (confirmPlan p s) := by
  have happly := applyPlan_comes p s
  obtain ⟨hseq, _⟩ := applyPlan_seq p s
  have hcomes : ComesToClose true s (modCampaign (fun k => { k with pendingTag := none })
      (postUrgent (.plan p.tag p.m p.voltage p.speed) (applyPlan p s))) := by
    refine happly.trans ⟨⟨(applyPlan p s).store.selfTest, by simp⟩, ?_, by simp, by simp, by simp, fun d => ?_⟩
    · simp [modCampaign]
    · rw [cell_of_cells (modCampaign_cells _ _), cell_of_cells (postUrgent_cells _ _)]
      exact .refl true _
  have hu : (modCampaign (fun k => { k with pendingTag := none })
      (postUrgent (.plan p.tag p.m p.voltage p.speed) (applyPlan p s))).seq.campaign
        = some { k with pendingTag := none } := by
    simp [modCampaign, hseq, hk]
  have hstyle : ¬(s.style = some .running ∨ s.style = some .held) := by
    rw [style_of_campaign hk, hst]
    simp
  have e : confirmPlan p s = completeCampaign (modCampaign (fun k => { k with pendingTag := none })
      (postUrgent (.plan p.tag p.m p.voltage p.speed) (applyPlan p s))) := by
    unfold confirmPlan
    exact if_neg hstyle
  rw [e]
  generalize modCampaign (fun k => { k with pendingTag := none })
    (postUrgent (.plan p.tag p.m p.voltage p.speed) (applyPlan p s)) = u at hcomes hu
  obtain ⟨_, _, _, _, _, hcause, hheld⟩ := hcomes.seq
  have hhalt := completeCampaign_held hu (hheld.trans hh)
  rw [hcomes.closedWith, hcause, hcomes.lock.1] at hhalt
  exact (hhalt.weaken true).of_close hcomes

section

variable {s : State} {k : Campaign} (hq : Quiet s) (hk : s.seq.campaign = some k) (hh : s.seq.heldHalt = true)

include hq hk hh

theorem exec_ramp_halts {c : Instr} (hc : c = .cycleStart none ∨ c = .rampComplete) (hs : s.seq.state = .ramp)
    (hr : 0 < cfgRampTime s.store.image)
    (h : 1024 ≤ (s.lock.rampCount + 1) * 1024 * cfgCyclePeriod s.store.image / (cfgRampTime s.store.image * 1000)) :
    ∃ t, exec c s = .next t ∧ HaltTaken false (closedWith s k .completed) s.seq.tripCause s.lock.trip s t := by
  have hround := roundState_round none s
  have hcomes := roundState_comes none s
  have hstart : rampDue s = true := by
    have hn : nextScale (startCycle s) = 1024 := nextScale_full hr h
    simp only [rampDue, hs, hn, decide_true, Bool.and_self]
  have hexec : exec c s = exec (.cycleStart none) s := by
    rcases hc with rfl | rfl
    · rfl
    · exact congrArg stepTo (if_pos hstart)
  have hscale : nextScale (roundState none s) = 1024 := by
    refine nextScale_full (by rw [hround.image]; exact hr) ?_
    rw [hround.image, hround.lock, hround.gen]
    exact h
  have hstep : seqCycle (roundState none s) = rampStep (roundState none s) := by
    unfold seqCycle
    rw [hround.seq, hs]
  rw [hexec]
  refine exec_cycleStart_halts hq ?_
  rw [hstep, rampStep_last hscale]
  generalize roundState none s = v at hround hcomes
  have hlast : ComesToClose false v { v with lock.rampCount := v.lock.rampCount + 1, seq.scale := 1024 } :=
    ⟨⟨_, rfl⟩, ⟨rfl, rfl, rfl, rfl, rfl, rfl, rfl⟩, ⟨rfl, rfl⟩, rfl, rfl, fun _ => .refl false _⟩
  have hall := hcomes.trans hlast
  have hhalt := completeCampaign_held (s := { v with lock.rampCount := v.lock.rampCount + 1, seq.scale := 1024 }) (k := k)
    (by rw [hround.seq]; exact hk) (by rw [hround.seq]; exact hh)
  rw [hall.closedWith, show v.seq.tripCause = s.seq.tripCause by rw [hround.seq],
    show v.lock.trip = s.lock.trip by rw [hround.lock]] at hhalt
  exact hhalt.of_close hall

theorem exec_epoch_halts {c : Instr} {p : Plan} {r : Rephase} (hc : c = .cycleStart none ∨ c = .epochCheck)
    (hs : s.seq.state = .rephase) (hst : k.style = some .stopped) (hp : s.plans.pending = some p)
    (hr : s.seq.rephase = some r) (he : r.epoch = s.gen.cycle + 1) (hconf : planConfirmed s p = true) :
    ∃ t, exec c s = .next t ∧ HaltTaken true (closedWith s k .completed) s.seq.tripCause s.lock.trip s t := by
  have hround := roundState_round none s
  have hcomes := roundState_comes none s
  have hdue : epochDue s = true := by
    unfold epochDue atEpoch
    simp only [hr, hs, he, decide_true, Bool.and_self]
  have hexec : exec c s = exec (.cycleStart none) s := by
    rcases hc with rfl | rfl
    · rfl
    · exact congrArg stepTo (if_pos hdue)
  rw [hexec]
  refine exec_cycleStart_halts hq ?_
  have hstep : seqCycle (roundState none s) = epochStep (roundState none s) := by
    unfold seqCycle
    rw [hround.seq, hs]
  have hconf' : planConfirmed (roundState none s) p = true :=
    (planConfirmed_congr (fun d => (hcomes.cell d).report) p).trans hconf
  have hcheck : epochStep (roundState none s) = confirmPlan p (roundState none s) := by
    unfold epochStep
    simp only [hround.plans, hround.seq, hp, hr]
    rw [if_pos (by rw [he, hround.gen]), if_pos hconf']
  rw [hstep, hcheck]
  generalize roundState none s = v at hround hcomes
  have hhalt := confirmPlan_stopped (p := p) (s := v) (k := k) (by rw [hround.seq]; exact hk) hst
    (by rw [hround.seq]; exact hh)
  rw [hcomes.closedWith, show v.seq.tripCause = s.seq.tripCause by rw [hround.seq],
    show v.lock.trip = s.lock.trip by rw [hround.lock]] at hhalt
  exact hhalt.of_close (hcomes.weaken true)

end

theorem abortedReplies_none {s : State} (h : s.rings.mail = ⟨none, none, none⟩) : abortedReplies s = [] := by
  simp [abortedReplies, phases, Rings.get, h]

/-- The trip cause and the TRIP latch of a campaign closed with this outcome. -/
def outcomeCause (s : State) : CampaignOutcome → Option TripCause × Bool
  | .tripped cause => (some cause, true)
  | _ => (s.seq.tripCause, s.lock.trip)

end Sys2Proof.Machine

open Sys2Proof Sys2Proof.Machine

/-- Settles O31: the request by the sequencer's state, and a held HALT by the event that closes the campaign. -/
theorem haltIsHeldOrTakesEffect : Obligations.HaltIsHeldOrTakesEffect := by
  unfold Obligations.HaltIsHeldOrTakesEffect
  refine ⟨fun tag s hs hmode => ⟨exec_halt_held tag hs hmode, fun hst => ?_⟩, fun s k c style outcome confirmed hq hh hk h => ?_⟩
  · have hexec := exec_halt_atOnce tag hs hmode hst
    have hkeeps := keeps_offState s
    have hmail : s.seq.state = .ready → (offState s).rings.mail = ⟨none, none, none⟩ := offState_mail
    have hoff : (offState s).seq.state = .off := by rw [offState_seq]
    obtain ⟨hstore, hseq, hplans, hqueue, hrings, hlink, ⟨timer, met, hlock⟩, hgen, hpending, hcell, hposts⟩ :=
      haltedOff .haltAtOnce hoff
    generalize syncLines false (haltDevice .haltAtOnce (offState s)) = t at *
    obtain ⟨l, hl, hreplies⟩ := pump_pushReply (s := s) (v := t)
      (l := if s.seq.state = .ready then abortedReplies s else []) 0x0A tag .ok [] (hlink.trans (offState_link s))
      (hgen.trans hkeeps.gen)
    have hstart : (offState s).lock.trip = s.lock.trip ∧ (offState s).lock.holdReq = s.lock.holdReq := by
      rw [offState_lock]
      exact ⟨rfl, rfl⟩
    rw [lineChange_start (s' := s) hstart.2 hstart.1] at hposts
    have hall := posts_append (offState_posts s) hposts
    have hdrive : t.lock.hoist = s.lock.hoist ∧ t.lock.driveRun = s.lock.driveRun ∧ t.lock.brakeSet = s.lock.brakeSet := by
      rw [hlock, offState_lock]
      exact ⟨rfl, rfl, rfl⟩
    have hlit : t.rings.lit = s.rings.lit := by rw [hrings, hkeeps.rings]
    refine ⟨_, hexec.trans (congrArg _ hl), ?_⟩
    dsimp only
    rw [hseq, offState_seq]
    refine ⟨?_, rfl, rfl, rfl, rfl, rfl, rfl, rfl, rfl, hplans, ?_, hlit, by rw [hrings], hgen.trans hkeeps.gen,
      hpending.trans hkeeps.pending, fun hr => ⟨by rw [hrings]; exact hmail hr, ?_⟩, fun hm => ?_, hall,
      by rw [hlock]; exact hstart.1, by rw [hlock], hdrive.1, hdrive.2.1, hdrive.2.2, fun d => ?_⟩
    · rw [hstore, hkeeps.store]
    · rw [hqueue]; simp [offState]
    · rw [if_pos hr] at hreplies
      exact hreplies
    · rw [abortedReplies_none hm, ite_self] at hreplies
      exact hreplies
    · have hd := haltedCell_record (offState s).now ((offState s).cell d)
      rw [← hcell d, offState_cell] at hd
      exact ⟨hd.service, hd.flags, hd.offset, hd.link, hd.missCount, hd.goodRun, hd.unsteadyCount, hd.dcDebounce,
        hd.ability, hd.report, hd.fault, hd.strikes, hd.activeTime, hd.reportAge⟩
  · obtain ⟨t, ht, hhalt⟩ : ∃ t, exec c s = .next t ∧ HaltTaken confirmed (closedWith s { k with style := style } outcome)
        (outcomeCause s outcome).1 (outcomeCause s outcome).2 s t := by
      rcases h with ⟨b, rfl, rfl, rfl, hst, hb, hdue, rfl⟩ | ⟨b, rfl, rfl, rfl, hst, hb, hdue, rfl⟩
        | ⟨b, rfl, rfl, rfl, hstyle, hst, hb, hdue, hlevel, rfl⟩ | ⟨hc, rfl, rfl, hst, hr, hlast, rfl⟩
        | ⟨p, r, hc, rfl, rfl, hst, hstyle, hp, hr, he, hconf, rfl⟩
      · exact ⟨_, exec_resumeTimer_trips hq hst hb hdue, trip_held .resumeTimeout hk hh (stage_trips (by simp [hst])).1⟩
      · exact ⟨_, exec_brakeConfirm_trips hq hb hdue, trip_held .brakeNoConfirm hk hh (stage_trips hst).1⟩
      · exact exec_withdrawn_halts hq hk hh hb hdue hlevel hstyle hst
      · exact exec_ramp_halts hq hk hh hc hst hr hlast
      · exact exec_epoch_halts hq hk hh hc hst hstyle hp hr he hconf
    refine ⟨t, ht, hhalt.store, hhalt.state, hhalt.scale, hhalt.heldHalt, hhalt.campaign, hhalt.history, hhalt.attempts,
      hhalt.lastTag, hhalt.lastNumber, ?_, ?_, hhalt.plans, hhalt.queue, hhalt.healthOn, hhalt.holdReq, hhalt.holdMark,
      hhalt.resumeTimer, hhalt.brakeConfirm, hhalt.rideThrough, hhalt.rampCount, hhalt.hoist, hhalt.pending, fun d => ?_⟩
    · rintro cause rfl
      exact ⟨hhalt.tripCause, hhalt.trip⟩
    · rintro rfl
      exact ⟨hhalt.tripCause, hhalt.trip⟩
    · obtain ⟨hlink, hmiss, hgood, hunsteady, hdc, hidle, hservice, hfault, hstrikes, hability, hreport⟩ := hhalt.cell d
      exact ⟨hlink, hmiss, hgood, hunsteady, hdc, hidle, hservice, hfault, hstrikes, hability, hreport⟩
end

section
/-! PROOFS. The carrier arithmetic of a plan (R110, R111): the period from the carrier frequency, and the offsets, which are
floors of equally spaced shares of that period. -/

namespace Sys2Proof.Machine

open Sys2Proof

theorem divFloor_of_pos {b : Nat} (a : Nat) (h : 0 < b) : divFloor a b = a / b := if_neg h.ne'

theorem carrierPeriod_eq {image : List Byte} (h : 0 < cfgCarrier image) :
    carrierPeriod image = (80000000 + cfgCarrier image) / (2 * cfgCarrier image) := divFloor_of_pos _ (by omega)

/-- A later share of the carrier period begins at least one whole share after an earlier one (R111). -/
theorem share_add_le {i i' : Nat} (period d : Nat) (h : i < i') : period * i / d + period / d ≤ period * i' / d :=
  calc period * i / d + period / d
    _ ≤ (period * i + period) / d := Nat.div_add_div_le_add_div ..
    _ = period * (i + 1) / d := by rw [Nat.mul_succ]
    _ ≤ period * i' / d := Nat.div_le_div_right (Nat.mul_le_mul_left _ h)

/-- The shares of the first half of the carrier period are indexed below 3m (R111). -/
theorem two_mul_carrierOffset_lt {period m j k : Nat} (hp : 0 < period) (hj : j < 3) (hk : k < m) :
    2 * carrierOffset period m j k < period := by
  have hfloor : carrierOffset period m j k * (6 * m) ≤ period * (3 * k + j) := Nat.div_mul_le_self ..
  have hindex : period * (3 * k + j) < period * (3 * m) := Nat.mul_lt_mul_of_pos_left (by omega) hp
  exact Nat.lt_of_mul_lt_mul_right (a := 3 * m) (by linarith)

end Sys2Proof.Machine

open Sys2Proof Sys2Proof.Machine

/-- Settles O52, from the floor of the quotient. -/
theorem carrierPeriodIsRoundedHalfUp : Obligations.CarrierPeriodIsRoundedHalfUp := by
  unfold Obligations.CarrierPeriodIsRoundedHalfUp
  intro image hlow hhigh
  have hpos : 0 < 2 * cfgCarrier image := by omega
  rw [carrierPeriod_eq (by omega)]
  refine ⟨rfl, Nat.mul_div_le .., Nat.lt_mul_div_succ _ hpos, by omega, by decide, ?_, ?_⟩
  · rw [Nat.le_div_iff_mul_le hpos]
    omega
  · rw [← Nat.lt_succ_iff, Nat.div_lt_iff_lt_mul hpos]
    omega

/-- Settles O53: the offsets lie a whole share apart, and the last share begins below half the period. -/
theorem carrierOffsetsInterleave : Obligations.CarrierOffsetsInterleave := by
  unfold Obligations.CarrierOffsetsInterleave
  intro period m hlow _ hm hm8
  refine ⟨?_, fun j k hj hk => ⟨rfl, two_mul_carrierOffset_lt (by omega) hj hk⟩,
    fun j k j' k' _ _ _ _ h => share_add_le _ _ h⟩
  rw [Nat.le_div_iff_mul_le (by omega)]
  omega
end

section
/-! PROOFS. What a computed plan holds: its candidates (R104), the order of selection as a linear order by a key of three parts
(R107), the cells that a phase takes (R106, R108), and its ceilings (R112, R113). -/

namespace Sys2Proof.Machine

open Sys2Proof

/-! ### Candidates (R104) -/

theorem isCandidate_iff (s : State) (c : CellRef) : isCandidate s c = true ↔
    (s.cell c).service.working = true ∧ (s.cell c).link = .enrolled ∧ (s.cell c).suspect = false
    ∧ ∃ r, (s.cell c).report = some r ∧ r.dc ≠ 4095 ∧ cfgDcLow s.store.image ≤ r.dc
      ∧ r.dc ≤ cfgDcHigh s.store.image := by
  cases h : (s.cell c).report <;> simp [isCandidate, lastDc, insideWindow, h, and_assoc]

theorem lastDc_le_of_isCandidate {s : State} {c : CellRef} (h : isCandidate s c = true) :
    lastDc (s.cell c) ≤ cfgDcHigh s.store.image := by
  obtain ⟨-, -, -, r, hr, -, -, hhigh⟩ := (isCandidate_iff s c).1 h
  rwa [lastDc, hr]

theorem mem_candidates {s : State} {p : Phase} {c : CellRef} :
    c ∈ candidates s p ↔ phaseOf c = p ∧ isCandidate s c = true := by
  rw [candidates, List.mem_filter, mem_cellsOf]

theorem nodup_candidates (s : State) (p : Phase) : (candidates s p).Nodup := (nodup_cellsOf p).filter _

theorem candidates_length_le (s : State) (p : Phase) : (candidates s p).length ≤ 8 :=
  (List.length_filter_le ..).trans_eq (cellsOf_length p)

theorem activeCount_le_candidates (s : State) (p : Phase) : activeCount s ≤ (candidates s p).length := by
  unfold activeCount
  cases p <;> omega

/-! ### The order of selection (R107) -/

/-- The three keys of the selection, the first deciding before the second and the second before the third. -/
def selectionKey (s : State) (prefer : Bool) (c : CellRef) : Nat ×ₗ Nat ×ₗ Nat :=
  toLex (activeKey s prefer c, toLex ((s.cell c).activeTime, positionOf c))

theorem selectionKey_le_iff {s : State} {prefer : Bool} {a b : CellRef} :
    selectionKey s prefer a ≤ selectionKey s prefer b ↔
      activeKey s prefer a < activeKey s prefer b ∨ activeKey s prefer a = activeKey s prefer b
        ∧ ((s.cell a).activeTime < (s.cell b).activeTime
          ∨ (s.cell a).activeTime = (s.cell b).activeTime ∧ positionOf a ≤ positionOf b) := by
  simp [selectionKey, Prod.Lex.toLex_le_toLex]

theorem comesBefore_iff {s : State} {prefer : Bool} {a b : CellRef} :
    comesBefore s prefer a b = true ↔ selectionKey s prefer a ≤ selectionKey s prefer b := by
  rw [selectionKey_le_iff, comesBefore]
  by_cases hkey : activeKey s prefer a = activeKey s prefer b
  · by_cases htime : (s.cell a).activeTime = (s.cell b).activeTime
    · simp [hkey, htime]
    · simp [hkey, htime]
  · simp [hkey]

theorem activeKey_lt_iff {s : State} {prefer : Bool} {a b : CellRef} : activeKey s prefer a < activeKey s prefer b ↔
    prefer = true ∧ (s.cell a).service = .active ∧ (s.cell b).service ≠ .active := by
  cases prefer with
  | false => simp [activeKey]
  | true => by_cases hb : (s.cell b).service = .active <;> simp [activeKey, hb]

theorem activeKey_eq_iff {s : State} {prefer : Bool} {a b : CellRef} : activeKey s prefer a = activeKey s prefer b ↔
    prefer = false ∨ ((s.cell a).service = .active ↔ (s.cell b).service = .active) := by
  cases prefer with
  | false => simp [activeKey]
  | true => by_cases hb : (s.cell b).service = .active <;> simp [activeKey, hb]

theorem insertCandidate_eq_orderedInsert (s : State) (prefer : Bool) (c : CellRef) (l : List CellRef) :
    insertCandidate s prefer c l = l.orderedInsert (fun a b => comesBefore s prefer a b = true) c := by
  induction l with
  | nil => rfl
  | cons d ds ih => rw [insertCandidate, List.orderedInsert_cons, ih]

theorem sortCandidates_eq_insertionSort (s : State) (prefer : Bool) (l : List CellRef) :
    sortCandidates s prefer l = l.insertionSort fun a b => comesBefore s prefer a b = true := by
  induction l with
  | nil => rfl
  | cons c l ih => rw [List.insertionSort_cons, ← ih, ← insertCandidate_eq_orderedInsert]; rfl

theorem sortCandidates_perm (s : State) (prefer : Bool) (l : List CellRef) : (sortCandidates s prefer l).Perm l := by
  rw [sortCandidates_eq_insertionSort]
  exact List.perm_insertionSort _ l

theorem sortCandidates_pairwise (s : State) (prefer : Bool) (l : List CellRef) :
    (sortCandidates s prefer l).Pairwise fun a b => selectionKey s prefer a ≤ selectionKey s prefer b := by
  simp_rw [sortCandidates_eq_insertionSort, comesBefore_iff]
  have htotal : Std.Total fun a b => selectionKey s prefer a ≤ selectionKey s prefer b := ⟨fun _ _ => le_total _ _⟩
  have htrans : IsTrans CellRef fun a b => selectionKey s prefer a ≤ selectionKey s prefer b := ⟨fun _ _ _ => le_trans⟩
  exact List.pairwise_insertionSort _ l

/-- What the first part of an ordered list leaves out comes after all that it takes. -/
theorem rel_of_mem_take {α : Type} {r : α → α → Prop} {l : List α} {n : Nat} {x y : α} (hl : l.Pairwise r)
    (hx : x ∈ l.take n) (hy : y ∈ l) (hout : y ∉ l.take n) : r x y := by
  rw [← List.take_append_drop n l] at hl hy
  exact (List.pairwise_append.1 hl).2.2 x hx y ((List.mem_append.1 hy).resolve_left hout)

/-! ### The cells that a phase takes (R106, R108) -/

theorem mem_selected {s : State} {prefer : Bool} {m : Nat} {p : Phase} {c : CellRef} :
    c ∈ selected s prefer m p ↔ c ∈ (sortCandidates s prefer (candidates s p)).take m := by
  have hphase (h : c ∈ (sortCandidates s prefer (candidates s p)).take m) : phaseOf c = p :=
    (mem_candidates.1 ((sortCandidates_perm ..).mem_iff.1 (List.mem_of_mem_take h))).1
  simpa [selected, mem_cellsOf] using hphase

theorem selected_candidate {s : State} {prefer : Bool} {m : Nat} {p : Phase} {c : CellRef}
    (h : c ∈ selected s prefer m p) : phaseOf c = p ∧ isCandidate s c = true :=
  mem_candidates.1 ((sortCandidates_perm ..).mem_iff.1 (List.mem_of_mem_take (mem_selected.1 h)))

theorem selected_length {m : Nat} {p : Phase} (s : State) (prefer : Bool) (h : m ≤ (candidates s p).length) :
    (selected s prefer m p).length = m := by
  have hsort := sortCandidates_perm s prefer (candidates s p)
  have hnodup : ((sortCandidates s prefer (candidates s p)).take m).Nodup :=
    (hsort.nodup_iff.2 (nodup_candidates s p)).sublist (List.take_sublist ..)
  have hperm : (selected s prefer m p).Perm ((sortCandidates s prefer (candidates s p)).take m) :=
    (List.perm_ext_iff_of_nodup ((nodup_cellsOf p).filter _) hnodup).2 fun _ => mem_selected
  rw [hperm.length_eq, List.length_take, hsort.length_eq, Nat.min_eq_left h]

theorem cellsOf_ascending (p : Phase) : (cellsOf p).Pairwise fun c d => positionOf c < positionOf d := by
  cases p <;> decide

theorem selected_ascending (s : State) (prefer : Bool) (m : Nat) (p : Phase) :
    (selected s prefer m p).Pairwise fun c d => positionOf c < positionOf d := (cellsOf_ascending p).filter _

theorem selected_first {s : State} {prefer : Bool} {m : Nat} {c d : CellRef} (hc : c ∈ selected s prefer m (phaseOf d))
    (hd : isCandidate s d = true) (hout : d ∉ selected s prefer m (phaseOf d)) :
    selectionKey s prefer c ≤ selectionKey s prefer d :=
  rel_of_mem_take (r := fun a b => selectionKey s prefer a ≤ selectionKey s prefer b) (sortCandidates_pairwise ..)
    (mem_selected.1 hc) ((sortCandidates_perm ..).mem_iff.2 (mem_candidates.2 ⟨rfl, hd⟩)) (mt mem_selected.2 hout)

theorem positionOf_injective {c d : CellRef} (hphase : phaseOf c = phaseOf d) (hpos : positionOf c = positionOf d) :
    c = d := by
  have hc := cellsOf_position c
  rw [hphase, hpos, cellsOf_position d] at hc
  exact (Option.some.inj hc).symm

/-! ### An active list with its offsets (R111) -/

theorem withOffsets_cells (period m j : Nat) (l : List CellRef) : (withOffsets period m j l).map Prod.fst = l := by
  rw [withOffsets, List.map_map]
  exact List.zipIdx_map_fst 0 l

theorem withOffsets_getElem? {period m j k : Nat} {l : List CellRef} {x : CellRef × Nat}
    (h : (withOffsets period m j l)[k]? = some x) : x.2 = carrierOffset period m j k := by
  simp only [withOffsets, List.getElem?_map, List.getElem?_zipIdx, Option.map_map, Option.map_eq_some_iff] at h
  obtain ⟨c, -, rfl⟩ := h
  simp

theorem mem_deselectedCells {s : State} {l : List CellRef} {c : CellRef} :
    c ∈ deselectedCells s l ↔ (s.cell c).service = .active ∧ c ∉ l := by
  simp [deselectedCells, mem_allCells]

theorem deselectedCells_ascending (s : State) (l : List CellRef) :
    (deselectedCells s l).Pairwise fun c d => c.val < d.val := (List.pairwise_lt_finRange 24).filter _

/-! ### The plan -/

theorem computePlan_eq_none_iff (s : State) (prefer : Bool) (tag : Byte) :
    computePlan s prefer tag = none ↔ activeCount s = 0 ∨ activeCount s < cfgMinActive s.store.image := by
  simp [computePlan, or_iff_not_imp_left]

/-- The items of the plan computed from a state. -/
structure PlanOf (s : State) (prefer : Bool) (tag : Byte) (p : Plan) : Prop where
  tag : p.tag = tag
  m : p.m = activeCount s
  active : ∀ ph, p.active.get ph =
    withOffsets (carrierPeriod s.store.image) (activeCount s) ph.index (selected s prefer (activeCount s) ph)
  deselected : p.deselected = deselectedCells s (selected s prefer (activeCount s) .a
    ++ selected s prefer (activeCount s) .b ++ selected s prefer (activeCount s) .c)
  voltage : p.voltage = voltageCeiling (min (dcSum s (selected s prefer (activeCount s) .a))
    (min (dcSum s (selected s prefer (activeCount s) .b)) (dcSum s (selected s prefer (activeCount s) .c))))
    (cfgModulation s.store.image)
  speed : p.speed = speedCeiling s.store.image p.voltage

theorem computePlan_planOf {s : State} {prefer : Bool} {tag : Byte} {p : Plan} (h : computePlan s prefer tag = some p) :
    PlanOf s prefer tag p := by
  simp only [computePlan, Option.ite_none_left_eq_some, Option.some.injEq] at h
  obtain ⟨-, rfl⟩ := h
  exact ⟨rfl, rfl, fun ph => by cases ph <;> rfl, rfl, rfl, rfl⟩

section
variable {s : State} {prefer : Bool} {tag : Byte} {p : Plan}

theorem PlanOf.cells (h : PlanOf s prefer tag p) (ph : Phase) :
    (p.active.get ph).map Prod.fst = selected s prefer (activeCount s) ph := by
  rw [h.active, withOffsets_cells]

theorem PlanOf.length (h : PlanOf s prefer tag p) (ph : Phase) : (p.active.get ph).length = activeCount s := by
  rw [← List.length_map (f := Prod.fst), h.cells, selected_length s prefer (activeCount_le_candidates s ph)]

theorem PlanOf.mem_selected (h : PlanOf s prefer tag p) {ph : Phase} {x : CellRef × Nat} (hx : x ∈ p.active.get ph) :
    x.1 ∈ selected s prefer (activeCount s) ph := h.cells ph ▸ List.mem_map_of_mem hx

theorem PlanOf.ascending (h : PlanOf s prefer tag p) (ph : Phase) :
    (p.active.get ph).Pairwise fun x y => positionOf x.1 < positionOf y.1 :=
  List.pairwise_map (R := fun c d => positionOf c < positionOf d).1 (h.cells ph ▸ selected_ascending ..)

theorem PlanOf.not_mem_selected (h : PlanOf s prefer tag p) {ph : Phase} {c : CellRef} :
    c ∉ selected s prefer (activeCount s) ph ↔ ∀ x ∈ p.active.get ph, x.1 ≠ c := by
  rw [← h.cells, List.mem_map]
  exact ⟨fun hout x hx hxc => hout ⟨x, hx, hxc⟩, fun hout ⟨x, hx, hxc⟩ => hout x hx hxc⟩

theorem PlanOf.mem_deselected (h : PlanOf s prefer tag p) (c : CellRef) :
    c ∈ p.deselected ↔ (s.cell c).service = .active ∧ ∀ ph : Phase, ∀ x ∈ p.active.get ph, x.1 ≠ c := by
  simp_rw [h.deselected, mem_deselectedCells, ← h.not_mem_selected, List.mem_append, not_or]
  refine and_congr_right fun _ => ⟨fun ⟨⟨ha, hb⟩, hc⟩ ph => ?_, fun hout => ⟨⟨hout .a, hout .b⟩, hout .c⟩⟩
  cases ph
  case a => exact ha
  case b => exact hb
  case c => exact hc

/-- A chosen cell comes before a candidate of its phase that is not chosen (R107). -/
theorem PlanOf.chosen_first (h : PlanOf s prefer tag p) {x : CellRef × Nat} {d : CellRef}
    (hx : x ∈ p.active.get (phaseOf d)) (hd : isCandidate s d = true) (hout : ∀ y ∈ p.active.get (phaseOf d), y.1 ≠ d) :
    (prefer = true ∧ (s.cell x.1).service = .active ∧ (s.cell d).service ≠ .active)
    ∨ ((prefer = false ∨ ((s.cell x.1).service = .active ↔ (s.cell d).service = .active))
      ∧ ((s.cell x.1).activeTime < (s.cell d).activeTime
        ∨ ((s.cell x.1).activeTime = (s.cell d).activeTime ∧ positionOf x.1 < positionOf d))) := by
  have hphase : phaseOf x.1 = phaseOf d := (selected_candidate (h.mem_selected hx)).1
  have hpos : positionOf x.1 ≠ positionOf d := mt (positionOf_injective hphase) (hout x hx)
  rw [← activeKey_lt_iff, ← activeKey_eq_iff]
  refine (selectionKey_le_iff.1 (selected_first (h.mem_selected hx) hd (h.not_mem_selected.2 hout))).imp_right ?_
  exact And.imp_right (Or.imp_right (And.imp_right (lt_of_le_of_ne · hpos)))

/-! ### The ceilings (R112, R113) -/

theorem dcSum_le {l : List CellRef} {high : Nat} (h : ∀ c ∈ l, lastDc (s.cell c) ≤ high) : dcSum s l ≤ l.length * high := by
  simpa [dcSum] using List.sum_le_card_nsmul (l.map fun c => lastDc (s.cell c)) high (by simpa using h)

theorem dcSum_selected_le (s : State) (prefer : Bool) (p : Phase) :
    dcSum s (selected s prefer (activeCount s) p) ≤ 8 * cfgDcHigh s.store.image := by
  have hcount := activeCount_le_candidates s p
  refine (dcSum_le fun c hc => lastDc_le_of_isCandidate (selected_candidate hc).2).trans ?_
  rw [selected_length s prefer hcount]
  exact Nat.mul_le_mul_right _ (hcount.trans (candidates_length_le s p))

theorem voltageCeiling_le {smin m : Nat} (hs : smin ≤ 32752) (hm : m ≤ 1024) : voltageCeiling smin m ≤ 20058 :=
  calc smin * m * 5017 / 8388608
    _ ≤ 32752 * 1024 * 5017 / 8388608 := Nat.div_le_div_right (Nat.mul_le_mul_right _ (Nat.mul_le_mul hs hm))
    _ = 20058 := by norm_num

theorem PlanOf.voltage_le (h : PlanOf s prefer tag p) (hm : cfgModulation s.store.image ≤ 1024)
    (hdc : cfgDcHigh s.store.image ≤ 4094) : p.voltage ≤ 20058 := by
  have hsum := dcSum_selected_le s prefer .a
  rw [h.voltage]
  exact voltageCeiling_le (by omega) hm

theorem PlanOf.voltage_eq (h : PlanOf s prefer tag p) : ∃ sum : Phase → Nat,
    (∀ ph : Phase, sum ph = ((p.active.get ph).map fun x => ((s.cell x.1).report.map Report.dc).getD 0).sum)
    ∧ p.voltage = min (sum .a) (min (sum .b) (sum .c)) * cfgModulation s.store.image * 5017 / 8388608 := by
  refine ⟨fun ph => dcSum s (selected s prefer (activeCount s) ph), fun ph => ?_, h.voltage⟩
  dsimp only
  rw [← h.cells, dcSum, List.map_map]
  rfl

end

end Sys2Proof.Machine

open Sys2Proof Sys2Proof.Machine

/-- Settles O54: the voltage ceiling is bounded by eight cells at the top of the DC window. -/
theorem ceilingsAreBounded : Obligations.CeilingsAreBounded := by
  unfold Obligations.CeilingsAreBounded
  intro s prefer tag p hp _ hspeed hvolt _ _ hmod hdc
  have h := computePlan_planOf hp
  have hvoltage := h.voltage_le hmod hdc
  have hmin := h.speed
  rw [speedCeiling, divFloor_of_pos _ (by omega)] at hmin
  exact ⟨hmin, Nat.mul_le_mul hspeed hvoltage, by decide, hmin.trans_le (min_le_left ..), hvoltage, h.voltage_eq⟩

/-- Settles O55: the selection is the first part of the sorted candidates, put back in record order. -/
theorem planTakesEquallyManyCandidates : Obligations.PlanTakesEquallyManyCandidates := by
  unfold Obligations.PlanTakesEquallyManyCandidates
  intro s prefer tag m hm
  obtain rfl : m = activeCount s := hm
  refine ⟨computePlan_eq_none_iff s prefer tag, fun p hp => ?_⟩
  have h := computePlan_planOf hp
  refine ⟨h.tag, h.m, fun ph => ⟨h.length ph, h.ascending ph, fun x hx => selected_candidate (h.mem_selected hx), ?_⟩,
    isCandidate_iff s, fun x d => h.chosen_first, ?_, h.mem_deselected⟩
  · intro k x hx
    rw [h.active] at hx
    exact withOffsets_getElem? hx
  · rw [h.deselected]
    exact deselectedCells_ascending ..
end

section
/-! PROOFS. The interlock unit's own record and inputs: HOIST_STATUS, and the pins with their qualification. -/

namespace Sys2Proof.Machine

open Sys2Proof

/-! ### HOIST_STATUS (R121) -/

theorem serveHoistStatus_unnamed (tag : Byte) (speed : BitVec 16) {zone : Byte} (s : State) (h : zoneOfCode zone = none) :
    serveHoistStatus tag speed zone s = pushReply 0x14 tag .range [] s := by
  unfold serveHoistStatus
  rw [h]

theorem serveHoistStatus_named (tag : Byte) (speed : BitVec 16) {zone : Byte} {z : Zone} (s : State)
    (h : zoneOfCode zone = some z) : serveHoistStatus tag speed zone s = pushReply 0x14 tag .ok [] { s with
      lock.hoist := some { speed := clampSpeed speed, zone := z, stamp := s.gen.timebase, fresh := true } } := by
  unfold serveHoistStatus
  rw [h]
  rfl

/-! ### The pins and their qualification (R119, R126, R135) -/

theorem qualify_asserts {x : Input} (h : x.level = false) :
    qualify x = { pin := x.pin, level := true, change := none } := by
  simp [qualify, h]

theorem qualify_releases {x : Input} (h : x.level = true) :
    qualify x = { pin := x.pin, level := false, change := none } := by
  simp [qualify, h]

theorem brakeSetDue_iff {s : State} {b : Stamp} (hb : s.lock.brakeSet.change = some b) :
    brakeSetDue s = true ↔ 1000 ≤ (s.gen.timebase - b).toNat := by
  rw [brakeSetDue, hb, ranFor_some, decide_eq_true_iff]

theorem style_none {s : State} (h : s.seq.campaign = none) : s.style = none := by simp [State.style, h]

/-- With no campaign open a qualified level acts on nothing (R126). -/
theorem driveRunChanged_idle {s : State} (h : s.seq.campaign = none) : driveRunChanged s = s := by
  unfold driveRunChanged
  rw [style_none h]
  split <;> exact if_neg (by simp)

/-- With no campaign open and no brake confirm timer BRAKE_SET's qualified level acts on nothing (R127). -/
theorem brakeSetChanged_idle {s : State} (h : s.seq.campaign = none) (hb : s.lock.brakeConfirm = none) :
    brakeSetChanged s = s := by
  have hlock : { s.lock with brakeConfirm := none } = s.lock := by rw [← hb]
  unfold brakeSetChanged
  rw [style_none h, hlock]
  split
  · exact if_neg (by simp)
  · rfl

/-- BRAKE_SET deasserted changes the qualified level alone (R127). -/
theorem brakeSetChanged_released {s : State} (h : s.lock.brakeSet.level = false) : brakeSetChanged s = s :=
  if_neg (by simp [h])

/-- BRAKE_SET asserted confirms the brake, and does no more in a campaign that is not RUNNING (R127). -/
theorem brakeSetChanged_confirms {s : State} (h : s.lock.brakeSet.level = true) (hstyle : s.style ≠ some .running) :
    brakeSetChanged s = { s with lock.brakeConfirm := none } :=
  (if_pos h).trans (if_neg hstyle)

end Sys2Proof.Machine

open Sys2Proof Sys2Proof.Machine

/-- Settles O29: the request by what its zone code names. -/
theorem hoistStatusReplacesTheRecord : Obligations.HoistStatusReplacesTheRecord := by
  unfold Obligations.HoistStatusReplacesTheRecord
  refine ⟨fun _ => rfl, fun tag speed zone s hs => ⟨fun hz => ?_, fun z hz => ?_⟩⟩
  · exact exec_replied (op := .hoistStatus speed zone) rfl hs rfl (serveHoistStatus_unnamed tag speed s hz)
  · exact exec_served (op := .hoistStatus speed zone) rfl hs rfl (serveHoistStatus_named tag speed s hz) hs.1

/-- Settles O39: a pin's change by the pin and the level, and its qualification by the time it has lasted. -/
theorem inputChangesAreQualified : Obligations.InputChangesAreQualified := by
  unfold Obligations.InputChangesAreQualified
  refine ⟨fun asserted s => ⟨rfl, rfl⟩, fun s hk => ⟨fun b hb hdue => ?_, fun b hb hdue hconfirm => ?_,
    fun b hb hearly => ?_, fun b hb hearly => ?_⟩⟩
  · have e : qualifyDriveRun s = { s with lock.driveRun := qualify s.lock.driveRun } :=
      (qualifyDriveRun_due ((driveRunDue_iff hb).2 hdue)).trans (driveRunChanged_idle hk)
    exact congrArg stepTo e
  · have e : qualifyBrakeSet s = { s with lock.brakeSet := qualify s.lock.brakeSet } :=
      (qualifyBrakeSet_due ((brakeSetDue_iff hb).2 hdue)).trans (brakeSetChanged_idle hk hconfirm)
    exact congrArg stepTo e
  · have hnot : driveRunDue s = false := Bool.eq_false_iff.2 (mt (driveRunDue_iff hb).1 (Nat.not_le.2 hearly))
    exact congrArg stepTo (qualifyDriveRun_early hnot)
  · have hnot : brakeSetDue s = false := Bool.eq_false_iff.2 (mt (brakeSetDue_iff hb).1 (Nat.not_le.2 hearly))
    exact congrArg stepTo (qualifyBrakeSet_early hnot)
end

section
/-! PROOFS. A campaign that becomes HELD: what the conversion writes, and the three events that bring it about. -/

namespace Sys2Proof.Machine

open Sys2Proof

/-! ### The conversion (R124) -/

theorem keeps_convertToHeld (s : State) : Keeps s (convertToHeld s) :=
  (keeps_syncLines _ _).after ((keeps_postOpen _).after (keeps_toHeld s))

/-- What a conversion to HELD writes. -/
structure HeldEntry (k : Campaign) (s t : State) : Prop where
  seq : t.seq = { s.seq with campaign := some { k with style := some .held } }
  lock : ∃ timer met, t.lock = { s.lock with
    holdMark := true, holdReq := true, holdTimer := timer, holdMet := met, rideThrough := none
    brakeConfirm := if s.lock.brakeSet.level then none else some s.gen.timebase
    resumeTimer := if s.seq.state = .awaitResume then some s.gen.timebase else s.lock.resumeTimer }
  cells : t.cells = s.cells
  queue : t.queue = s.queue
  plans : t.plans = s.plans
  store : t.store = s.store
  rings : t.rings = s.rings
  gen : t.gen = s.gen
  pending : t.pending = s.pending

theorem convertToHeld_entry {s : State} {k : Campaign} (hk : s.seq.campaign = some k) :
    HeldEntry k s (convertToHeld s) := by
  have hseq := toHeld_seq hk
  have hdemand : holdDemand { postOpen (toHeld s) with
      lock.trip := (postOpen (toHeld s)).lock.trip || false } = true := by
    rw [holdDemand_iff]
    refine .inr (.inr (.inr ⟨?_, ?_⟩))
    · rw [postOpen_seq, hseq]
      rfl
    · change (postOpen (toHeld s)).lock.holdMark = true
      rw [postOpen_lock]
      rfl
  constructor
  case seq => rw [convertToHeld, syncLines_seq, postOpen_seq, hseq]
  case lock =>
    rw [convertToHeld, syncLines_lock, followDemand_on_lock hdemand]
    simp only [postOpen_lock, Bool.or_false]
    exact ⟨_, _, rfl⟩
  all_goals simp [convertToHeld]

/-! ### The events (R124 to R127) -/

theorem rideThroughDue_iff {s : State} {b : Stamp} (hb : s.lock.rideThrough = some b) :
    rideThroughDue s = true ↔ cfgRideThrough s.store.image * 1000 ≤ (s.gen.timebase - b).toNat := by
  rw [rideThroughDue, hb, ranFor_some, decide_eq_true_iff]

/-- The ride-through budget is spent: its marker, and in a RUNNING campaign before RAMP the conversion (R125). -/
theorem rideThroughEnds_due {s : State} (h : rideThroughDue s = true) :
    rideThroughEnds s = if s.style = some .running ∧ s.seq.state ≠ .ramp
      then convertToHeld { s with lock.rideThrough := none, lock.budgetSpent := true }
      else { s with lock.rideThrough := none, lock.budgetSpent := true } := if_pos h

/-- A command comes to the conversion with the interlock unit's items as `l` has them; `brake` is the level that decides on
the brake confirm timer. -/
structure ComesToHeld (c : Instr) (brake : Bool) (s : State) (l : Interlock) : Prop where
  exec : exec c s = .next (settle (convertToHeld { s with lock := l }))
  brakeSet : l.brakeSet.level = brake
  driveRun : l.driveRun.level = (s.lock.driveRun.level || decide (c = .driveRunQualified))
  budgetSpent : l.budgetSpent = (s.lock.budgetSpent || decide (c = .rideThroughExpiry))
  trip : l.trip = s.lock.trip
  hoist : l.hoist = s.lock.hoist
  rampCount : l.rampCount = s.lock.rampCount
  resumeTimer : l.resumeTimer = s.lock.resumeTimer

section

variable {s : State} {k : Campaign} {b : Stamp} (hk : s.seq.campaign = some k)

include hk

theorem rideThroughExpiry_comes (hb : s.lock.rideThrough = some b)
    (hdue : cfgRideThrough s.store.image * 1000 ≤ (s.gen.timebase - b).toNat) (hstyle : k.style = some .running)
    (hramp : s.seq.state ≠ .ramp) :
    ComesToHeld .rideThroughExpiry s.lock.brakeSet.level s { s.lock with rideThrough := none, budgetSpent := true } := by
  have e := (rideThroughEnds_due ((rideThroughDue_iff hb).2 hdue)).trans
    (if_pos ⟨(style_of_campaign hk).trans hstyle, hramp⟩)
  exact ⟨congrArg stepTo e, rfl, (Bool.or_false _).symm, (Bool.or_true _).symm, rfl, rfl, rfl, rfl⟩

theorem brakeSetQualified_comes (hb : s.lock.brakeSet.change = some b) (hdue : 1000 ≤ (s.gen.timebase - b).toNat)
    (hlevel : s.lock.brakeSet.level = false) (hstyle : k.style = some .running) :
    ComesToHeld .brakeSetQualified true s
      { s.lock with brakeSet := qualify s.lock.brakeSet, brakeConfirm := none } := by
  have hqualified : (qualify s.lock.brakeSet).level = true := by rw [qualify_asserts hlevel]
  have e : qualifyBrakeSet s = convertToHeld { s with
      lock := { s.lock with brakeSet := qualify s.lock.brakeSet, brakeConfirm := none } } := by
    rw [qualifyBrakeSet_due ((brakeSetDue_iff hb).2 hdue)]
    exact (if_pos hqualified).trans (if_pos ((style_of_campaign hk).trans hstyle))
  exact ⟨congrArg stepTo e, hqualified, (Bool.or_false _).symm, (Bool.or_false _).symm, rfl, rfl, rfl, rfl⟩

theorem driveRunQualified_comes (hb : s.lock.driveRun.change = some b) (hdue : 1000 ≤ (s.gen.timebase - b).toNat)
    (hlevel : s.lock.driveRun.level = false) (hstyle : k.style = some .stopped) :
    ComesToHeld .driveRunQualified s.lock.brakeSet.level s { s.lock with driveRun := qualify s.lock.driveRun } := by
  have hqualified : (qualify s.lock.driveRun).level = true := by rw [qualify_asserts hlevel]
  have e : qualifyDriveRun s = convertToHeld { s with lock.driveRun := qualify s.lock.driveRun } := by
    rw [qualifyDriveRun_due ((driveRunDue_iff hb).2 hdue)]
    exact (if_pos hqualified).trans (if_pos ((style_of_campaign hk).trans hstyle))
  exact ⟨congrArg stepTo e, rfl, hqualified.trans (Bool.or_true _).symm, (Bool.or_false _).symm, rfl, rfl, rfl, rfl⟩

end

end Sys2Proof.Machine

open Sys2Proof Sys2Proof.Machine

/-- Settles O40: the three events come to one conversion; in RAMP and in a HELD campaign there is none. -/
theorem conversionToHeld : Obligations.ConversionToHeld := by
  unfold Obligations.ConversionToHeld
  refine ⟨fun s k c brake hq hk h => ?_, fun s k b hk hstyle hramp hb hdue => ?_,
    fun s b hb hdue => ⟨fun k hk hstyle hlevel => ?_, fun hlevel => ?_⟩⟩
  · obtain ⟨l, hl⟩ : ∃ l, ComesToHeld c brake s l := by
      rcases h with ⟨rfl, ⟨b, hb, hdue⟩, hstyle, hramp, rfl⟩ | ⟨rfl, ⟨b, hb, hdue⟩, hlevel, hstyle, rfl⟩
        | ⟨rfl, ⟨b, hb, hdue⟩, hlevel, hstyle, rfl⟩
      · exact ⟨_, rideThroughExpiry_comes hk hb hdue hstyle hramp⟩
      · exact ⟨_, brakeSetQualified_comes hk hb hdue hlevel hstyle⟩
      · exact ⟨_, driveRunQualified_comes hk hb hdue hlevel hstyle⟩
    obtain ⟨hseq, ⟨timer, met, hlock⟩, hcells, hqueue, hplans, hstore, hrings, hgen, hpending⟩ :=
      convertToHeld_entry (s := { s with lock := l }) hk
    refine ⟨_, hl.exec.trans (congrArg _ ((keeps_convertToHeld { s with lock := l }).settle hq)), hseq, ?_⟩
    rw [hlock, hl.brakeSet, hl.resumeTimer]
    exact ⟨rfl, rfl, rfl, rfl, rfl, hl.budgetSpent, rfl, hl.driveRun, hl.trip, hl.hoist, hl.rampCount, hcells, hqueue,
      hplans, hstore, hrings, hgen, hpending⟩
  · have e := (rideThroughEnds_due ((rideThroughDue_iff hb).2 hdue)).trans (if_neg fun h => h.2 hramp)
    exact congrArg stepTo e
  · have hnot : s.style ≠ some .running := by simp [style_of_campaign hk, hstyle]
    have e := qualifyBrakeSet_due ((brakeSetDue_iff hb).2 hdue)
    rw [qualify_asserts hlevel] at e
    exact congrArg stepTo (e.trans (brakeSetChanged_confirms rfl hnot))
  · have e := qualifyBrakeSet_due ((brakeSetDue_iff hb).2 hdue)
    rw [qualify_releases hlevel] at e
    exact congrArg stepTo (e.trans (brakeSetChanged_released rfl))
end

section
/-! PROOFS. RESUME: its checks, and the entry into RAMP. -/

namespace Sys2Proof.Machine

open Sys2Proof

/-! ### The checks of Table 7-4 -/

theorem resumeFault_wrongState {s : State} (h : s.seq.state ≠ .awaitResume) : resumeFault s = some .wrongState := if_pos h

/-- The device waits for RESUME with a campaign open. -/
structure AwaitsResume (k : Campaign) (s : State) : Prop where
  state : s.seq.state = .awaitResume
  campaign : s.seq.campaign = some k

section

variable {s : State} {k : Campaign} (h : AwaitsResume k s)

include h

theorem resumeFault_held (hstyle : k.style = some .held) :
    resumeFault s = if s.lock.brakeSet.level = false then some .notHeld else none := by
  unfold resumeFault
  rw [if_neg (not_not.2 h.state), style_of_campaign h.campaign, hstyle]
  simp

/-- The checks of a RUNNING campaign: a fresh record, then the ceiling. -/
theorem resumeFault_stale (hstyle : k.style = some .running) (hstale : ∀ r, s.lock.hoist = some r → r.fresh = false) :
    resumeFault s = some .staleStatus := by
  unfold resumeFault
  rw [if_neg (not_not.2 h.state), style_of_campaign h.campaign, hstyle, if_neg (by simp), if_pos rfl]
  split
  · rfl
  · next r hr => exact if_pos (hstale r hr)

theorem resumeFault_fresh {r : HoistRecord} {p : Plan} (hstyle : k.style = some .running) (hr : s.lock.hoist = some r)
    (hfresh : r.fresh = true) (hp : s.plans.inForce = some p) :
    resumeFault s = if p.speed < r.speed.natAbs then some .aboveCeiling else none := by
  have hceiling : ceilingInForce s = p.speed := by simp [ceilingInForce, hp]
  unfold resumeFault
  rw [if_neg (not_not.2 h.state), style_of_campaign h.campaign, hstyle, if_neg (by simp), if_pos rfl, hr, hceiling]
  exact if_neg (by simp [hfresh])

theorem resumeFault_other (hheld : k.style ≠ some .held) (hrunning : k.style ≠ some .running) : resumeFault s = none := by
  unfold resumeFault
  rw [if_neg (not_not.2 h.state), style_of_campaign h.campaign, if_neg fun hk => hheld hk.1, if_neg hrunning]

/-- RESUME passes its checks: the brake in a HELD campaign, the record and the ceiling in a RUNNING one. -/
theorem resumeFault_passes (hheld : k.style = some .held → s.lock.brakeSet.level = true)
    (hrunning : k.style = some .running → ∃ r p, s.lock.hoist = some r ∧ r.fresh = true ∧ s.plans.inForce = some p
      ∧ r.speed.natAbs ≤ p.speed) : resumeFault s = none := by
  by_cases hh : k.style = some .held
  · rw [resumeFault_held h hh, if_neg (by simp [hheld hh])]
  · by_cases hr : k.style = some .running
    · obtain ⟨r, p, hrec, hfresh, hp, hspeed⟩ := hrunning hr
      rw [resumeFault_fresh h hr hrec hfresh hp, if_neg (Nat.not_lt.2 hspeed)]
    · exact resumeFault_other h hh hr

end

/-! ### The step -/

/-- The device after the entry into RAMP, before the reply. -/
def rampEntered (s : State) : State := postOpen (setSeq .ramp (dropStage s))

section

variable {tag : Byte} {s : State} (hs : Ready s) (hm : s.store.mode = .service)

include hs hm

theorem exec_resume_refused {code : ReplyCode} (h : resumeFault s = some code) :
    exec (.resume tag) s = .next (replyOnly 0x0B tag code [] s) := by
  refine exec_replied (op := .resume) rfl hs (by simp [takenIn, hm]) ?_
  change serveResume tag s = _
  unfold serveResume
  rw [h]

theorem exec_resume_enters (h : resumeFault s = none) :
    exec (.resume tag) s = .next (pump (pushReply 0x0B tag .ok [] (rampEntered s))) := by
  have hready : (dropStage s).seq.state ≠ .ready := by
    rw [dropStage_seq]
    simp [resumeFault_none h]
  refine exec_served (op := .resume) rfl hs (by simp [takenIn, hm]) ?_ ?_
  · change serveResume tag s = _
    unfold serveResume
    rw [h]
    rfl
  · rw [pushReply_buffer, rampEntered, postOpen_link, (setSeq_not_ready _ hready).2, dropStage_link]
    exact hs.1

end

/-- What the entry into RAMP from AWAIT_RESUME writes (R132). -/
structure RampEntry (k : Campaign) (s t : State) : Prop where
  seq : t.seq = { s.seq with
    state := .ramp, scale := 0, campaign := some { k with issue := none }, watch := none, rephase := none }
  lock : t.lock = { s.lock with resumeTimer := none, rampCount := 0 }
  posts : Posts s t [.campaign .ramp s.seq.tripCause (some (recordAt s { k with issue := none } .ramp))]
  cell : ∀ d : CellRef, t.cell d = { s.cell d with isolation := none }
  plans : t.plans = s.plans
  queue : t.queue = s.queue
  store : t.store = s.store
  rings : t.rings = s.rings
  link : t.link = s.link
  gen : t.gen = s.gen
  pending : t.pending = s.pending

theorem rampEntered_entry {s : State} {k : Campaign} (h : AwaitsResume k s) : RampEntry k s (rampEntered s) := by
  have hready : (dropStage s).seq.state ≠ .ready := by
    rw [dropStage_seq]
    simp [h.state]
  have hseq : (setSeq .ramp (dropStage s)).seq = { s.seq with
      state := .ramp, scale := 0, campaign := some { k with issue := none }, watch := none, rephase := none } := by
    rw [setSeq_seq, dropStage_seq, h.campaign]
    rfl
  obtain ⟨hrings, hlink⟩ := setSeq_not_ready .ramp hready
  constructor
  case seq => rw [rampEntered, postOpen_seq, hseq]
  case lock => rw [rampEntered, postOpen_lock, setSeq_lock, dropStage_lock]
  case posts =>
    have hp := postOpen_posts (s := setSeq .ramp (dropStage s)) (k := { k with issue := none }) (by rw [hseq])
    rw [show openRecord (setSeq .ramp (dropStage s)) { k with issue := none } = recordAt s { k with issue := none } .ramp by
      simp [openRecord], hseq] at hp
    exact posts_of_notices hp (by simp)
  case cell =>
    intro d
    rw [rampEntered, cell_of_cells (postOpen_cells _), cell_of_cells (setSeq_cells _ _), dropStage_cell]
  case rings => rw [rampEntered, postOpen_rings, hrings, dropStage_rings]
  case link => rw [rampEntered, postOpen_link, hlink, dropStage_link]
  all_goals simp [rampEntered]

end Sys2Proof.Machine

open Sys2Proof Sys2Proof.Machine

/-- Settles O42: each row of Table 7-4 by its condition, and the entry into RAMP where all pass. -/
theorem resumeEntersTheRamp : Obligations.ResumeEntersTheRamp := by
  unfold Obligations.ResumeEntersTheRamp
  refine fun tag s hs hm => ⟨fun hst => exec_resume_refused hs hm (resumeFault_wrongState hst), fun k hst hk => ?_⟩
  have h : AwaitsResume k s := ⟨hst, hk⟩
  refine ⟨fun hheld hbrake => ?_, fun hrunning hstale => ?_, fun r p hrunning hr hfresh hp habove => ?_,
    fun hheld hrunning => ?_⟩
  · exact exec_resume_refused hs hm ((resumeFault_held h hheld).trans (if_pos hbrake))
  · exact exec_resume_refused hs hm (resumeFault_stale h hrunning hstale)
  · exact exec_resume_refused hs hm ((resumeFault_fresh h hrunning hr hfresh hp).trans (if_pos habove))
  · have hexec := exec_resume_enters (tag := tag) hs hm (resumeFault_passes h hheld hrunning)
    obtain ⟨hseq, hlock, hposts, hcell, hplans, hqueue, hstore, hrings, hlink, hgen, hpending⟩ := rampEntered_entry h
    generalize rampEntered s = v at *
    obtain ⟨l, hl, hreplies⟩ := pump_pushReply (s := s) (v := v) (l := []) 0x0B tag .ok []
      (by rw [hlink, List.append_nil]) hgen
    refine ⟨_, hexec.trans (congrArg _ hl), ?_⟩
    dsimp only
    rw [hseq, hlock]
    exact ⟨rfl, rfl, rfl, hreplies, hposts, rfl, rfl, rfl, rfl, rfl, rfl, rfl, rfl, hcell, rfl, hplans, hqueue, hstore,
      hrings, hgen, hpending⟩
end

section
/-! PROOFS. A ramp step at a cycle start: the output scale, and the close of the campaign at the last step. -/

namespace Sys2Proof.Machine

open Sys2Proof

/-! ### What the rings' counts leave of the notices and of the carrier offsets -/

theorem foldl_posts_nil {α : Type} {f : State → α → State} (hf : ∀ s a, Posts s (f s a) []) (l : List α) (s : State) :
    Posts s (l.foldl f s) [] := by
  induction l generalizing s with
  | nil => exact posts_refl s
  | cons a l ih => exact posts_append (hf s a) (ih _)

theorem tunnelCycle_posts (s : State) (p : Phase) : Posts s (tunnelCycle s p) [] := by
  unfold tunnelCycle
  split
  · exact posts_refl s
  · split
    · exact posts_refl s
    · split
      · exact posts_nil (by simp) (by simp)
      · exact posts_nil rfl rfl

theorem ringCycle_posts (s : State) : Posts s (ringCycle s) [] := by
  unfold ringCycle
  split
  · exact posts_append (foldl_posts_nil (fun s c => (confirmCycle_only s c).posts) allCells s)
      (foldl_posts_nil tunnelCycle_posts phases _)
  · exact posts_refl s

theorem roundState_posts (loopback : Option (List Byte)) (s : State) : Posts s (roundState loopback s) [] := by
  obtain ⟨m, hm⟩ := testCycle_eq loopback (ringCycle (lightRings (startCycle s)))
  unfold roundState
  rw [hm]
  exact ringCycle_posts (lightRings (startCycle s))

theorem confirmedCell_offset (now : Stamp) (x : Cell) : (confirmedCell now x).offset = x.offset := by
  unfold confirmedCell
  split
  · split <;> rfl
  · rfl

theorem roundState_offset (loopback : Option (List Byte)) (s : State) (d : CellRef) :
    ((roundState loopback s).cell d).offset = (s.cell d).offset := by
  by_cases h : s.store.mode = .service
  · rw [roundState_cell loopback h, confirmedCell_offset]
  · have hdark : ringCycle (lightRings (startCycle s)) = lightRings (startCycle s) :=
      if_neg (by simp [lightRings, startCycle, h])
    unfold roundState
    rw [hdark, cell_of_cells (CellInvariant.testCycle_cells _ _)]
    rfl

/-! ### The ramp value (R133) -/

/-- The output scale of the next ramp step, on the cycle period that the cycle start to come takes. -/
abbrev rampScale (s : State) : Nat :=
  min 1024 ((s.lock.rampCount + 1) * 1024 * cfgCyclePeriod s.store.image / (cfgRampTime s.store.image * 1000))

theorem nextScale_eq {s : State} (hr : 0 < cfgRampTime s.store.image) : nextScale s
    = min 1024 ((s.lock.rampCount + 1) * 1024 * s.gen.period / (cfgRampTime s.store.image * 1000)) := by
  unfold nextScale
  rw [divFloor_of_pos _ (by omega)]

theorem nextScale_start {s : State} (hr : 0 < cfgRampTime s.store.image) : nextScale (startCycle s) = rampScale s :=
  nextScale_eq (s := startCycle s) hr

theorem nextScale_round {s v : State} (h : Round s v) (hr : 0 < cfgRampTime s.store.image) : nextScale v = rampScale s := by
  rw [nextScale_eq (by rw [h.image]; exact hr), h.lock, h.gen, h.image]

/-! ### The step -/

theorem rampStep_on {s : State} (h : nextScale s ≠ 1024) :
    rampStep s = { s with lock.rampCount := s.lock.rampCount + 1, seq.scale := nextScale s } := if_neg h

theorem rampStep_pending (s : State) : (rampStep s).pending = s.pending := by
  unfold rampStep
  dsimp only
  split
  · exact (keeps_completeCampaign _).pending
  · rfl

/-- The last ramp step leaves what the close of the campaign leaves: the close writes the step's own items again (R134). -/
theorem rampStep_closes {s : State} {k : Campaign} (hk : s.seq.campaign = some k) (hh : s.seq.heldHalt = false)
    (h : nextScale s = 1024) : ReadyEntry k s (rampStep s) := by
  rw [rampStep_last h]
  have he := completeCampaign_entry (s := { s with lock.rampCount := s.lock.rampCount + 1, seq.scale := 1024 }) hk hh
  exact ⟨he.seq, he.plans, he.cell, he.queue, he.store, he.lock, he.posts⟩

/-- What the sending of the frames leaves of the device (R27). -/
structure FramesSent (s t : State) : Prop where
  seq : t.seq = s.seq
  lock : t.lock = s.lock
  plans : t.plans = s.plans
  queue : t.queue = s.queue
  store : t.store = s.store
  notices : t.notices = s.notices
  pending : t.pending = s.pending
  cell : ∀ d : CellRef, t.cell d = s.cell d

theorem sendFrames_sent (plans : Bool) (s : State) : FramesSent s (sendFrames plans s) := by
  obtain ⟨frames, mail, ht, _⟩ := sendFrames_eq plans s
  rw [ht]
  exact ⟨rfl, rfl, rfl, rfl, rfl, rfl, rfl, fun _ => rfl⟩

/-- A cycle start in RAMP is a ramp step after the rings' counts, and then the frames. -/
theorem exec_cycleStart_ramp {s : State} (hq : Quiet s) (hs : s.seq.state = .ramp) :
    ∃ t, exec (.cycleStart none) s = .next t ∧ FramesSent (rampStep (roundState none s)) t := by
  have hstep : seqCycle (roundState none s) = rampStep (roundState none s) := by
    unfold seqCycle
    rw [(roundState_round none s).seq, hs]
  refine ⟨_, exec_cycleStart hq none, ?_⟩
  rw [cycleStep_eq, hstep]
  exact sendFrames_sent _ _

theorem lineChange_end {s t u : State} (h : t.lock = u.lock) : lineChange s t = lineChange s u := by
  unfold lineChange
  rw [h]

/-- RAMP_COMPLETE is the cycle start of the last ramp step (R134, log entry 8). -/
theorem exec_rampComplete_due {s : State} (hs : s.seq.state = .ramp) (hr : 0 < cfgRampTime s.store.image)
    (h : rampScale s = 1024) : exec .rampComplete s = exec (.cycleStart none) s := by
  have hdue : rampDue s = true := by
    simp only [rampDue, hs, nextScale_start hr, h, decide_true, Bool.and_self]
  exact congrArg stepTo (if_pos hdue)

end Sys2Proof.Machine

open Sys2Proof Sys2Proof.Machine

/-- Settles O44: the ramp value of the step decides whether RAMP goes on or the campaign closes. -/
theorem rampStepSetsTheScale : Obligations.RampStepSetsTheScale := by
  unfold Obligations.RampStepSetsTheScale
  rintro s k scale hq hs hk hh hr rfl
  have hround := roundState_round none s
  have hscale := nextScale_round hround hr
  have hposts := roundState_posts none s
  have hoffset := roundState_offset none s
  have hcomes := roundState_comes none s
  obtain ⟨t, hexec, hsent⟩ := exec_cycleStart_ramp hq hs
  generalize roundState none s = v at *
  refine ⟨fun hon => ⟨t, hexec, ?_⟩, fun hlast c hc => ⟨t, ?_, ?_⟩⟩
  · rw [rampStep_on (by rw [hscale]; exact hon)] at hsent
    obtain ⟨hseq, hlock, hplans, hqueue, hstore, hnotices, hpending, hcell⟩ := hsent
    refine ⟨by rw [hseq, hround.seq, hscale], posts_to_notices hposts hnotices, by rw [hlock, hround.lock],
      hplans.trans hround.plans, hqueue.trans hround.queue, by rw [hstore]; exact hround.image,
      by rw [hstore]; exact hround.mode, hpending.trans hround.pending, fun d => ?_⟩
    rw [hcell]
    exact ⟨(hround.service d).1, hoffset d⟩
  · rcases hc with rfl | rfl
    · exact hexec
    · exact (exec_rampComplete_due hs hr hlast).trans hexec
  · obtain ⟨hseq, hplans, hcell, hqueue, hstore, hlock, hclose⟩ := rampStep_closes (k := k)
      (by rw [hround.seq]; exact hk) (by rw [hround.seq]; exact hh) (hscale.trans hlast)
    have hhistory (r : CampaignRecord) : historyWith v r = historyWith s r := by
      unfold historyWith
      rw [hround.seq]
    rw [hcomes.closedWith, hhistory, hround.seq, ← hsent.seq] at hseq
    rw [show holdAfterDemand v = holdAfterDemand s by rw [holdAfterDemand, hround.lock], hround.lock, ← hsent.lock] at hlock
    rw [hcomes.closedWith, hround.seq, lineChange_start (s' := s) (by rw [hround.lock]) (by rw [hround.lock]),
      ← lineChange_end hsent.lock] at hclose
    have hall := posts_to_notices (posts_append hposts hclose) hsent.notices
    rw [hseq, hlock]
    refine ⟨rfl, rfl, rfl, rfl, rfl, hall, rfl, rfl, rfl, rfl, rfl, hsent.plans.trans (hplans.trans hround.plans),
      hsent.queue.trans (hqueue.trans hround.queue), rfl, rfl, rfl, by rw [hsent.store, hstore]; exact hround.image,
      by rw [hsent.store, hstore]; exact hround.mode, ?_, fun d => ?_⟩
    · exact hsent.pending.trans ((rampStep_pending v).trans hround.pending)
    · rw [hsent.cell, hcell]
      exact ⟨(hround.service d).1, hoffset d⟩
end

section
/-! PROOFS. The requests that move the device mode (GO, UNFREEZE), the ring self-test and the storage faults. -/

namespace Sys2Proof.Machine

open Sys2Proof

/-! ### Requests outside their modes -/

/-- A request that the mode in force does not take is WRONG_MODE (R161). -/
theorem exec_wrongMode {c : Instr} {tag : Byte} {op : RequestOp} {s : State} (hc : requestOf c = some ⟨tag, op⟩)
    (h : Ready s) (hm : takenIn op s.store.mode = false) :
    exec c s = .next (replyOnly op.recordType tag .wrongMode [] s) := by
  have e : dispatch ⟨tag, op⟩ s = pushReply op.recordType tag .wrongMode [] s := by simp [dispatch, hm]
  rw [exec_request s hc, request_ready h (by rw [e]; exact h.1), e]
  rfl

/-! ### GO (R146) -/

theorem exists_phase {P : Phase → Prop} : (∃ p, P p) ↔ P .a ∨ P .b ∨ P .c := by
  refine ⟨fun ⟨p, hp⟩ => ?_, ?_⟩
  · cases p
    exacts [.inl hp, .inr (.inl hp), .inr (.inr hp)]
  · rintro (h | h | h)
    exacts [⟨.a, h⟩, ⟨.b, h⟩, ⟨.c, h⟩]

/-- Check 2 of Table 8-5. -/
theorem ringFailed_iff (r : Rings TestResult) :
    (r.a = .fail ∨ r.b = .fail ∨ r.c = .fail) ↔ ∃ p : Phase, r.get p = .fail :=
  (exists_phase (P := fun p => r.get p = .fail)).symm

/-- The device in SERVICE, with the MODE notice of GO posted. -/
abbrev inService (s : State) : State := postMode .go { s with store.mode := .service }

theorem serveGo_opens {tag : Byte} {s : State} (ht : s.lock.trip = false)
    (hr : ¬∃ p : Phase, s.store.results.get p = .fail) (hm : s.store.storedCrc = some (crc16 s.store.image)) :
    serveGo tag s = pushReply 0x09 tag .ok [] (openCampaign .start (inService s)) := by
  unfold serveGo
  rw [if_neg (by simp [ht]), if_neg (mt (ringFailed_iff _).1 hr), if_pos ((settingsMatch_iff s).2 hm)]

theorem serveGo_corrupt {tag : Byte} {s : State} (ht : s.lock.trip = false)
    (hr : ¬∃ p : Phase, s.store.results.get p = .fail) (hm : s.store.storedCrc ≠ some (crc16 s.store.image)) :
    serveGo tag s = pushReply 0x09 tag .settingsCorrupt []
      (postMode .goRefused { s with store.frozen := false, store.storedCrc := none, store.mode := .config }) := by
  unfold serveGo
  rw [if_neg (by simp [ht]), if_neg (mt (ringFailed_iff _).1 hr), if_neg (mt (settingsMatch_iff s).1 hm)]

/-- A START campaign is STOPPED, or HELD where DRIVE_RUN is asserted (R123). -/
theorem decideStyle_start {s : State} {k : Campaign} (hk : s.seq.campaign = some k) :
    (decideStyle .start s).seq.campaign
      = some { k with style := some (if s.lock.driveRun.level then .held else .stopped) } := by
  unfold decideStyle
  cases hd : s.lock.driveRun.level
  · simp [setStyle, modCampaign, hk]
  · simp [toHeld_seq hk]

/-- The style part leaves the hold mark of a START campaign set (R128). -/
theorem decideStyle_start_mark {s : State} (h : s.lock.holdMark = true) :
    (decideStyle .start s).lock.holdMark = true := by
  unfold decideStyle
  cases hd : s.lock.driveRun.level
  · simpa using h
  · simp [toHeld]

/-- The record of a START campaign that has opened (R77, R123). -/
abbrev startCampaign (s : State) : Campaign where
  number := numberAfter s.seq.lastNumber
  kind := .start
  style := some (if s.lock.driveRun.level then .held else .stopped)
  iteration := 1
  set := s.queue.map QueueEntry.cell
  opened := s.gen.timebase
  pendingTag := none
  issue := none

/-- What the opening of a START campaign writes over unchanged settings (R79, R86, R128). -/
structure StartOpens (s t : State) : Prop where
  seq : t.seq = { s.seq with
    state := .block, scale := 0, campaign := some (startCampaign s), lastNumber := numberAfter s.seq.lastNumber
    watch := some { cells := watchedCells s, starts := 0 }, rephase := none, enrolRun := false }
  plans : t.plans = s.plans
  cell : ∀ c : CellRef, t.cell c = { s.cell c with isolation := none }
  queue : t.queue = s.queue
  store : t.store = s.store
  trip : t.lock.trip = s.lock.trip
  holdMark : t.lock.holdMark = true
  holdReq : t.lock.holdReq = true
  posts : Posts s t ([.campaign .block s.seq.tripCause (some (recordAt s (startCampaign s) .block))] ++ lineChange s t)

theorem openCampaign_start {s : State} (hm : s.store.storedCrc = some (crc16 s.store.image)) :
    StartOpens s (openCampaign .start s) := by
  obtain ⟨st, ⟨hseq, hplans, hcell, hqueue, hstore, ⟨req, timer, met, hlock, hreq⟩, htrip, _, _, hposts, _⟩, hstyled, _⟩ :=
    enterBlock_entry (s := openedState .start s) true rfl hm
  have hbase : (setSeq .block (dropStage (openedState .start s))).seq.campaign = some (newCampaign .start s)
      ∧ (setSeq .block (dropStage (openedState .start s))).lock.driveRun = s.lock.driveRun
      ∧ (setSeq .block (dropStage (openedState .start s))).lock.holdMark = true := by
    rw [setSeq_seq, dropStage_seq, setSeq_lock, dropStage_lock]
    exact ⟨rfl, rfl, rfl⟩
  obtain ⟨hcamp, hdrive, hopens⟩ := hbase
  have hst : styled true (openedState .start s)
      = decideStyle .start (setSeq .block (dropStage (openedState .start s))) := by
    unfold styled blockStyle
    rw [hcamp]
    rfl
  have hmark : (styled true (openedState .start s)).lock.holdMark = true := by
    rw [hst]
    exact decideStyle_start_mark hopens
  have hrecord : st = some (if s.lock.driveRun.level then .held else .stopped) := by
    rw [hst, decideStyle_start hcamp, hdrive] at hstyled
    exact (congrArg (fun x => x.bind Campaign.style) hstyled).symm
  subst hrecord
  rw [openCampaign_eq]
  exact ⟨hseq, hplans, hcell, hqueue, hstore, htrip, by rw [hlock]; exact hmark, by rw [hlock]; exact hreq hmark, hposts⟩

/-! ### The CRC-16 of a test frame's loopback (R149) -/

theorem append_eq_iff (high low : Byte) (v : BitVec 16) : high ++ low = v ↔ high16 v = high ∧ low16 v = low := by
  have happend : (high ++ low).toNat = high.toNat * 256 + low.toNat := by
    rw [← natOfBytes_two]
    simp [natOfBytes]
  have hhigh := high.isLt
  have hlow := low.isLt
  have hv := v.isLt
  simp only [← BitVec.toNat_inj, happend, high16, low16, BitVec.extractLsb'_toNat, Nat.shiftRight_eq_div_pow]
  omega

/-- A sequence is good where its last two bytes are the CRC-16 of the bytes before them. -/
theorem goodCrc16_append (bytes : List Byte) (high low : Byte) :
    goodCrc16 (bytes ++ [high, low]) = decide (high ++ low = crc16 bytes) := by
  have hlen : 2 ≤ (bytes ++ [high, low]).length := by simp
  have htake : (bytes ++ [high, low]).take ((bytes ++ [high, low]).length - 2) = bytes := by simp
  rw [goodCrc16, htake, decide_eq_true hlen, Bool.true_and, Bool.eq_iff_iff, beq_iff_eq, decide_eq_true_iff, append_eq_iff]
  simp [withCrc16]

theorem goodCrc16_withCrc16 (bytes : List Byte) : goodCrc16 (withCrc16 bytes) = true := by
  rw [withCrc16, goodCrc16_append, decide_eq_true_iff, append_eq_iff]
  exact ⟨rfl, rfl⟩

/-! ### The ring self-test (R148 to R150) -/

/-- The marker after a cycle start whose loopback returned a good or a bad frame. -/
def nextTest (good : Bool) (m : SelfTest) : SelfTest :=
  if 64 ≤ m.cycle then m
  else { m with
    cycle := m.cycle + 1
    slot := 0
    failingFrames := if good then m.failingFrames else m.failingFrames + 1 }

theorem testCycle_selfTest (loopback : Option (List Byte)) {m : SelfTest} {s : State} (h : s.store.selfTest = some m) :
    (testCycle loopback s).store.selfTest
      = some (nextTest (goodCrc16 (loopback.getD (testFrame s.gen.cycle).bytes)) m) := by
  unfold testCycle nextTest
  rw [h]
  dsimp only
  split
  · exact h
  · rfl

/-- A cycle start touches the self-test in its own part alone. -/
theorem exec_cycleStart_selfTest (loopback : Option (List Byte)) {m : SelfTest} {s : State} (hq : Quiet s)
    (h : s.store.selfTest = some m) :
    ∃ (t : State) (f : DownFrame), exec (.cycleStart loopback) s = .next t
      ∧ t.store.selfTest = some (nextTest (goodCrc16 (loopback.getD f.bytes)) m) := by
  have hring := (counted_ringCycle (lightRings (startCycle s))).settings
  have hstore := (sendFrames_sent (!atEpoch (roundState loopback s)) (seqCycle (roundState loopback s))).store
  have hseq := (keeps_seqCycle (roundState loopback s)).store
  refine ⟨_, testFrame (ringCycle (lightRings (startCycle s))).gen.cycle, exec_cycleStart hq loopback, ?_⟩
  rw [cycleStep_eq, hstore, hseq]
  exact testCycle_selfTest loopback (by rw [hring]; exact h)

theorem testSlotEnds_in_turn {m : SelfTest} {s : State} {p : Nat} (seen : SlotSeen) (h : s.store.selfTest = some m)
    (hc : 1 ≤ m.cycle) (hp : p = m.slot + 1) : testSlotEnds p seen s = { s with
      store.selfTest := some { m with
        slot := p
        failingSlots := if judgeSlot seen = .valid (expectedAnswer m.cycle p) then m.failingSlots
          else m.failingSlots + 1 } } := by
  unfold testSlotEnds
  rw [h]
  exact if_neg (by omega)

theorem testEnds_last {m : SelfTest} {s : State} (h : s.store.selfTest = some m) (hc : m.cycle = 64) (hs : m.slot = 8) :
    testEnds s = postUrgent (.mode s.store.mode .selfTest (some (m.ring,
        if m.failingSlots = 0 ∧ m.failingFrames = 0 then .pass else .fail, m.failingSlots, m.failingFrames)))
      { s with
        store.results := s.store.results.set m.ring
          (if m.failingSlots = 0 ∧ m.failingFrames = 0 then .pass else .fail)
        store.selfTest := none } := by
  unfold testEnds
  rw [h]
  exact if_pos ⟨hc, hs⟩

/-! ### SELF_TEST's checks (R148) -/

theorem testing_of_some {s : State} (h : s.store.selfTest.isSome = true) : testing s = true := h

theorem testing_of_none {s : State} (h : s.store.selfTest = none) : testing s = false := by simp [testing, h]

theorem serveSelfTest_unnamed {ring : Byte} (tag : Byte) (s : State) (h : phaseOfCode ring = none) :
    serveSelfTest tag ring s = pushReply 0x07 tag .range [] s := by
  unfold serveSelfTest
  rw [h]

theorem serveSelfTest_named {ring : Byte} {p : Phase} (tag : Byte) (s : State) (h : phaseOfCode ring = some p) :
    serveSelfTest tag ring s
      = if testing s then pushReply 0x07 tag .busy [] s
        else if cfgCyclePeriod s.store.image < 190 then pushReply 0x07 tag .range [] s
        else pushReply 0x07 tag .accepted [] { s with
          store.selfTest := some { ring := p, cycle := 0, slot := 0, failingSlots := 0, failingFrames := 0 } } := by
  unfold serveSelfTest
  rw [h]

end Sys2Proof.Machine

open Sys2Proof Sys2Proof.Machine

/-- Settles O19: the request by its checks in order, a slot and the end by their turn, a cycle start by its own part. -/
theorem selfTestRunsToItsResult : Obligations.SelfTestRunsToItsResult := by
  unfold Obligations.SelfTestRunsToItsResult
  refine ⟨fun tag ring s hs hmode => ?_, fun pos seen m s h hc hp => ?_, fun m s h hc hslot => ?_,
    fun loopback m s hq h => ?_, fun c p => rfl⟩
  · have htaken : takenIn (.selfTest ring) s.store.mode = true := by simp [takenIn, hmode]
    refine ⟨fun hr => exec_replied rfl hs htaken (serveSelfTest_unnamed tag s hr), fun p hr => ?_⟩
    have hserve := serveSelfTest_named tag s hr
    refine ⟨fun ht => exec_replied rfl hs htaken (hserve.trans (if_pos ht)), fun ht hshort => ?_, fun ht hlong => ?_⟩
    · rw [testing_of_none ht, if_neg (by simp), if_pos hshort] at hserve
      exact exec_replied rfl hs htaken hserve
    · rw [testing_of_none ht, if_neg (by simp), if_neg (Nat.not_lt.2 hlong)] at hserve
      exact exec_served rfl hs htaken hserve hs.1
  · exact congrArg stepTo (testSlotEnds_in_turn seen h hc (by rw [hp]))
  · exact congrArg stepTo (testEnds_last h hc hslot)
  · obtain ⟨t, f, hexec, ht⟩ := exec_cycleStart_selfTest loopback hq h
    refine ⟨t, hexec, fun hc => ?_, fun hc => ⟨?_, ?_⟩⟩
    · rw [ht, nextTest, if_pos hc]
    · rintro rfl
      rw [ht, nextTest, if_neg (Nat.not_le.2 hc), Option.getD_none, DownFrame.bytes, goodCrc16_withCrc16, if_pos rfl]
    · rintro bytes high low rfl
      rw [ht, nextTest, if_neg (Nat.not_le.2 hc), Option.getD_some, goodCrc16_append]
      simp only [decide_eq_true_eq]

/-- Settles O20: the passed request is the entry into SERVICE with its MODE notice, and then the opening of the campaign. -/
theorem goOpensTheStartCampaign : Obligations.GoOpensTheStartCampaign := by
  unfold Obligations.GoOpensTheStartCampaign
  intro tag s hs hmode hoff htrip ha hb hc hm
  have hr : ¬∃ p : Phase, s.store.results.get p = .fail := by
    rw [← ringFailed_iff]
    simp [ha, hb, hc]
  have hopen := openCampaign_start (s := inService s) (by simpa using hm)
  have hkeep := keeps_openCampaign .start (inService s)
  obtain ⟨hrings, hlink⟩ := openCampaign_elsewhere .start (s := inService s) (by simp [hoff]) (.inr (by simpa using hm))
  have hexec := exec_served (c := .go tag) rfl hs (by simp [takenIn, hmode]) (serveGo_opens htrip hr hm)
    (by simpa [pushReply, hlink] using hs.1)
  obtain ⟨l, hl, hreplies⟩ := pump_pushReply (s := s) (v := openCampaign .start (inService s)) (l := []) 0x09 tag .ok []
    (by simp [hlink]) (hkeep.gen.trans (postMode_gen _ _))
  refine ⟨_, hexec.trans (congrArg _ hl), ?_⟩
  have hmodePosts : Posts s (inService s) [.mode .service .go none] := posts_of_notices (postUrgent_posts _ _) rfl
  have hposts := posts_append hmodePosts hopen.posts
  rw [lineChange_start (s' := s) (by rw [postMode_lock]) (by rw [postMode_lock])] at hposts
  obtain ⟨hseq, hplans, hcell, hqueue, hstore, htrip', hmark, hreq, _⟩ := hopen
  have hwatch : watchedCells (inService s) = watchedCells s :=
    watchedCells_of_cell fun d => by rw [cell_of_cells (postMode_cells _ _)]; exact ⟨rfl, rfl⟩
  have hrecord : startCampaign (inService s) = startCampaign s := by simp [startCampaign]
  have hat (k : Campaign) : recordAt (inService s) k .block = recordAt s k .block := by simp [recordAt]
  rw [hwatch, hrecord, postMode_seq] at hseq
  rw [hrecord, hat, postMode_seq] at hposts
  dsimp only
  rw [hseq]
  refine ⟨by rw [hstore, postMode_store], rfl, rfl, rfl, rfl, rfl, rfl, rfl, rfl, rfl, hmark, hreq, ?_, ?_, ?_, ?_,
    fun d => ?_, hreplies, fun k hk => ?_, ?_, ?_, ?_, ?_, ?_⟩
  · rw [htrip', postMode_lock]; exact htrip
  · rw [hkeep.driveRun, postMode_lock]
  · rw [hkeep.brakeSet, postMode_lock]
  · rw [hkeep.hoist, postMode_lock]
  · exact (hcell d).trans (by rw [cell_of_cells (postMode_cells _ _)]; rfl)
  · cases hk
    exact hposts
  · rw [hqueue, postMode_queue]
  · rw [hplans, postMode_plans]
  · rw [hrings, postMode_rings]
  · rw [hkeep.gen, postMode_gen]
  · rw [hkeep.pending, postMode_pending]

/-- Settles O21: the checks of Table 8-5 in their order. -/
theorem goIsRefusedInOrder : Obligations.GoIsRefusedInOrder := by
  unfold Obligations.GoIsRefusedInOrder
  intro tag s hs hmode
  have htaken : takenIn .go s.store.mode = true := by simp [takenIn, hmode]
  refine ⟨fun ht => exec_replied rfl hs htaken (if_pos ht), fun ht => ⟨fun hr => exec_replied rfl hs htaken ?_,
    fun hr hm => exec_served rfl hs htaken (serveGo_corrupt ht (by simpa using hr) hm) (by simpa [pushReply] using hs.1)⟩⟩
  exact (if_neg (by simp [ht])).trans (if_pos ((ringFailed_iff _).2 hr))

/-- Settles O18: UNFREEZE has no check but its mode. -/
theorem unfreezeReturnsToConfig : Obligations.UnfreezeReturnsToConfig := by
  unfold Obligations.UnfreezeReturnsToConfig
  intro tag s hs
  refine ⟨fun hmode => exec_served (op := .unfreeze) rfl hs (by simp [takenIn, hmode]) rfl ?_,
    fun hmode => exec_wrongMode (op := .unfreeze) rfl hs (by simp [takenIn, hmode])⟩
  simpa [pushReply] using hs.1

/-- Settles O22: a fault writes its byte where the image is frozen, and does nothing elsewhere. -/
theorem storageFaultAltersOneByte : Obligations.StorageFaultAltersOneByte := by
  unfold Obligations.StorageFaultAltersOneByte
  intro value s
  refine ⟨fun hf => ⟨fun i => ?_, fun v hv => ⟨?_, ?_⟩⟩, fun hf target => ?_⟩
  · exact congrArg stepTo (if_pos hf)
  · exact congrArg stepTo ((if_pos hf).trans (by rw [hv]; rfl))
  · exact congrArg stepTo ((if_pos hf).trans (by rw [hv]; rfl))
  · exact congrArg stepTo (if_neg (by simp [hf]))
end

section
/-! PROOFS. FREEZE: the four checks of Table 8-4, and the first one that fails. -/

namespace Sys2Proof.Machine

open Sys2Proof

/-! ### The first of an ordered list -/

theorem find?_first {α : Type} {r : α → α → Prop} {f : α → Bool} {l : List α} {a : α} (hl : l.Pairwise r) (ha : a ∈ l)
    (hf : f a = true) (hfirst : ∀ b ∈ l, r b a → f b = false) : l.find? f = some a := by
  induction l with
  | nil => cases ha
  | cons b l ih =>
    obtain ⟨hb, hl⟩ := List.pairwise_cons.1 hl
    rcases List.mem_cons.1 ha with rfl | ha
    · exact List.find?_cons_of_pos hf
    · rw [List.find?_cons_of_neg (by simp [hfirst b (List.mem_cons_self ..) (hb a ha)])]
      exact ih hl ha fun c hc => hfirst c (List.mem_cons_of_mem _ hc)

/-! ### The order of the records -/

theorem phaseOf_index (c : CellRef) : (phaseOf c).index = c.val / 8 := by
  have hc := c.isLt
  unfold phaseOf
  (repeat' split) <;> simp only [Phase.index] <;> omega

theorem lt_of_phase_lt {c d : CellRef} (h : (phaseOf c).index < (phaseOf d).index) : c < d := by
  rw [phaseOf_index, phaseOf_index] at h
  exact Fin.lt_def.2 (by omega)

/-- Within a phase record order is the order of the positions. -/
theorem lt_iff_position_lt {c d : CellRef} (h : phaseOf c = phaseOf d) : c < d ↔ positionOf c < positionOf d := by
  have hindex := congrArg Phase.index h
  rw [phaseOf_index, phaseOf_index] at hindex
  rw [Fin.lt_def, positionOf, positionOf]
  omega

theorem allCells_ascending : allCells.Pairwise (· < ·) := List.pairwise_lt_finRange 24

theorem installedOf_ascending (s : State) (p : Phase) : ((cellsOf p).filter s.installed).Pairwise (· < ·) :=
  (allCells_ascending.filter _).filter _

/-! ### Check 1: overlapping slots -/

/-- The order in which check 1 scans the pairs. -/
abbrev PairBefore (x y : CellRef × CellRef) : Prop := x.1 < y.1 ∨ (x.1 = y.1 ∧ x.2 < y.2)

theorem mem_slotPairs {s : State} {p q : CellRef} : (p, q) ∈ slotPairs s ↔
    s.installed p = true ∧ s.installed q = true ∧ phaseOf p = phaseOf q ∧ p < q := by
  have hphase (ph : Phase) : ph ∈ phases := by cases ph <;> simp [phases]
  simp only [slotPairs, List.mem_flatMap, List.mem_map, List.mem_filter, mem_cellsOf, Prod.mk.injEq, decide_eq_true_eq]
  constructor
  · rintro ⟨ph, _, p', ⟨hp, hpi⟩, q', ⟨⟨hq, hqi⟩, hlt⟩, rfl, rfl⟩
    exact ⟨hpi, hqi, hp.trans hq.symm, hlt⟩
  · rintro ⟨hpi, hqi, hpq, hlt⟩
    exact ⟨phaseOf p, hphase _, p, ⟨rfl, hpi⟩, q, ⟨⟨hpq.symm, hqi⟩, hlt⟩, rfl, rfl⟩

theorem slotPairs_ascending (s : State) : (slotPairs s).Pairwise PairBefore := by
  have hphases : phases.Pairwise fun ph ph' => ph.index < ph'.index := by decide
  refine List.pairwise_flatMap.2 ⟨fun ph _ => List.pairwise_flatMap.2 ⟨fun p _ => ?_, ?_⟩, ?_⟩
  · exact List.pairwise_map.2 (((installedOf_ascending s ph).filter _).imp fun h => .inr ⟨rfl, h⟩)
  · refine (installedOf_ascending s ph).imp fun {p p'} h x hx y hy => .inl ?_
    obtain ⟨q, _, rfl⟩ := List.mem_map.1 hx
    obtain ⟨q', _, rfl⟩ := List.mem_map.1 hy
    exact h
  · refine hphases.imp fun {ph ph'} h x hx y hy => .inl (lt_of_phase_lt ?_)
    simp only [List.mem_flatMap, List.mem_map, List.mem_filter, mem_cellsOf] at hx hy
    obtain ⟨p, ⟨hp, _⟩, _, _, rfl⟩ := hx
    obtain ⟨p', ⟨hp', _⟩, _, _, rfl⟩ := hy
    rw [hp, hp']
    exact h

theorem slotsOverlap_iff (image : List Byte) (p q : CellRef) : slotsOverlap image p q = true ↔
    effectiveStart image p < effectiveStart image q + 20 ∧ effectiveStart image q < effectiveStart image p + 20
      ∧ ¬(cfgHalfRate image p = 1 ∧ cfgHalfRate image q = 2) ∧ ¬(cfgHalfRate image p = 2 ∧ cfgHalfRate image q = 1) := by
  simp only [slotsOverlap, Bool.and_eq_true, Bool.not_eq_true', ← Bool.not_eq_true, Bool.or_eq_true,
    decide_eq_true_eq, not_or, and_assoc]

/-- Check 1 finds the pairs whose slots overlap. -/
theorem clash_iff {s : State} {p q : CellRef} :
    ((p, q) ∈ slotPairs s ∧ slotsOverlap s.store.image p q = true) ↔ SlotsClash s p q := by
  rw [mem_slotPairs, slotsOverlap_iff, SlotsClash]
  constructor
  · rintro ⟨⟨hp, hq, hphase, hlt⟩, hover⟩
    exact ⟨hp, hq, hphase, (lt_iff_position_lt hphase).1 hlt, hover⟩
  · rintro ⟨hp, hq, hphase, hlt, hover⟩
    exact ⟨⟨hp, hq, hphase, (lt_iff_position_lt hphase).2 hlt⟩, hover⟩

/-- The pair that check 1 finds first. -/
def firstClash (s : State) : Option (CellRef × CellRef) :=
  (slotPairs s).find? fun x => slotsOverlap s.store.image x.1 x.2

theorem firstClash_none {s : State} : firstClash s = none ↔ ∀ p q : CellRef, ¬SlotsClash s p q := by
  rw [firstClash, List.find?_eq_none, Prod.forall]
  exact forall₂_congr fun p q => by rw [← clash_iff, not_and]

theorem firstClash_some {s : State} {p q : CellRef} (h : SlotsClash s p q)
    (hfirst : ∀ p' q' : CellRef, (p' < p ∨ (p' = p ∧ q' < q)) → ¬SlotsClash s p' q') : firstClash s = some (p, q) := by
  obtain ⟨hmem, hover⟩ := clash_iff.2 h
  refine find?_first (slotPairs_ascending s) hmem hover fun x hx hbefore => ?_
  rw [← Bool.not_eq_true]
  exact fun hx' => hfirst x.1 x.2 hbefore (clash_iff.1 ⟨hx, hx'⟩)

/-! ### The other checks -/

theorem smallestInstalled_lt {image : List Byte} {n : Nat} :
    smallestInstalled image < n ↔ ∃ p : Phase, cfgInstalled image p < n := by
  rw [smallestInstalled, min_lt_iff, min_lt_iff, exists_phase]

/-- The slot that check 4 finds first. -/
def firstLate (s : State) : Option CellRef := (allCells.filter s.installed).find? (slotTooLate s.store.image)

theorem slotTooLate_iff (image : List Byte) (c : CellRef) :
    slotTooLate image c = true ↔ cfgCyclePeriod image < effectiveStart image c + 30 := decide_eq_true_iff

theorem firstLate_none {s : State} : firstLate s = none ↔ ∀ c : CellRef, s.installed c = true →
    effectiveStart s.store.image c + 30 ≤ cfgCyclePeriod s.store.image := by
  simp only [firstLate, List.find?_eq_none, List.mem_filter, mem_allCells, true_and, slotTooLate_iff, Nat.not_lt]

theorem firstLate_some {s : State} {c : CellRef} (hi : s.installed c = true)
    (hlate : cfgCyclePeriod s.store.image < effectiveStart s.store.image c + 30)
    (hfirst : ∀ d : CellRef, d < c → s.installed d = true →
      effectiveStart s.store.image d + 30 ≤ cfgCyclePeriod s.store.image) : firstLate s = some c := by
  refine find?_first (allCells_ascending.filter _) (List.mem_filter.2 ⟨mem_allCells c, hi⟩) ((slotTooLate_iff _ _).2 hlate)
    fun d hd hlt => ?_
  rw [← Bool.not_eq_true, slotTooLate_iff, Nat.not_lt]
  exact hfirst d hlt (List.mem_filter.1 hd).2

/-! ### FREEZE's checks in order (R143) -/

theorem freezeFault_overlap {s : State} {p q : CellRef} (h : firstClash s = some (p, q)) : freezeFault s
    = some [1, Phase.code (phaseOf p), BitVec.ofNat 8 (positionOf p), BitVec.ofNat 8 (positionOf q)] := by
  unfold firstClash at h
  unfold freezeFault
  dsimp only
  rw [h]

/-- Past check 1 the others are asked in turn. -/
theorem freezeFault_apart {s : State} (h : firstClash s = none) : freezeFault s
    = if cfgDcHigh s.store.image ≤ cfgDcLow s.store.image then some [2, 0, 0, 0]
      else if smallestInstalled s.store.image < cfgMinActive s.store.image then some [3, 0, 0, 0]
      else (firstLate s).map fun c => [4, Phase.code (phaseOf c), BitVec.ofNat 8 (positionOf c), 0] := by
  unfold firstClash at h
  unfold freezeFault firstLate
  dsimp only
  rw [h]
  cases (allCells.filter s.installed).find? (slotTooLate s.store.image) <;> rfl

theorem freezeFault_none {s : State} : freezeFault s = none ↔ firstClash s = none
    ∧ cfgDcLow s.store.image < cfgDcHigh s.store.image
    ∧ (∀ p : Phase, cfgMinActive s.store.image ≤ cfgInstalled s.store.image p) ∧ firstLate s = none := by
  cases hc : firstClash s with
  | some x => simp [freezeFault_overlap (p := x.1) (q := x.2) hc]
  | none =>
    have hmin : (∀ p : Phase, cfgMinActive s.store.image ≤ cfgInstalled s.store.image p)
        ↔ ¬smallestInstalled s.store.image < cfgMinActive s.store.image := by
      rw [smallestInstalled_lt]
      simp
    rw [freezeFault_apart hc, hmin]
    split
    · next h => simp [Nat.not_lt.2 h]
    · next h =>
      split
      · next hm => simp [hm]
      · next hm => simp [hm, Nat.not_le.1 h]

theorem serveFreeze_fails {s : State} {body : List Byte} (tag : Byte) (ht : s.store.selfTest = none)
    (h : freezeFault s = some body) : serveFreeze tag s = pushReply 0x06 tag .range body s := by
  unfold serveFreeze
  rw [testing_of_none ht, h]
  rfl

theorem serveFreeze_passes {s : State} (tag : Byte) (ht : s.store.selfTest = none) (h : freezeFault s = none) :
    serveFreeze tag s = pushReply 0x06 tag .ok [] (postMode .freeze { s with
      store.storedCrc := some (crc16 s.store.image), store.frozen := true, store.mode := .standby }) := by
  unfold serveFreeze
  rw [testing_of_none ht, h]
  rfl

end Sys2Proof.Machine

open Sys2Proof Sys2Proof.Machine

/-- Settles O17: no check finds a first failure. -/
theorem freezeChecksDecide : Obligations.FreezeChecksDecide := by
  unfold Obligations.FreezeChecksDecide
  intro s
  rw [freezeFault_none, firstClash_none, firstLate_none]
  refine and_congr (forall₂_congr fun p q => ?_) Iff.rfl
  unfold SlotsClash
  constructor
  · intro h hp hq hphase hpos
    by_contra hnot
    exact h ⟨hp, hq, hphase, hpos, by omega, by omega, by tauto, by tauto⟩
  · rintro h ⟨hp, hq, hphase, hpos, hover, hover', heven, hodd⟩
    have := h hp hq hphase hpos
    omega

/-- Settles O16: the request by the first failing check, and each check's body by the order of the records. -/
theorem freezeSealsTheSettings : Obligations.FreezeSealsTheSettings := by
  unfold Obligations.FreezeSealsTheSettings
  intro tag s hs hmode
  have htaken : takenIn .freeze s.store.mode = true := by simp [takenIn, hmode]
  refine ⟨fun ht => exec_replied rfl hs htaken (if_pos (testing_of_some ht)),
    fun ht body h => exec_served rfl hs htaken (serveFreeze_fails tag ht h) hs.1,
    fun ht h => exec_served rfl hs htaken (serveFreeze_passes tag ht h) (by simpa [pushReply] using hs.1),
    fun p q h hfirst => freezeFault_overlap (firstClash_some h hfirst), fun h => ?_⟩
  rw [freezeFault_apart (firstClash_none.2 h)]
  refine ⟨fun hdc => if_pos hdc, fun hdc => ?_⟩
  rw [if_neg (Nat.not_le.2 hdc)]
  refine ⟨fun hmin => if_pos (smallestInstalled_lt.2 hmin), fun hmin c hi hlate hfirst => ?_⟩
  rw [if_neg (mt smallestInstalled_lt.1 (by simpa using hmin)), firstLate_some hi hlate hfirst]
  rfl
end

section
/-! PROOFS. The fields of the settings requests: what each handling makes of a value, the first refused field, the adjusted
set, and the writing of the image field by field. -/

namespace Sys2Proof.Machine

open Sys2Proof

/-! ### Judging (R139 to R141) -/

theorem judge_slotStart (period v position : Nat) : judge period (.slotStart position) v
    = if 990 < v ∨ period < (if v = 0 then 20 + 24 * (position - 1) else max 20 v) + 30 then none
      else some (if v = 0 then 0 else max 20 v) := by
  by_cases h : v = 0 <;> simp [judge, heldSlotStart, h]

/-- No handling writes a value above this one. -/
def Handling.top : Handling → Nat
  | .refuse _ hi => hi
  | .clamp lo hi => max lo hi
  | .round _ hi _ => hi
  | .slotStart _ => 990

theorem judge_le_top {period v w : Nat} {h : Handling} (hw : judge period h v = some w) : w ≤ h.top := by
  cases h with
  | refuse lo hi =>
    simp only [judge, Option.ite_none_right_eq_some, Option.some.injEq] at hw
    simp only [Handling.top]
    omega
  | clamp lo hi =>
    simp only [judge, Option.some.injEq] at hw
    simp only [Handling.top]
    omega
  | round lo hi step =>
    simp only [judge, Option.ite_none_right_eq_some, Option.some.injEq] at hw
    have := Nat.div_mul_le_self v step
    simp only [Handling.top]
    omega
  | slotStart position =>
    rw [judge_slotStart, Option.ite_none_left_eq_some, Option.some.injEq] at hw
    simp only [Handling.top]
    split at hw <;> omega

theorem judge_clamp {lo hi : Nat} (period v : Nat) (h : lo ≤ hi) :
    judge period (.clamp lo hi) v = some (if v < lo then lo else if hi < v then hi else v) := by
  simp only [judge, Option.some.injEq]
  split
  · omega
  · split <;> omega

theorem judge_round (period v lo hi step : Nat) :
    judge period (.round lo hi step) v = if lo ≤ v ∧ v ≤ hi then some (v - v % step) else none := by
  have e : v / step * step = v - v % step := by
    have := Nat.div_add_mod' v step
    omega
  simp only [judge, e]

/-! ### The first refused field (R139) -/

/-- Field `j` is carried and refused, and every field carried before it is judged with a value (R139). -/
abbrev RefusedFirst (period : Nat) (specs : List FieldSpec) (fields : List (Option Nat)) (j : Nat) (f : FieldSpec) : Prop :=
  specs[j]? = some f ∧ (∃ v : Nat, fields[j]? = some (some v) ∧ judge period f.handling v = none)
    ∧ ∀ (i : Nat) (g : FieldSpec) (w : Nat), i < j → specs[i]? = some g → fields[i]? = some (some w) →
      (judge period g.handling w).isSome = true

section

variable {period n j k : Nat} {f g : FieldSpec} {specs : List FieldSpec} {x : Option Nat} {fields : List (Option Nat)}

theorem refusedFirst_zero : RefusedFirst period (g :: specs) (x :: fields) 0 f
    ↔ g = f ∧ ∃ v : Nat, x = some v ∧ judge period f.handling v = none := by
  simp [RefusedFirst]

theorem refusedFirst_succ : RefusedFirst period (g :: specs) (x :: fields) (j + 1) f
    ↔ (∀ v : Nat, x = some v → (judge period g.handling v).isSome = true) ∧ RefusedFirst period specs fields j f := by
  simp only [RefusedFirst, List.getElem?_cons_succ]
  constructor
  · rintro ⟨hf, hv, hbefore⟩
    exact ⟨fun v hx => hbefore 0 g v (Nat.succ_pos j) rfl (congrArg some hx), hf, hv,
      fun i g' w hi => hbefore (i + 1) g' w (Nat.succ_lt_succ hi)⟩
  · rintro ⟨hhead, hf, hv, hbefore⟩
    refine ⟨hf, hv, fun i g' w hi hg hw => ?_⟩
    cases i with
    | zero =>
      cases hg
      exact hhead w (Option.some.inj hw)
    | succ i => exact hbefore i g' w (Nat.lt_of_succ_lt_succ hi) hg hw

theorem firstRefused_cons_none :
    firstRefused period n (g :: specs) (none :: fields) = firstRefused period (n + 1) specs fields := rfl

theorem firstRefused_cons_refused {v : Nat} (h : judge period g.handling v = none) :
    firstRefused period n (g :: specs) (some v :: fields) = some (n, g) := by simp [firstRefused, h]

theorem firstRefused_cons_judged {v : Nat} (h : (judge period g.handling v).isSome = true) :
    firstRefused period n (g :: specs) (some v :: fields) = firstRefused period (n + 1) specs fields := by
  obtain ⟨w, hw⟩ := Option.isSome_iff_exists.1 h
  simp [firstRefused, hw]

/-- The fields are numbered from `n` upward. -/
theorem firstRefused_from : firstRefused period n specs fields = some (k, f)
    ↔ ∃ j, k = n + j ∧ RefusedFirst period specs fields j f := by
  induction specs generalizing n fields with
  | nil => simp [firstRefused]
  | cons g specs ih =>
    cases fields with
    | nil => simp [firstRefused]
    | cons x fields =>
      have hnext : (∃ j, k = n + (j + 1) ∧ RefusedFirst period specs fields j f)
          ↔ firstRefused period (n + 1) specs fields = some (k, f) := by
        rw [ih]
        exact exists_congr fun j => by rw [show n + (j + 1) = n + 1 + j by omega]
      rw [← Nat.or_exists_add_one]
      simp only [refusedFirst_zero, refusedFirst_succ]
      cases x with
      | none => simp [firstRefused_cons_none, hnext]
      | some v =>
        cases hv : judge period g.handling v with
        | none =>
          rw [firstRefused_cons_refused hv]
          simp only [Option.some.injEq, Prod.mk.injEq, hv, forall_eq', Option.isSome_none, Bool.false_eq_true, false_and,
            and_false, exists_false, or_false, exists_eq_left']
          constructor
          · rintro ⟨rfl, rfl⟩
            exact ⟨rfl, rfl, hv⟩
          · rintro ⟨rfl, rfl, _⟩
            exact ⟨rfl, rfl⟩
        | some w =>
          rw [firstRefused_cons_judged (by simp [hv])]
          simp only [Option.some.injEq, forall_eq', hv, Option.isSome_some, true_and, hnext, exists_eq_left']
          refine (or_iff_right ?_).symm
          rintro ⟨_, rfl, hnone⟩
          simp [hv] at hnone

theorem firstRefused_iff : firstRefused period 0 specs fields = some (j, f) ↔ RefusedFirst period specs fields j f := by
  rw [firstRefused_from]
  simp

/-- Where no field is refused every one carried is judged with a value. -/
theorem judged_of_not_refused (h : firstRefused period n specs fields = none) {v : Nat} (hf : specs[j]? = some f)
    (hv : fields[j]? = some (some v)) : ∃ w, judge period f.handling v = some w := by
  induction specs generalizing n fields j with
  | nil => cases hf
  | cons g specs ih =>
    cases fields with
    | nil => cases hv
    | cons x fields =>
      cases x with
      | none =>
        cases j with
        | zero => cases hv
        | succ j => exact ih h hf hv
      | some u =>
        cases hu : judge period g.handling u with
        | none => simp [firstRefused_cons_refused hu] at h
        | some w =>
          cases j with
          | zero =>
            cases hf
            cases hv
            exact ⟨w, hu⟩
          | succ j =>
            rw [firstRefused_cons_judged (by simp [hu])] at h
            exact ih h hf hv

/-! ### The adjusted set (R139) -/

theorem testBit_adjustedSet : (adjustedSet period specs fields).testBit j = true
    ↔ ∃ (f : FieldSpec) (v : Nat), specs[j]? = some f ∧ fields[j]? = some (some v) ∧ judge period f.handling v ≠ some v := by
  induction specs generalizing fields j with
  | nil => simp [adjustedSet]
  | cons g specs ih =>
    cases fields with
    | nil => simp [adjustedSet]
    | cons x fields =>
      cases x with
      | none =>
        cases j with
        | zero => simp [adjustedSet, Nat.testBit_zero]
        | succ j =>
          rw [adjustedSet, Nat.testBit_succ, Nat.mul_div_cancel_left _ Nat.two_pos, ih]
          rfl
      | some v =>
        have hbit : (if judge period g.handling v = some v then 0 else 1) < 2 := by split <;> omega
        cases j with
        | zero =>
          by_cases hv : judge period g.handling v = some v <;> simp [adjustedSet, Nat.testBit_zero, hv]
        | succ j =>
          rw [adjustedSet, Nat.testBit_succ, Nat.add_mul_div_left _ _ Nat.two_pos, Nat.div_eq_of_lt hbit, Nat.zero_add, ih]
          rfl

theorem bytesOfNat_three (n : Nat) :
    bytesOfNat 3 n = [BitVec.ofNat 8 (n / 65536), BitVec.ofNat 8 (n / 256), BitVec.ofNat 8 n] := by
  simp [bytesOfNat, Nat.div_div_eq_div_mul]

end

/-! ### Writing the image (R139, R144) -/

section

variable {image : List Byte} {o w v : Nat}

theorem writeImage_length (h : o + w ≤ image.length) : (writeImage image o w v).length = image.length := by
  simp only [writeImage, List.length_append, List.length_take, List.length_drop, bytesOfNat_length]
  omega

theorem writeImage_inside {k : Nat} (h : o + w ≤ image.length) (hk : k < w) :
    (writeImage image o w v)[o + k]? = (bytesOfNat w v)[k]? := by
  have hlen : (image.take o).length = o := by simp; omega
  rw [writeImage, List.append_assoc, List.getElem?_append_right (by omega), hlen, Nat.add_sub_cancel_left,
    List.getElem?_append_left (by rw [bytesOfNat_length]; exact hk)]

theorem writeImage_outside {i : Nat} (h : o + w ≤ image.length) (hi : i < o ∨ o + w ≤ i) :
    (writeImage image o w v)[i]? = image[i]? := by
  have hlen : (image.take o).length = o := by simp; omega
  rcases hi with hi | hi
  · rw [writeImage, List.append_assoc, List.getElem?_append_left (by omega), List.getElem?_take_of_lt hi]
  · have hlen' : (image.take o ++ bytesOfNat w v).length = o + w := by rw [List.length_append, hlen, bytesOfNat_length]
    rw [writeImage, List.getElem?_append_right (by omega), hlen', List.getElem?_drop, Nat.add_sub_cancel' hi]

end

/-- Two fields share no byte of the image. -/
abbrev FieldSpec.Apart (f g : FieldSpec) : Prop := f.offset + f.width ≤ g.offset ∨ g.offset + g.width ≤ f.offset

/-- The fields of a request lie apart in the image, and each holds every value that its handling can give. -/
abbrev SpecsFit (specs : List FieldSpec) : Prop :=
  specs.Pairwise FieldSpec.Apart ∧ ∀ f ∈ specs, f.offset + f.width ≤ 125 ∧ f.handling.top < 256 ^ f.width

theorem settingsSpecs_fit : ∀ specs ∈ [deviceSpecs, ringSpecs .a, ringSpecs .b, ringSpecs .c, planSpecs, timingSpecs,
    reportingSpecs], SpecsFit specs := by decide

theorem ringSpecs_slotStart (p : Phase) {k : Nat} (hk : k < 8) : (ringSpecs p)[1 + k]?
    = some ⟨5 + 16 * p.index + 2 * k, 2, .slotStart (k + 1), Phase.code p, k + 1⟩ := by
  rw [ringSpecs, List.getElem?_append_left (by simp; omega), Nat.add_comm 1 k, List.getElem?_cons_succ, List.getElem?_map,
    List.getElem?_range hk]
  rfl

theorem ringSpecs_halfRate (p : Phase) {k : Nat} (hk : k < 8) : (ringSpecs p)[9 + k]?
    = some ⟨53 + 8 * p.index + k, 1, .refuse 0 2, Phase.code p, k + 1⟩ := by
  rw [ringSpecs, List.getElem?_append_right (by simp), List.length_cons, List.length_map, List.length_range,
    Nat.add_sub_cancel_left, List.getElem?_map, List.getElem?_range hk]
  rfl

section

variable {period : Nat} {specs : List FieldSpec} {fields : List (Option Nat)} {image : List Byte}

theorem writeFields_length (h : ∀ f ∈ specs, f.offset + f.width ≤ image.length) :
    (writeFields period specs fields image).length = image.length := by
  induction specs generalizing fields image with
  | nil => rfl
  | cons f specs ih =>
    obtain ⟨hf, hrest⟩ := List.forall_mem_cons.1 h
    match fields with
    | [] => rfl
    | none :: fields => exact ih hrest
    | some v :: fields =>
      have hlen := writeImage_length (v := (judge period f.handling v).getD v) hf
      exact (ih (by rw [hlen]; exact hrest)).trans hlen

theorem writeFields_outside (h : ∀ f ∈ specs, f.offset + f.width ≤ image.length) {i : Nat}
    (hi : ∀ (j : Nat) (f : FieldSpec) (v : Nat), specs[j]? = some f → fields[j]? = some (some v) →
      i < f.offset ∨ f.offset + f.width ≤ i) : (writeFields period specs fields image)[i]? = image[i]? := by
  induction specs generalizing fields image with
  | nil => rfl
  | cons f specs ih =>
    obtain ⟨hf, hrest⟩ := List.forall_mem_cons.1 h
    match fields with
    | [] => rfl
    | none :: fields => exact ih hrest fun j => hi (j + 1)
    | some v :: fields =>
      have hlen := writeImage_length (v := (judge period f.handling v).getD v) hf
      exact (ih (by rw [hlen]; exact hrest) fun j => hi (j + 1)).trans (writeImage_outside hf (hi 0 f v rfl rfl))

theorem writeFields_inside (h : ∀ f ∈ specs, f.offset + f.width ≤ image.length) (hapart : specs.Pairwise FieldSpec.Apart)
    {j k v : Nat} {f : FieldSpec} (hf : specs[j]? = some f) (hv : fields[j]? = some (some v)) (hk : k < f.width) :
    (writeFields period specs fields image)[f.offset + k]?
      = (bytesOfNat f.width ((judge period f.handling v).getD v))[k]? := by
  induction specs generalizing fields image j with
  | nil => cases hf
  | cons g specs ih =>
    obtain ⟨hg, hrest⟩ := List.forall_mem_cons.1 h
    obtain ⟨hhead, htail⟩ := List.pairwise_cons.1 hapart
    match fields, j with
    | [], _ => cases hv
    | none :: _, 0 => cases hv
    | none :: _, j + 1 => exact ih hrest htail hf hv
    | some u :: fields, j =>
      have hlen := writeImage_length (v := (judge period g.handling u).getD u) hg
      have hrest' : ∀ f ∈ specs, f.offset + f.width
          ≤ (writeImage image g.offset g.width ((judge period g.handling u).getD u)).length := by
        rw [hlen]
        exact hrest
      cases j with
      | zero =>
        cases hf
        cases hv
        refine (writeFields_outside hrest' fun i f' _ hf' _ => ?_).trans (writeImage_inside hg hk)
        have := hhead f' (List.mem_of_getElem? hf')
        omega
      | succ j => exact ih hrest' htail hf hv

/-- The bytes of a carried field are those of the value it is judged with. -/
theorem writeFields_field (h : ∀ f ∈ specs, f.offset + f.width ≤ image.length) (hapart : specs.Pairwise FieldSpec.Apart)
    {j v : Nat} {f : FieldSpec} (hf : specs[j]? = some f) (hv : fields[j]? = some (some v)) :
    ((writeFields period specs fields image).drop f.offset).take f.width
      = bytesOfNat f.width ((judge period f.handling v).getD v) := by
  refine List.ext_getElem? fun k => ?_
  by_cases hk : k < f.width
  · rw [List.getElem?_take_of_lt hk, List.getElem?_drop, writeFields_inside h hapart hf hv hk]
  · rw [List.getElem?_take_eq_none (Nat.not_lt.1 hk), List.getElem?_eq_none (by rw [bytesOfNat_length]; omega)]

end

end Sys2Proof.Machine

open Sys2Proof Sys2Proof.Machine

/-- Settles O13: the fields of each request lie apart in the image, and each is written with the value it is judged with. -/
theorem settingsWriteTheirFields : Obligations.SettingsWriteTheirFields := by
  unfold Obligations.SettingsWriteTheirFields
  refine ⟨fun specs hspecs period fields image himage _ hjudged => ?_,
    fun period v lo hi step position => ⟨rfl, judge_clamp period v, judge_round period v lo hi step,
      judge_slotStart period v position⟩, rfl, rfl, rfl, rfl,
    fun period specs fields j => ⟨fun f => firstRefused_iff, testBit_adjustedSet⟩, bytesOfNat_three, fun p => ?_⟩
  · obtain ⟨hapart, hfit⟩ := settingsSpecs_fit specs hspecs
    have hinside : ∀ f ∈ specs, f.offset + f.width ≤ image.length := fun f hf => by
      rw [himage]
      exact (hfit f hf).1
    refine ⟨(writeFields_length hinside).trans himage, fun j f v hf hv => ?_, fun i hi => writeFields_outside hinside hi⟩
    obtain ⟨w, hw⟩ := judged_of_not_refused hjudged hf hv
    refine ⟨w, hw, ?_⟩
    have hfits := (judge_le_top hw).trans_lt (hfit f (List.mem_of_getElem? hf)).2
    rw [writeFields_field hinside hapart hf hv, hw, Option.getD_some, natOfBytes_bytesOfNat, Nat.mod_eq_of_lt hfits]
  · refine ⟨by simp [ringSpecs], rfl, fun k hk => ?_⟩
    exact ⟨ringSpecs_slotStart p hk, ringSpecs_halfRate p hk⟩
end

section
/-! PROOFS. The settings requests: BUSY, RANGE or one write with its effects on the attempt history, on the interlock unit's
records and on the held notices. -/

namespace Sys2Proof.Machine

open Sys2Proof

/-! ### The requests that CONFIG alone takes (Table 9-3) -/

theorem takenIn_config {op : RequestOp} (hstandby : takenIn op .standby = false) (hservice : takenIn op .service = false) :
    takenIn op .config = true := by
  cases op <;> simp_all [takenIn]

/-- While a self-test runs they are BUSY (R139, R143). -/
theorem serve_testing {op : RequestOp} {s : State} (tag : Byte) (hstandby : takenIn op .standby = false)
    (hservice : takenIn op .service = false) (hop : ∀ ring, op ≠ .selfTest ring) (ht : s.store.selfTest.isSome = true) :
    serve ⟨tag, op⟩ s = pushReply op.recordType tag .busy [] s := by
  cases op with
  | setDevice => exact if_pos ht
  | setRing => exact if_pos ht
  | setPlan => exact if_pos ht
  | setTiming => exact if_pos ht
  | setReporting => exact if_pos ht
  | freeze => exact if_pos ht
  | selfTest ring => exact absurd rfl (hop ring)
  | _ => simp [takenIn] at hstandby hservice

/-! ### A settings request: refused whole, or written whole (R139) -/

section

variable {specs : List FieldSpec} {fields : List (Option Nat)} {s : State}

theorem settingsRequest_refused {j : Nat} {f : FieldSpec} (t tag : Byte) (extra : Nat) (effects : State → State)
    (h : firstRefused (cfgCyclePeriod s.store.image) 0 specs fields = some (j, f)) :
    settingsRequest t tag specs fields extra effects s
      = pushReply t tag .range [BitVec.ofNat 8 j, f.phaseCode, BitVec.ofNat 8 f.position] s := by
  unfold settingsRequest
  dsimp only
  rw [h]
  rfl

theorem settingsRequest_written (t tag : Byte) (extra : Nat) (effects : State → State)
    (h : firstRefused (cfgCyclePeriod s.store.image) 0 specs fields = none) :
    settingsRequest t tag specs fields extra effects s
      = pushReply t tag .ok (adjustedBody s specs fields extra)
          (effects { s with store.image := imageAfter s specs fields }) := by
  unfold settingsRequest
  dsimp only
  rw [h]

/-- Each settings request is one over the fields it names. -/
theorem serve_settings {op : RequestOp} (tag : Byte) (ht : s.store.selfTest = none)
    (h : settingsFields op = some (specs, fields)) : ∃ extra effects,
    serve ⟨tag, op⟩ s = settingsRequest op.recordType tag specs fields extra effects s := by
  have hidle : ¬testing s = true := by simp [testing_of_none ht]
  cases op with
  | setDevice fs =>
    cases h
    by_cases hc : carried fields 1 = true
    · exact ⟨192, deriveWindow, (if_neg hidle).trans (if_pos hc)⟩
    · exact ⟨0, id, (if_neg hidle).trans (if_neg hc)⟩
  | setRing code fs =>
    obtain ⟨p, hp, he⟩ := Option.map_eq_some_iff.1 h
    cases he
    exact ⟨0, ringEffects p fields, (if_neg hidle).trans (by rw [hp]; rfl)⟩
  | setPlan fs =>
    cases h
    exact ⟨0, _, if_neg hidle⟩
  | setTiming fs =>
    cases h
    exact ⟨0, _, if_neg hidle⟩
  | setReporting fs =>
    cases h
    exact ⟨0, _, if_neg hidle⟩
  | _ => cases h

theorem settingsFields_taken {op : RequestOp} (h : settingsFields op = some (specs, fields)) :
    takenIn op .config = true := by
  cases op with
  | setDevice | setRing | setPlan | setTiming | setReporting => rfl
  | _ => cases h

/-- A settings request with no refused field ends its step with its write, its effects and OK. -/
theorem exec_settings_written {c : Instr} {tag : Byte} {op : RequestOp} {extra : Nat} {effects : State → State}
    (hs : Ready s) (hmode : s.store.mode = .config) (hc : requestOf c = some ⟨tag, op⟩)
    (hop : takenIn op .config = true)
    (hserve : serve ⟨tag, op⟩ s = settingsRequest op.recordType tag specs fields extra effects s)
    (hlink : ∀ u, (effects u).link = u.link)
    (hjudged : firstRefused (cfgCyclePeriod s.store.image) 0 specs fields = none) :
    exec c s = .next (pump (pushReply op.recordType tag .ok (adjustedBody s specs fields extra)
      (effects { s with store.image := imageAfter s specs fields }))) := by
  refine exec_served hc hs (by rw [hmode]; exact hop) (hserve.trans (settingsRequest_written _ _ _ _ hjudged)) ?_
  simpa [pushReply, hlink] using hs.1

end

/-! ### What SET_PLAN does to the attempt history (R81) -/

/-- The attempt entries that a carried window leaves. -/
def keptAttempts (before : Nat) (fields : List (Option Nat)) (s : State) : List Stamp :=
  if carried fields 8 ∧ cfgAttemptWindow s.store.image < before then
    s.seq.attempts.filter fun e => (s.gen.timebase - e).toNat < cfgAttemptWindow s.store.image * 1000000
  else s.seq.attempts

theorem trimWindow_lowered {before : Nat} {s : State} (h : cfgAttemptWindow s.store.image < before) :
    trimWindow before s = { s with seq.attempts := s.seq.attempts.filter fun e =>
      (s.gen.timebase - e).toNat < cfgAttemptWindow s.store.image * 1000000 } := if_pos h

theorem trimWindow_kept {before : Nat} {s : State} (h : ¬cfgAttemptWindow s.store.image < before) :
    trimWindow before s = s := if_neg h

theorem planEffects_eq (before : Nat) (fields : List (Option Nat)) (s : State) : planEffects before fields s = { s with
    seq.attempts := if carried fields 7
      then (keptAttempts before fields s).drop ((keptAttempts before fields s).length - cfgAttemptBudget s.store.image)
      else keptAttempts before fields s } := by
  have hwindow : (if carried fields 8 then trimWindow before s else s)
      = { s with seq.attempts := keptAttempts before fields s } := by
    unfold keptAttempts
    by_cases hc : carried fields 8 = true
    · by_cases hw : cfgAttemptWindow s.store.image < before
      · rw [if_pos hc, trimWindow_lowered hw, if_pos (And.intro hc hw)]
      · rw [if_pos hc, trimWindow_kept hw, if_neg (mt And.right hw)]
    · rw [if_neg hc, if_neg (mt And.left hc)]
  unfold planEffects
  dsimp only
  rw [hwindow]
  split <;> rfl

theorem planEffects_link (before : Nat) (fields : List (Option Nat)) (s : State) :
    (planEffects before fields s).link = s.link := by rw [planEffects_eq]

/-! ### What SET_TIMING does to the interlock unit (R122, R142) -/

/-- The hoist status record once a carried freshness has been asked of it. -/
def freshenedHoist (fields : List (Option Nat)) (s : State) : Option HoistRecord :=
  s.lock.hoist.map fun h => { h with
    fresh := h.fresh && (!carried fields 9
      || decide ((s.gen.timebase - h.stamp).toNat < cfgFreshness s.store.image * 1000)) }

theorem timingEffects_recheck (fields : List (Option Nat)) (s : State) : timingEffects fields s
    = if carried fields 11 then recheckHoldMinimum { s with lock.hoist := freshenedHoist fields s }
      else { s with lock.hoist := freshenedHoist fields s } := by
  have hfresh : (if carried fields 9 then refreshHoist s else s) = { s with lock.hoist := freshenedHoist fields s } := by
    unfold freshenedHoist
    cases hc : carried fields 9
    · simp
    · simp only [if_true, Bool.not_true, Bool.false_or]
      rfl
  unfold timingEffects
  dsimp only
  rw [hfresh]

/-- The hold-minimum timer has reached the setting. -/
abbrev HoldMinimumReached (s : State) : Prop :=
  ∃ b : Stamp, s.lock.holdTimer = some b ∧ cfgHoldMinimum s.store.image * 1000 ≤ (s.gen.timebase - b).toNat

theorem recheckHoldMinimum_reached {s : State} (h : HoldMinimumReached s) :
    recheckHoldMinimum s = { s with lock.holdTimer := none, lock.holdMet := true } := by
  obtain ⟨b, hb, hdue⟩ := h
  unfold recheckHoldMinimum
  rw [hb]
  exact if_pos hdue

theorem recheckHoldMinimum_early {s : State} (h : ¬HoldMinimumReached s) : recheckHoldMinimum s = s := by
  unfold recheckHoldMinimum
  split
  · next b hb => exact if_neg fun hdue => h ⟨b, hb, hdue⟩
  · rfl

theorem timingEffects_reached {fields : List (Option Nat)} {s : State} (hc : carried fields 11 = true)
    (h : HoldMinimumReached s) : timingEffects fields s = { s with
      lock.hoist := freshenedHoist fields s, lock.holdTimer := none, lock.holdMet := true } := by
  rw [timingEffects_recheck, if_pos hc]
  exact recheckHoldMinimum_reached h

theorem timingEffects_early {fields : List (Option Nat)} {s : State}
    (h : ¬(carried fields 11 = true ∧ HoldMinimumReached s)) :
    timingEffects fields s = { s with lock.hoist := freshenedHoist fields s } := by
  rw [timingEffects_recheck]
  split
  · next hc => exact recheckHoldMinimum_early fun hr => h ⟨hc, hr⟩
  · rfl

/-- The effects of SET_TIMING lie in three items of the interlock unit. -/
theorem timingEffects_eq (fields : List (Option Nat)) (s : State) :
    (timingEffects fields s).lock.hoist = freshenedHoist fields s ∧ timingEffects fields s = { s with
      lock.hoist := (timingEffects fields s).lock.hoist
      lock.holdTimer := (timingEffects fields s).lock.holdTimer
      lock.holdMet := (timingEffects fields s).lock.holdMet } := by
  by_cases h : carried fields 11 = true ∧ HoldMinimumReached s
  · rw [timingEffects_reached h.1 h.2]
    exact ⟨rfl, rfl⟩
  · rw [timingEffects_early h]
    exact ⟨rfl, rfl⟩

theorem timingEffects_link (fields : List (Option Nat)) (s : State) : (timingEffects fields s).link = s.link := by
  obtain ⟨_, heq⟩ := timingEffects_eq fields s
  rw [heq]

/-! ### What SET_REPORTING does to the held notices (R169) -/

/-- The held notices meet the batch count, or the batch timer has reached its setting. -/
abbrev BatchReached (s : State) : Prop :=
  (1 ≤ s.notices.cells.countP (!·.released) ∧ cfgBatchCount s.store.image ≤ s.notices.cells.countP (!·.released))
    ∨ ∃ b : Stamp, s.notices.batchTimer = some b ∧ cfgBatchTimer s.store.image * 1000 ≤ (s.gen.timebase - b).toNat

theorem recheckBatch_reached {s : State} (h : BatchReached s) : recheckBatch s = releaseNotices s := by
  unfold recheckBatch
  refine if_pos (h.imp_right ?_)
  rintro ⟨b, hb, hdue⟩
  rw [hb]
  exact decide_eq_true hdue

theorem recheckBatch_early {s : State} (h : ¬BatchReached s) : recheckBatch s = s := by
  unfold recheckBatch
  refine if_neg fun hdue => h (hdue.imp_right fun htimer => ?_)
  cases hb : s.notices.batchTimer with
  | none => simp [hb] at htimer
  | some b =>
    rw [hb] at htimer
    exact ⟨b, rfl, of_decide_eq_true htimer⟩

theorem reportingEffects_link (fields : List (Option Nat)) (s : State) : (reportingEffects fields s).link = s.link := by
  unfold reportingEffects recheckBatch
  dsimp only
  (repeat' split) <;> rfl

/-! ### What SET_RING does beside its write (R3) -/

theorem phaseOfCode_code (p : Phase) : phaseOfCode (Phase.code p) = some p := by cases p <;> rfl

theorem ringEffects_link (p : Phase) (fields : List (Option Nat)) (s : State) : (ringEffects p fields s).link = s.link := by
  unfold ringEffects
  split
  · obtain ⟨_, _, _, _, _, _, hlink⟩ := installedCountReshapesThePhase p (cfgInstalled s.store.image p) s
    exact hlink
  · rfl

end Sys2Proof.Machine

open Sys2Proof Sys2Proof.Machine

/-- Settles O14: the requests by the first refused field, and each one's effects by the items they lie in. -/
theorem settingsRequestsWriteOrRefuse : Obligations.SettingsRequestsWriteOrRefuse := by
  unfold Obligations.SettingsRequestsWriteOrRefuse
  refine ⟨fun tag s hs hmode => ⟨fun c r hc hstandby hservice hop ht => ?_, fun ht => ?_⟩,
    fun before fields s => ⟨keptAttempts before fields s, rfl, planEffects_eq before fields s⟩, fun fields s => ?_,
    fun fields s => ?_⟩
  · exact exec_replied hc hs (by rw [hmode]; exact takenIn_config hstandby hservice)
      (serve_testing r.tag hstandby hservice hop ht)
  · have hidle : ¬testing s = true := by simp [testing_of_none ht]
    refine ⟨fun code fields hcode => ?_, fun c r specs fields j f hc hf hrefused => ?_, fun fields hjudged => ?_,
      fun p fields hjudged => ?_, fun fields hjudged => ?_, fun fields hjudged => ?_, fun fields hjudged => ?_⟩
    · refine exec_served (op := .setRing code fields) rfl hs (by simp [takenIn, hmode]) ((if_neg hidle).trans ?_) hs.1
      rw [hcode]
      rfl
    · obtain ⟨extra, effects, hserve⟩ := serve_settings r.tag ht hf
      exact exec_served hc hs (by rw [hmode]; exact settingsFields_taken hf)
        (hserve.trans (settingsRequest_refused _ _ _ _ hrefused)) hs.1
    · by_cases hc : carried fields 1 = true
      · rw [if_pos hc]
        exact exec_settings_written hs hmode (op := .setDevice fields) (effects := deriveWindow) rfl rfl
          ((if_neg hidle).trans (if_pos hc)) (fun _ => rfl) hjudged
      · rw [if_neg hc]
        exact exec_settings_written hs hmode (op := .setDevice fields) (effects := id) rfl rfl
          ((if_neg hidle).trans (if_neg hc)) (fun _ => rfl) hjudged
    · exact exec_settings_written hs hmode (op := .setRing (Phase.code p) fields) (effects := ringEffects p fields) rfl rfl
        ((if_neg hidle).trans (by rw [phaseOfCode_code]; rfl)) (ringEffects_link p fields) hjudged
    · exact exec_settings_written hs hmode (op := .setPlan fields) rfl rfl (if_neg hidle) (planEffects_link _ fields) hjudged
    · exact exec_settings_written hs hmode (op := .setTiming fields) rfl rfl (if_neg hidle) (timingEffects_link fields)
        hjudged
    · exact exec_settings_written hs hmode (op := .setReporting fields) rfl rfl (if_neg hidle)
        (reportingEffects_link fields) hjudged
  · obtain ⟨hhoist, heq⟩ := timingEffects_eq fields s
    refine ⟨hhoist, fun b hc hb hdue => ?_, fun h => ?_, heq⟩
    · rw [timingEffects_reached hc ⟨b, hb, hdue⟩]
      exact ⟨rfl, rfl⟩
    · rw [timingEffects_early]
      · exact ⟨rfl, rfl⟩
      · rintro ⟨hc, b, hb, hdue⟩
        rcases h with h | h
        · simp [hc] at h
        · exact absurd (h b hb) (Nat.not_lt.2 hdue)
  · refine ⟨fun hc hdue => ?_, fun h => ?_⟩
    · exact (if_pos (by simpa using hc)).trans (recheckBatch_reached hdue)
    · by_cases hc : (carried fields 1 || carried fields 2) = true
      · refine (if_pos hc).trans (recheckBatch_early ?_)
        rcases h with ⟨h1, h2⟩ | ⟨hcount, htimer⟩
        · simp [h1, h2] at hc
        · rintro (⟨hone, hall⟩ | ⟨b, hb, hdue⟩)
          · omega
          · exact absurd (htimer b hb) (Nat.not_lt.2 hdue)
      · exact if_neg hc
end

section
/-! PROOFS. What a request does to the controller link: it adds replies, and whatever else it does rests neither on the
requests held, nor on the replies that wait, nor on the frame in transmission. `AppendsAt f s` says so of an operation `f` in a
state `s`; the walk over the operations that a request can reach is made once here. -/

namespace Sys2Proof.Machine

open Sys2Proof

/-- The state with another request buffer, reply list and transmit path. -/
def onLink (s : State) (buffer : List Request) (replies : List LinkRecord) (sent : Option Transmission) : State :=
  { s with link.buffer := buffer, link.replies := replies, link.transmitting := sent }

/-- The operation adds replies, the same ones whatever the link holds; it does not read the buffer, the reply list or the
transmit path, and the timebase stands still. -/
def AppendsAt (f : State → State) (s : State) : Prop :=
  (f s).gen = s.gen ∧ ∃ new, ∀ b l x, f (onLink s b l x) = onLink (f s) b (l ++ new) x

/-- The operation does so in every state. -/
abbrev Appends (f : State → State) : Prop := ∀ s, AppendsAt f s

theorem onLink_self (s : State) : onLink s s.link.buffer s.link.replies s.link.transmitting = s := rfl

section

variable {f g : State → State} {s : State}

/-- Two operations that agree on a state, whatever its link holds. -/
theorem AppendsAt.congr (h : AppendsAt g s) (e : ∀ b l x, f (onLink s b l x) = g (onLink s b l x)) : AppendsAt f s := by
  obtain ⟨hgen, new, hnew⟩ := h
  have hs : f s = g s := e s.link.buffer s.link.replies s.link.transmitting
  exact ⟨hs ▸ hgen, new, fun b l x => by rw [e, hnew, hs]⟩

/-- An operation that leaves the link alone. -/
theorem AppendsAt.of_blind (h : ∀ b l x, f (onLink s b l x) = onLink (f s) b l x)
    (hgen : (f s).gen = s.gen := by rfl) : AppendsAt f s :=
  ⟨hgen, [], fun b l x => by rw [h, List.append_nil]⟩

theorem AppendsAt.same (s : State) : AppendsAt (fun s => s) s := .of_blind fun _ _ _ => rfl

/-- Two operations, one after the other. A longer chain is given a name with `have` before it is compared with a definition:
against the definition, unification would have to guess where the chain is cut. -/
theorem AppendsAt.comp (hg : AppendsAt g (f s)) (hf : AppendsAt f s) : AppendsAt (fun s => g (f s)) s := by
  obtain ⟨hfgen, m, hm⟩ := hf
  obtain ⟨hggen, n, hn⟩ := hg
  exact ⟨hggen.trans hfgen, m ++ n, fun b l x => by simp only [hm, hn, List.append_assoc]⟩

/-- A choice that does not rest on the link. -/
theorem AppendsAt.ite {p : State → Prop} [DecidablePred p] (hp : ∀ b l x, p (onLink s b l x) ↔ p s)
    (hf : p s → AppendsAt f s) (hg : ¬p s → AppendsAt g s) : AppendsAt (fun s => if p s then f s else g s) s := by
  by_cases h : p s
  · exact (hf h).congr fun b l x => if_pos ((hp b l x).2 h)
  · exact (hg h).congr fun b l x => if_neg ((hp b l x).not.2 h)

/-- What such an operation leaves to be read does not rest on the link either. -/
theorem AppendsAt.reads {α : Type} (h : AppendsAt f s) (π : State → α) (hπ : ∀ s b l x, π (onLink s b l x) = π s)
    (b : List Request) (l : List LinkRecord) (x : Option Transmission) : π (f (onLink s b l x)) = π (f s) := by
  obtain ⟨_, new, hnew⟩ := h
  rw [hnew, hπ]

theorem Appends.foldl {α : Type} {f : State → α → State} (hf : ∀ a, Appends fun s => f s a) (l : List α) :
    Appends fun s => l.foldl f s := by
  induction l with
  | nil => exact .same
  | cons a l ih => exact fun s => .comp (f := fun s => f s a) (ih _) (hf a s)

end

/-! ### Replies, notices and exchanges -/

theorem appends_pushReply (t tag : Byte) (code : ReplyCode) (body : List Byte) : Appends (pushReply t tag code body) :=
  fun _ => ⟨rfl, [replyRecord t tag code body], fun _ _ _ => rfl⟩

/-- A check of a request: refused with its reply, or passed on. -/
theorem AppendsAt.check {f : State → State} {s : State} {p : State → Prop} [DecidablePred p] {t tag : Byte} {code : ReplyCode}
    (hp : ∀ b l x, p (onLink s b l x) ↔ p s) (h : AppendsAt f s) :
    AppendsAt (fun s => if p s then pushReply t tag code [] s else f s) s :=
  .ite hp (fun _ => appends_pushReply t tag code [] s) (fun _ => h)

theorem appends_postUrgent (n : Urgent) : Appends (postUrgent n) := fun _ =>
  .ite (fun _ _ _ => .rfl) (fun _ => .of_blind fun _ _ _ => rfl) (fun _ => .of_blind fun _ _ _ => rfl)

theorem appends_postCampaign (r : Option CampaignRecord) : Appends (postCampaign r) := fun s =>
  (appends_postUrgent (.campaign s.seq.state s.seq.tripCause r) s).congr fun _ _ _ => rfl

theorem appends_postOpen : Appends postOpen := fun s =>
  (appends_postCampaign (s.seq.campaign.map (openRecord s)) s).congr fun _ _ _ => rfl

theorem appends_postMode (k : ModeCause) : Appends (postMode k) := fun s =>
  (appends_postUrgent (.mode s.store.mode k none) s).congr fun _ _ _ => rfl

theorem appends_postLines : Appends postLines := fun s =>
  (appends_postUrgent (.lines s.lock.holdReq s.lock.trip s.lock.driveRun.level s.lock.brakeSet.level) s).congr
    fun _ _ _ => rfl

theorem appends_endExchange (p : Phase) (k : ReplyCode) : Appends (endExchange p k) := by
  intro s
  cases h : s.rings.mail.get p with
  | none =>
    refine (AppendsAt.same s).congr fun b l x => ?_
    unfold endExchange
    rw [show (onLink s b l x).rings.mail.get p = none from h]
  | some y =>
    refine ⟨by simp, [replyRecord tunnelType y.tag k
      (if k = .ok ∨ k = .malformed then BitVec.ofNat 8 y.reply.length :: y.reply else [])],
      fun b l x => ?_⟩
    rw [endExchange_some k h, endExchange_some k (show (onLink s b l x).rings.mail.get p = some y from h)]
    rfl

theorem appends_abortExchanges : Appends abortExchanges := .foldl (fun p => appends_endExchange p .aborted) phases

theorem appends_endExchangeWith (c : CellRef) : Appends (endExchangeWith c) := by
  intro s
  cases h : s.rings.mail.get (phaseOf c) with
  | none =>
    refine (AppendsAt.same s).congr fun b l x => ?_
    unfold endExchangeWith
    rw [show (onLink s b l x).rings.mail.get (phaseOf c) = none from h]
  | some y =>
    refine (AppendsAt.ite (p := fun _ => y.cell = c) (fun _ _ _ => .rfl)
      (fun _ => appends_endExchange (phaseOf c) .notLinked s) (fun _ => .same s)).congr fun b l x => ?_
    unfold endExchangeWith
    rw [show (onLink s b l x).rings.mail.get (phaseOf c) = some y from h]

/-! ### Cells, links and lines -/

theorem appends_modCell (c : CellRef) (h : Cell → Cell) : Appends fun s => s.modCell c h := fun _ => .of_blind fun _ _ _ => rfl

theorem appends_enterLink (v : LinkState) (a : Option Ability) (k : Option RejectCause) (c : CellRef) :
    Appends (enterLink v a k c) := fun s =>
  .ite (p := fun s => (s.cell c).link = .enrolled ∧ v ≠ .enrolled) (fun _ _ _ => .rfl)
    (fun _ => .comp (appends_endExchangeWith c _) ((appends_modCell c (linkItems v a k s.now) s).congr fun _ _ _ => rfl))
    (fun _ => (appends_modCell c (linkItems v a k s.now) s).congr fun _ _ _ => rfl)

theorem appends_releaseNotices : Appends releaseNotices := fun _ => .of_blind fun _ _ _ => rfl

theorem appends_postCellNotice (c : CellRef) : Appends (postCellNotice c) := fun _ =>
  .ite (fun _ _ _ => .rfl) (fun _ => .of_blind fun _ _ _ => rfl) fun _ =>
    .ite (fun _ _ _ => .rfl) (fun _ => .of_blind fun _ _ _ => rfl) (fun _ => .of_blind fun _ _ _ => rfl)

theorem appends_withdrawNotice (c : CellRef) : Appends (withdrawNotice c) := fun _ =>
  .ite (fun _ _ _ => .rfl) (fun _ => .of_blind fun _ _ _ => rfl) (fun _ => .of_blind fun _ _ _ => rfl)

theorem appends_setFlag (f : ReportFlag) (c : CellRef) : Appends (setFlag f c) := fun s =>
  .ite (fun _ _ _ => .rfl) (fun _ => .comp (appends_postCellNotice c _) (appends_modCell c _ s)) (fun _ => appends_modCell c _ s)

theorem appends_setService (v : Service) (c : CellRef) : Appends (setService v c) := fun s =>
  have hset : AppendsAt (fun s => s.setCell c { s.cell c with
      service := v
      offset := if v = .active then (s.cell c).offset else none
      dcDebounce := if v.working then (s.cell c).dcDebounce else 0 }) s := .of_blind fun _ _ _ => rfl
  .ite (fun _ _ _ => .rfl) (fun _ => hset) (fun _ => .comp (appends_setFlag .stateChanged c _) hset)

theorem appends_retireCells : Appends retireCells :=
  .foldl (fun c s => .ite (fun _ _ _ => .rfl) (fun _ => appends_setService .awaiting c s) (fun _ => .same s)) allCells

theorem appends_darkenLinks : Appends darkenLinks := fun s => .of_blind (fun _ _ _ => rfl) (darkenLinks_gen s)

theorem appends_followDemand : Appends followDemand := fun s =>
  .ite (fun _ _ _ => .rfl)
    (fun _ => .ite (fun _ _ _ => .rfl) (fun _ => .same s) fun _ =>
      .ite (fun _ _ _ => .rfl) (fun _ => .of_blind fun _ _ _ => rfl) (fun _ => .of_blind fun _ _ _ => rfl))
    (fun _ => .ite (fun _ _ _ => .rfl) (fun _ => .of_blind fun _ _ _ => rfl) (fun _ => .same s))

theorem appends_syncLines (b : Bool) : Appends (syncLines b) := fun s =>
  have ht : AppendsAt (fun s => { s with lock.trip := s.lock.trip || b }) s := .of_blind fun _ _ _ => rfl
  have hf : AppendsAt (fun s => followDemand { s with lock.trip := s.lock.trip || b }) s := .comp (appends_followDemand _) ht
  .ite (fun b l x => by rw [hf.reads State.lock (fun _ _ _ _ => rfl)]; rfl)
    (fun _ => hf) (fun _ => .comp (appends_postLines _) hf)

theorem appends_clearTrip : Appends clearTrip := fun s =>
  have hf : AppendsAt (fun s => { s with lock.trip := false, seq.tripCause := none }) s := .of_blind fun _ _ _ => rfl
  .ite (fun _ _ _ => .rfl) (fun _ => .comp (appends_postLines _) hf) (fun _ => hf)

/-! ### The sequencer -/

theorem appends_setSeq (st : SeqState) : Appends (setSeq st) := fun s =>
  .comp (f := fun s => if s.seq.state = .ready ∧ st ≠ .ready then abortExchanges s else s)
    (g := fun t => { t with seq.state := st, seq.scale := entryScale st }) (.of_blind fun _ _ _ => rfl)
    (.ite (fun _ _ _ => .rfl) (fun _ => appends_abortExchanges s) (fun _ => .same s))

theorem appends_dropStage : Appends dropStage := fun s => .of_blind (fun _ _ _ => rfl) (dropStage_gen s)

theorem appends_closeCampaign (o : CampaignOutcome) : Appends fun s => (closeCampaign o s).2 := by
  intro s
  cases h : s.seq.campaign with
  | none =>
    refine .of_blind (fun b l x => ?_) (closeCampaign_gen o s)
    rw [closeCampaign_none o h, closeCampaign_none o (show (onLink s b l x).seq.campaign = none from h)]
  | some k =>
    refine .of_blind (fun b l x => ?_) (closeCampaign_gen o s)
    rw [closeCampaign_some o h, closeCampaign_some o (show (onLink s b l x).seq.campaign = some k from h)]
    rfl

theorem closeCampaign_onLink (o : CampaignOutcome) (s : State) (b : List Request) (l : List LinkRecord)
    (x : Option Transmission) : (closeCampaign o (onLink s b l x)).1 = (closeCampaign o s).1 := by
  cases h : s.seq.campaign with
  | none => rw [closeCampaign_none o h, closeCampaign_none o (show (onLink s b l x).seq.campaign = none from h)]
  | some k =>
    rw [closeCampaign_some o h, closeCampaign_some o (show (onLink s b l x).seq.campaign = some k from h)]
    rfl

theorem appends_haltDevice (k : ModeCause) : Appends (haltDevice k) := by
  intro s
  have h : AppendsAt (fun s => { s with
    seq.heldHalt := false
    plans.pending := none
    plans.inForce := none
    store.mode := .standby
    rings.healthOn := false }) s := .of_blind fun _ _ _ => rfl
  have hall := (appends_retireCells _).comp ((appends_darkenLinks _).comp ((appends_postMode k _).comp h))
  exact hall

theorem appends_enterStopped (st : SeqState) (r : Option CampaignRecord) : Appends (enterStopped st r) := fun s =>
  have h (st : SeqState) : AppendsAt (fun s => syncLines true (postCampaign r (setSeq st s))) s :=
    .comp (appends_syncLines true _) (.comp (appends_postCampaign r _) (appends_setSeq st s))
  .ite (fun _ _ _ => .rfl) (fun _ => .comp (appends_haltDevice .haltHeld _) (h .off)) (fun _ => h st)

theorem appends_trip (k : TripCause) : Appends (trip k) := by
  intro s
  by_cases hs : s.seq.state = .off ∨ s.seq.state = .tripped ∨ s.seq.state = .locked
  · refine (AppendsAt.same s).congr fun b l x => ?_
    exact trip_stopped k (s := onLink s b l x) hs
  · have hd : AppendsAt (fun s => discardPending (dropStage { s with seq.tripCause := some k })) s :=
      .of_blind (fun _ _ _ => rfl) (by simp)
    have h := (appends_enterStopped .tripped (closeCampaign (.tripped k)
      (discardPending (dropStage { s with seq.tripCause := some k }))).1 _).comp
      ((appends_closeCampaign (.tripped k) _).comp hd)
    refine h.congr fun b l x => ?_
    rw [trip_running k (s := onLink s b l x) hs]
    exact congrArg (fun r => enterStopped .tripped r _) (closeCampaign_onLink (.tripped k)
      (discardPending (dropStage { s with seq.tripCause := some k })) b l x)

theorem appends_toHeld : Appends toHeld := fun _ => .of_blind fun _ _ _ => rfl

theorem appends_decideStyle (k : CampaignKind) : Appends (decideStyle k) := fun s =>
  .ite (fun _ _ _ => .rfl) (fun _ => .of_blind fun _ _ _ => rfl)
    (fun _ => .ite (fun _ _ _ => .rfl) (fun _ => .of_blind fun _ _ _ => rfl) (fun _ => appends_toHeld s))

theorem appends_restyle : Appends restyle := fun s =>
  .ite (fun _ _ _ => .rfl) (fun _ => appends_toHeld s) (fun _ => .same s)

theorem appends_blockStyle (first : Bool) : Appends (blockStyle first) := by
  intro s
  cases h : s.seq.campaign with
  | none =>
    refine (AppendsAt.same s).congr fun b l x => ?_
    unfold blockStyle
    rw [show (onLink s b l x).seq.campaign = none from h]
  | some k =>
    refine (AppendsAt.ite (p := fun _ => first = true) (fun _ _ _ => .rfl) (fun _ => appends_decideStyle k.kind s)
      (fun _ => appends_restyle s)).congr fun b l x => ?_
    unfold blockStyle
    rw [show (onLink s b l x).seq.campaign = some k from h]

theorem appends_enterBlock (first : Bool) : Appends (enterBlock first) := by
  intro s
  have hb : AppendsAt (fun s => setSeq .block (dropStage s)) s := (appends_setSeq .block _).comp (appends_dropStage s)
  have hw : Appends fun u => { u with seq.watch := some { cells := watchedCells u, starts := 0 } } :=
    fun _ => .of_blind fun _ _ _ => rfl
  have hopen := (appends_syncLines false _).comp ((appends_postOpen _).comp ((hw _).comp
    ((appends_blockStyle first _).comp hb)))
  have htrip := (appends_trip .settingsCorrupt _).comp ((appends_postOpen _).comp hb)
  have h := AppendsAt.ite (p := fun s => settingsMatch (setSeq .block (dropStage s)) = true)
    (fun b l x => by rw [hb.reads settingsMatch (fun _ _ _ _ => rfl)]) (fun _ => hopen) (fun _ => htrip)
  exact h

theorem appends_openCampaign (k : CampaignKind) : Appends (openCampaign k) := by
  intro s
  have h : AppendsAt (fun s => { dropCampaign s with
    seq.campaign := some (newCampaign k s)
    seq.lastNumber := (newCampaign k s).number
    lock.holdMark := k.opensHeld }) s := .of_blind fun _ _ _ => rfl
  have hall := (appends_enterBlock true _).comp h
  exact hall

/-! ### The settings requests -/

theorem appends_reshape (p : Phase) (n : Nat) : Appends (reshape p n) := by
  refine .foldl (fun c s => ?_) (cellsOf p)
  have hleave : AppendsAt (fun s => withdrawNotice c { s.setCell c (Cell.empty .vacant) with
      queue := s.queue.filter (·.cell ≠ c) }) s := (appends_withdrawNotice c _).comp (.of_blind fun _ _ _ => rfl)
  exact .ite (fun _ _ _ => .rfl)
    (fun _ => .ite (fun _ _ _ => .rfl) (fun _ => .same s) (fun _ => .of_blind fun _ _ _ => rfl))
    (fun _ => .ite (fun _ _ _ => .rfl) (fun _ => hleave) (fun _ => .same s))

theorem appends_refuse (t tag : Byte) (j : Nat) (phaseCode : Byte) (position : Nat) :
    Appends (refuseSettings t tag j phaseCode position) := appends_pushReply t tag .range _

theorem appends_settingsRequest (t tag : Byte) (specs : List FieldSpec) (fields : List (Option Nat)) (extra : Nat)
    {effects : State → State} (he : Appends effects) : Appends (settingsRequest t tag specs fields extra effects) := by
  intro s
  cases h : firstRefused (cfgCyclePeriod s.store.image) 0 specs fields with
  | none =>
    have hw : AppendsAt (fun s => { s with
        store.image := writeFields (cfgCyclePeriod s.store.image) specs fields s.store.image }) s :=
      .of_blind fun _ _ _ => rfl
    have hall := (appends_pushReply t tag .ok (bytesOfNat 3
      (adjustedSet (cfgCyclePeriod s.store.image) specs fields + extra)) _).comp ((he _).comp hw)
    refine hall.congr fun b l x => ?_
    unfold settingsRequest
    dsimp only
    rw [show firstRefused (cfgCyclePeriod (onLink s b l x).store.image) 0 specs fields = none from h]
    rfl
  | some r =>
    refine (appends_refuse t tag r.1 r.2.phaseCode r.2.position s).congr fun b l x => ?_
    unfold settingsRequest
    dsimp only
    rw [show firstRefused (cfgCyclePeriod (onLink s b l x).store.image) 0 specs fields = some r from h]

theorem appends_planEffects (window : Nat) (fields : List (Option Nat)) : Appends (planEffects window fields) := by
  intro s
  have hwindow : Appends (trimWindow window) := fun s =>
    .ite (fun _ _ _ => .rfl) (fun _ => .of_blind fun _ _ _ => rfl) (fun _ => .same s)
  have hfirst : AppendsAt (fun s => if carried fields 8 then trimWindow window s else s) s :=
    .ite (fun _ _ _ => .rfl) (fun _ => hwindow s) (fun _ => .same s)
  have hbudget : Appends trimBudget := fun _ => .of_blind fun _ _ _ => rfl
  have h := AppendsAt.ite (p := fun _ => carried fields 7 = true) (fun _ _ _ => .rfl)
    (fun _ => (hbudget _).comp hfirst) (fun _ => hfirst)
  exact h

theorem appends_recheckHoldMinimum : Appends recheckHoldMinimum := by
  intro s
  cases h : s.lock.holdTimer with
  | none =>
    refine (AppendsAt.same s).congr fun b l x => ?_
    unfold recheckHoldMinimum
    rw [show (onLink s b l x).lock.holdTimer = none from h]
  | some start =>
    have hall : AppendsAt (fun s => if cfgHoldMinimum s.store.image * 1000 ≤ s.age start then
        { s with lock.holdTimer := none, lock.holdMet := true } else s) s :=
      .ite (fun _ _ _ => .rfl) (fun _ => .of_blind fun _ _ _ => rfl) (fun _ => .same s)
    refine hall.congr fun b l x => ?_
    unfold recheckHoldMinimum
    rw [show (onLink s b l x).lock.holdTimer = some start from h]

theorem appends_timingEffects (fields : List (Option Nat)) : Appends (timingEffects fields) := by
  intro s
  have hhoist : Appends refreshHoist := fun _ => .of_blind fun _ _ _ => rfl
  have hfirst : AppendsAt (fun s => if carried fields 9 then refreshHoist s else s) s :=
    .ite (fun _ _ _ => .rfl) (fun _ => hhoist s) (fun _ => .same s)
  have h := AppendsAt.ite (p := fun _ => carried fields 11 = true) (fun _ _ _ => .rfl)
    (fun _ => (appends_recheckHoldMinimum _).comp hfirst) (fun _ => hfirst)
  exact h

theorem appends_reportingEffects (fields : List (Option Nat)) : Appends (reportingEffects fields) := fun s =>
  have hbatch : Appends recheckBatch := fun s =>
    .ite (fun _ _ _ => .rfl) (fun _ => appends_releaseNotices s) (fun _ => .same s)
  .ite (fun _ _ _ => .rfl) (fun _ => hbatch s) (fun _ => .same s)

theorem appends_ringEffects (p : Phase) (fields : List (Option Nat)) : Appends (ringEffects p fields) := fun s =>
  .ite (fun _ _ _ => .rfl)
    (fun _ => (appends_reshape p (cfgInstalled s.store.image p) s).congr fun _ _ _ => rfl) (fun _ => .same s)

theorem appends_serveSetDevice (tag : Byte) (fields : List (Option Nat)) : Appends (serveSetDevice tag fields) := fun s =>
  have hderive : Appends deriveWindow := fun _ => .of_blind fun _ _ _ => rfl
  AppendsAt.check (fun _ _ _ => .rfl) (.ite (fun _ _ _ => .rfl)
    (fun _ => appends_settingsRequest 0x01 tag deviceSpecs fields 192 hderive s)
    (fun _ => appends_settingsRequest 0x01 tag deviceSpecs fields 0 .same s))

theorem appends_serveSetRing (tag phaseCode : Byte) (fields : List (Option Nat)) :
    Appends (serveSetRing tag phaseCode fields) := by
  intro s
  unfold serveSetRing
  refine AppendsAt.check (fun _ _ _ => .rfl) ?_
  cases phaseOfCode phaseCode with
  | none => exact appends_refuse 0x02 tag 0 0 0 s
  | some p => exact appends_settingsRequest 0x02 tag (ringSpecs p) fields 0 (appends_ringEffects p fields) s

theorem appends_serveSetPlan (tag : Byte) (fields : List (Option Nat)) : Appends (serveSetPlan tag fields) := fun s =>
  AppendsAt.check (fun _ _ _ => .rfl) ((appends_settingsRequest 0x03 tag planSpecs fields 0
    (appends_planEffects (cfgAttemptWindow s.store.image) fields) s).congr fun _ _ _ => rfl)

theorem appends_serveSetTiming (tag : Byte) (fields : List (Option Nat)) : Appends (serveSetTiming tag fields) := fun s =>
  AppendsAt.check (fun _ _ _ => .rfl) (appends_settingsRequest 0x04 tag timingSpecs fields 0 (appends_timingEffects fields) s)

theorem appends_serveSetReporting (tag : Byte) (fields : List (Option Nat)) : Appends (serveSetReporting tag fields) :=
  fun s => AppendsAt.check (fun _ _ _ => .rfl)
    (appends_settingsRequest 0x05 tag reportingSpecs fields 0 (appends_reportingEffects fields) s)

/-! ### The other requests -/

theorem appends_serveFreeze (tag : Byte) : Appends (serveFreeze tag) := by
  intro s
  unfold serveFreeze
  refine AppendsAt.check (fun _ _ _ => .rfl) ?_
  cases h : freezeFault s with
  | none =>
    have hfreeze : AppendsAt (fun s => { s with
        store.storedCrc := some (settingsCrc s), store.frozen := true, store.mode := .standby }) s :=
      .of_blind fun _ _ _ => rfl
    have hall := (appends_pushReply 0x06 tag .ok [] _).comp ((appends_postMode .freeze _).comp hfreeze)
    refine hall.congr fun b l x => ?_
    rw [show freezeFault (onLink s b l x) = none from h]
  | some body =>
    refine (appends_pushReply 0x06 tag .range body s).congr fun b l x => ?_
    rw [show freezeFault (onLink s b l x) = some body from h]

theorem appends_toConfig : Appends fun s =>
    { s with store.frozen := false, store.storedCrc := none, store.mode := .config } := fun _ => .of_blind fun _ _ _ => rfl

theorem appends_serveUnfreeze (tag : Byte) : Appends (serveUnfreeze tag) := by
  intro s
  have h := (appends_pushReply 0x08 tag .ok [] _).comp ((appends_postMode .unfreeze _).comp (appends_toConfig s))
  exact h

theorem appends_serveSelfTest (tag ring : Byte) : Appends (serveSelfTest tag ring) := by
  intro s
  unfold serveSelfTest
  cases phaseOfCode ring with
  | none => exact appends_pushReply 0x07 tag .range [] s
  | some p =>
    have hstart : AppendsAt (fun s => { s with
        store.selfTest := some { ring := p, cycle := 0, slot := 0, failingSlots := 0, failingFrames := 0 } }) s :=
      .of_blind fun _ _ _ => rfl
    have h := (appends_pushReply 0x07 tag .accepted [] _).comp hstart
    exact .check (fun _ _ _ => .rfl) (.check (fun _ _ _ => .rfl) h)

theorem appends_serveGo (tag : Byte) : Appends (serveGo tag) := by
  intro s
  have hservice : AppendsAt (fun s => { s with store.mode := .service }) s := .of_blind fun _ _ _ => rfl
  have hgo := (appends_pushReply 0x09 tag .ok [] _).comp ((appends_openCampaign .start _).comp
    ((appends_postMode .go _).comp hservice))
  have hno := (appends_pushReply 0x09 tag .settingsCorrupt [] _).comp ((appends_postMode .goRefused _).comp
    (appends_toConfig s))
  exact .check (fun _ _ _ => .rfl) (.check (fun _ _ _ => .rfl) (.ite (fun _ _ _ => .rfl) (fun _ => hgo) (fun _ => hno)))

theorem appends_serveHalt (tag : Byte) : Appends (serveHalt tag) := by
  intro s
  have hat := (appends_pushReply 0x0A tag .ok [] _).comp ((appends_syncLines false _).comp
    ((appends_haltDevice .haltAtOnce _).comp ((appends_postCampaign none _).comp ((appends_setSeq .off _).comp
      (appends_dropStage s)))))
  have hmark : AppendsAt (fun s => { s with seq.heldHalt := true }) s := .of_blind fun _ _ _ => rfl
  have hheld := (appends_pushReply 0x0A tag .accepted [] _).comp hmark
  exact .ite (fun _ _ _ => .rfl) (fun _ => hat) (fun _ => hheld)

theorem appends_releaseTrip : Appends releaseTrip := fun s =>
  .ite (fun _ _ _ => .rfl) (fun _ => appends_clearTrip s) (fun _ => .of_blind fun _ _ _ => rfl)

theorem appends_serveAckTrip (tag : Byte) : Appends (serveAckTrip tag) := by
  intro s
  have hclear := (appends_pushReply 0x0C tag .ok [] _).comp (appends_clearTrip s)
  have hopen := (appends_pushReply 0x0C tag .ok [] _).comp ((appends_openCampaign .recover _).comp (appends_releaseTrip s))
  exact .ite (fun _ _ _ => .rfl) (fun _ => hclear) fun _ => .check (fun _ _ _ => .rfl)
    (.ite (fun _ _ _ => .rfl) (fun _ => hopen) (fun _ => appends_pushReply 0x0C tag .notAtRest [] s))

theorem appends_serveClearLockout (tag : Byte) : Appends (serveClearLockout tag) := by
  intro s
  have hdrop : AppendsAt (fun s => { s with seq.attempts := [] }) s := .of_blind fun _ _ _ => rfl
  have hclear := (appends_pushReply 0x0D tag .ok [] _).comp ((appends_clearTrip _).comp hdrop)
  have hopen := (appends_pushReply 0x0D tag .ok [] _).comp ((appends_openCampaign .recover _).comp
    ((appends_releaseTrip _).comp hdrop))
  exact .ite (fun _ _ _ => .rfl) (fun _ => hclear) fun _ => .check (fun _ _ _ => .rfl)
    (.ite (fun _ _ _ => .rfl) (fun _ => hopen) (fun _ => appends_pushReply 0x0D tag .notAtRest [] s))

theorem appends_serveRebalance (tag : Byte) : Appends (serveRebalance tag) := by
  intro s
  have hopen := (appends_pushReply 0x10 tag .ok [] _).comp (appends_openCampaign .replan s)
  exact .check (fun _ _ _ => .rfl)
    (.ite (fun _ _ _ => .rfl) (fun _ => hopen) (fun _ => appends_pushReply 0x10 tag .notAtRest [] s))

theorem appends_serveResume (tag : Byte) : Appends (serveResume tag) := by
  intro s
  cases h : resumeFault s with
  | none =>
    have hramp := (appends_pushReply 0x0B tag .ok [] _).comp ((appends_postOpen _).comp ((appends_setSeq .ramp _).comp
      (appends_dropStage s)))
    refine hramp.congr fun b l x => ?_
    unfold serveResume
    rw [show resumeFault (onLink s b l x) = none from h]
  | some code =>
    refine (appends_pushReply 0x0B tag code [] s).congr fun b l x => ?_
    unfold serveResume
    rw [show resumeFault (onLink s b l x) = some code from h]

theorem appends_serveHoistStatus (tag : Byte) (speed : BitVec 16) (zone : Byte) :
    Appends (serveHoistStatus tag speed zone) := by
  intro s
  unfold serveHoistStatus
  cases zoneOfCode zone with
  | none => exact appends_pushReply 0x14 tag .range [] s
  | some z =>
    have hrecord : AppendsAt (fun s => { s with
        lock.hoist := some { speed := clampSpeed speed, zone := z, stamp := s.now, fresh := true } }) s :=
      .of_blind fun _ _ _ => rfl
    have h := (appends_pushReply 0x14 tag .ok [] _).comp hrecord
    exact h

/-- A request that names a cell: RANGE where there is none, and else what it does with the cell. -/
theorem AppendsAt.named {f : State → State} {s : State} {t tag number : Byte} {g : CellRef → State → State}
    (hnone : ∀ u : State, u.named number = none → f u = pushReply t tag .range [] u)
    (hsome : ∀ (u : State) (c : CellRef), u.named number = some c → f u = g c u) (hg : ∀ c, AppendsAt (g c) s) :
    AppendsAt f s := by
  cases h : s.named number with
  | none => exact (appends_pushReply t tag .range [] s).congr fun b l x => hnone (onLink s b l x) h
  | some c => exact (hg c).congr fun b l x => hsome (onLink s b l x) c h

theorem appends_serveClearCell (tag number : Byte) : Appends (serveClearCell tag number) := by
  intro s
  refine .named (g := fun c s =>
    if (s.cell c).service ≠ .lockedOut then pushReply 0x0E tag .wrongState [] s
    else if s.store.mode = .service ∧ s.seq.state ≠ .ready then pushReply 0x0E tag .campaignActive [] s
    else pushReply 0x0E tag .ok [] (setService .bypassed c (s.modCell c fun x => { x with strikes := 0 })))
    (fun u h => by unfold serveClearCell; rw [h]) (fun u c h => by unfold serveClearCell; rw [h]) fun c => ?_
  have h := (appends_pushReply 0x0E tag .ok [] _).comp ((appends_setService .bypassed c _).comp
    (appends_modCell c (fun x => { x with strikes := 0 }) s))
  exact .check (fun _ _ _ => .rfl) (.check (fun _ _ _ => .rfl) h)

theorem appends_serveReinstate (tag number : Byte) : Appends (serveReinstate tag number) := by
  intro s
  refine .named (g := fun c s =>
    if (s.cell c).service ≠ .bypassed ∨ cfgStrikeLimit s.store.image ≤ (s.cell c).strikes then
      pushReply 0x0F tag .wrongState [] s
    else if s.seq.state ≠ .ready then pushReply 0x0F tag .campaignActive [] s
    else if (s.cell c).link ≠ .enrolled then pushReply 0x0F tag .notLinked [] s
    else if needsRepair (s.cell c) then pushReply 0x0F tag .notRepaired [] s
    else pushReply 0x0F tag .ok [] (setService .reserve c (s.modCell c fun x => { x with fault := none })))
    (fun u h => by unfold serveReinstate; rw [h]) (fun u c h => by unfold serveReinstate; rw [h]) fun c => ?_
  have h := (appends_pushReply 0x0F tag .ok [] _).comp ((appends_setService .reserve c _).comp
    (appends_modCell c (fun x => { x with fault := none }) s))
  exact .check (fun _ _ _ => .rfl) (.check (fun _ _ _ => .rfl) (.check (fun _ _ _ => .rfl) (.check (fun _ _ _ => .rfl) h)))

theorem appends_serveRelink (tag number : Byte) : Appends (serveRelink tag number) := by
  intro s
  refine .named (g := fun c s =>
    if (s.cell c).link ≠ .severed ∨ (s.cell c).goodRun < 48 then pushReply 0x11 tag .wrongState [] s
    else pushReply 0x11 tag .ok [] (enterLink .dark none none c s))
    (fun u h => by unfold serveRelink; rw [h]) (fun u c h => by unfold serveRelink; rw [h]) fun c => ?_
  have h := (appends_pushReply 0x11 tag .ok [] _).comp (appends_enterLink .dark none none c s)
  exact .check (fun _ _ _ => .rfl) h

theorem appends_serveReenrol (tag number : Byte) : Appends (serveReenrol tag number) := by
  intro s
  refine .named (g := fun c s =>
    if (s.cell c).link ≠ .rejected ∧ (s.cell c).link ≠ .unsteady then pushReply 0x12 tag .wrongState [] s
    else pushReply 0x12 tag .ok [] (enterLink .dark none none c (s.modCell c fun x => { x with unsteadyCount := 0 })))
    (fun u h => by unfold serveReenrol; rw [h]) (fun u c h => by unfold serveReenrol; rw [h]) fun c => ?_
  have h := (appends_pushReply 0x12 tag .ok [] _).comp ((appends_enterLink .dark none none c _).comp
    (appends_modCell c (fun x => { x with unsteadyCount := 0 }) s))
  exact .check (fun _ _ _ => .rfl) h

theorem appends_serveTunnel (tag number : Byte) (bytes : List Byte) : Appends (serveTunnel tag number bytes) := by
  intro s
  refine .named (g := fun c s =>
    if !cfgTunnelEnable s.store.image then pushReply tunnelType tag .disabled [] s
    else if (s.cell c).link ≠ .enrolled then pushReply tunnelType tag .notLinked [] s
    else if (s.rings.mail.get (phaseOf c)).isSome then pushReply tunnelType tag .busy [] s
    else if s.seq.state ≠ .ready then pushReply tunnelType tag .campaignActive [] s
    else { s with rings.mail := s.rings.mail.set (phaseOf c) (some (newExchange c tag bytes)) })
    (fun u h => by unfold serveTunnel; rw [h]) (fun u c h => by unfold serveTunnel; rw [h]) fun c => ?_
  exact .check (fun _ _ _ => .rfl) (.check (fun _ _ _ => .rfl) (.check (fun _ _ _ => .rfl)
    (.check (fun _ _ _ => .rfl) (.of_blind fun _ _ _ => rfl))))

theorem appends_serveReadCell (tag number : Byte) : Appends (serveReadCell tag number) := by
  intro s
  refine .named (g := fun c s => pushReply 0x16 tag .ok (cellRecordBytes s c) (withdrawNotice c (clearFlags c s)))
    (fun u h => by unfold serveReadCell; rw [h]) (fun u c h => by unfold serveReadCell; rw [h]) fun c => ?_
  have h := (appends_pushReply 0x16 tag .ok (cellRecordBytes s c) _).comp ((appends_withdrawNotice c _).comp
    (appends_modCell c (fun x => { x with flags := 0 }) s))
  exact h.congr fun _ _ _ => rfl

theorem appends_serveReadStatus (tag : Byte) : Appends (serveReadStatus tag) := by
  intro s
  have hclear : AppendsAt (fun s => { s with notices.overrun := false }) s := .of_blind fun _ _ _ => rfl
  have h := (appends_pushReply 0x15 tag .ok (statusBytes s) _).comp hclear
  exact h.congr fun _ _ _ => rfl

theorem appends_serveReadCampaign (tag part : Byte) : Appends (serveReadCampaign tag part) := by
  intro s
  cases h : campaignPart s part with
  | none =>
    refine (appends_pushReply 0x17 tag .range [] s).congr fun b l x => ?_
    unfold serveReadCampaign
    rw [show campaignPart (onLink s b l x) part = none from h]
  | some body =>
    refine (appends_pushReply 0x17 tag .ok body s).congr fun b l x => ?_
    unfold serveReadCampaign
    rw [show campaignPart (onLink s b l x) part = some body from h]

theorem appends_serveReadSettings (tag part : Byte) : Appends (serveReadSettings tag part) := by
  intro s
  cases h : settingsPart s part with
  | none =>
    refine (appends_pushReply 0x18 tag .range [] s).congr fun b l x => ?_
    unfold serveReadSettings
    rw [show settingsPart (onLink s b l x) part = none from h]
  | some body =>
    refine (appends_pushReply 0x18 tag .ok body s).congr fun b l x => ?_
    unfold serveReadSettings
    rw [show settingsPart (onLink s b l x) part = some body from h]

theorem appends_serveAttentionScan (tag : Byte) : Appends (serveAttentionScan tag) := by
  intro s
  cases h : (scanOrder s.notices.scan).findSome? fun n => (flagged s n).map fun c => (n, c) with
  | none =>
    refine (appends_pushReply 0x19 tag .ok [0, 0, 0] s).congr fun b l x => ?_
    unfold serveAttentionScan
    rw [show ((scanOrder (onLink s b l x).notices.scan).findSome? fun n =>
      (flagged (onLink s b l x) n).map fun c => (n, c)) = none from h]
  | some found =>
    have hscan : AppendsAt (fun s => { s with notices.scan := found.1 }) s := .of_blind fun _ _ _ => rfl
    have hall := (appends_pushReply 0x19 tag .ok
      (BitVec.ofNat 8 found.1 :: bytes16 ((s.cell found.2).flags.setWidth 16)) _).comp hscan
    refine hall.congr fun b l x => ?_
    unfold serveAttentionScan
    rw [show ((scanOrder (onLink s b l x).notices.scan).findSome? fun n =>
      (flagged (onLink s b l x) n).map fun c => (n, c)) = some found from h]
    rfl

theorem appends_serveRestart (tag : Byte) : Appends (serveRestart tag) := by
  intro s
  have hmark : Appends fun s => { s with link.restartPending := true } := fun _ => .of_blind fun _ _ _ => rfl
  have h := (hmark _).comp ((appends_pushReply 0x1A tag .ok [] _).comp (appends_abortExchanges s))
  exact h

/-- A request adds replies to the link, whatever waits there. -/
theorem appends_serve (r : Request) : Appends (serve r) := by
  intro s
  obtain ⟨tag, op⟩ := r
  cases op with
  | setDevice fields => exact appends_serveSetDevice tag fields s
  | setRing phaseCode fields => exact appends_serveSetRing tag phaseCode fields s
  | setPlan fields => exact appends_serveSetPlan tag fields s
  | setTiming fields => exact appends_serveSetTiming tag fields s
  | setReporting fields => exact appends_serveSetReporting tag fields s
  | freeze => exact appends_serveFreeze tag s
  | selfTest ring => exact appends_serveSelfTest tag ring s
  | unfreeze => exact appends_serveUnfreeze tag s
  | go => exact appends_serveGo tag s
  | halt => exact appends_serveHalt tag s
  | resume => exact appends_serveResume tag s
  | ackTrip => exact appends_serveAckTrip tag s
  | clearLockout => exact appends_serveClearLockout tag s
  | clearCell cell => exact appends_serveClearCell tag cell s
  | reinstate cell => exact appends_serveReinstate tag cell s
  | rebalance => exact appends_serveRebalance tag s
  | relink cell => exact appends_serveRelink tag cell s
  | reenrol cell => exact appends_serveReenrol tag cell s
  | tunnel cell bytes => exact appends_serveTunnel tag cell bytes s
  | hoistStatus speed zone => exact appends_serveHoistStatus tag speed zone s
  | readStatus => exact appends_serveReadStatus tag s
  | readCell cell => exact appends_serveReadCell tag cell s
  | readCampaign part => exact appends_serveReadCampaign tag part s
  | readSettings part => exact appends_serveReadSettings tag part s
  | attentionScan => exact appends_serveAttentionScan tag s
  | restart => exact appends_serveRestart tag s
  | unknown t => exact appends_pushReply t tag .unknown [] s
  | malformed t => exact appends_pushReply t tag .malformed (malformedBody t) s

theorem appends_dispatch (r : Request) : Appends (dispatch r) := fun s =>
  .ite (fun _ _ _ => .rfl) (fun _ => appends_serve r s)
    (fun _ => appends_pushReply r.op.recordType r.tag .wrongMode [] s)

/-- What a dispatched request leaves of the link: the requests held and the frame in transmission, and the replies that waited
before its own. -/
theorem dispatch_keeps_link (r : Request) (s : State) :
    (dispatch r s).link.buffer = s.link.buffer ∧ (dispatch r s).link.transmitting = s.link.transmitting
      ∧ ∃ new, (dispatch r s).link.replies = s.link.replies ++ new := by
  obtain ⟨_, new, h⟩ := appends_dispatch r s
  have hs := h s.link.buffer s.link.replies s.link.transmitting
  rw [onLink_self] at hs
  exact ⟨congrArg (fun t => t.link.buffer) hs, congrArg (fun t => t.link.transmitting) hs, new,
    congrArg (fun t => t.link.replies) hs⟩

end Sys2Proof.Machine
end

section
/-! PROOFS. The end of a step: what the link dispatches, what it leaves waiting, and that it has nothing more to do once it has
done its part (R157, R159). -/

namespace Sys2Proof.Machine

open Sys2Proof

/-- No request may leave the buffer (R157). -/
abbrev Stalled (s : State) : Prop :=
  s.link.buffer = [] ∨ 4 ≤ s.link.replies.length ∨ s.link.restartPending = true

variable {s : State}

theorem dispatchLoop_stalled (n : Nat) (h : Stalled s) : dispatchLoop n s = s := by
  cases n with
  | zero => rfl
  | succ n =>
    unfold dispatchLoop
    split
    · rfl
    · next r rest hb =>
      have hno : ¬(s.link.replies.length < 4 ∧ s.link.restartPending = false) := by
        rintro ⟨hshort, hpending⟩
        rcases h with h | h | h
        · rw [hb] at h; cases h
        · omega
        · rw [hpending] at h; cases h
      exact if_neg hno

theorem dispatchAll_stalled (h : Stalled s) : dispatchAll s = s := dispatchLoop_stalled _ h

theorem dispatchAll_head {r : Request} {rest : List Request} (hb : s.link.buffer = r :: rest)
    (hshort : s.link.replies.length < 4) (hpending : s.link.restartPending = false) :
    dispatchAll s = dispatchAll (dispatch r { s with link.buffer := rest }) := by
  have hlen : (dispatch r { s with link.buffer := rest }).link.buffer.length = rest.length :=
    congrArg List.length (dispatch_keeps_link r { s with link.buffer := rest }).1
  unfold dispatchAll
  rw [hlen, hb, List.length_cons]
  conv => lhs; unfold dispatchLoop
  simp only [hb]
  exact if_pos ⟨hshort, hpending⟩

/-- Either nothing may be dispatched, or the request at the head of the buffer is. -/
theorem stalled_or_head (s : State) : Stalled s
    ∨ ∃ r rest, s.link.buffer = r :: rest ∧ s.link.replies.length < 4 ∧ s.link.restartPending = false := by
  cases hb : s.link.buffer with
  | nil => exact .inl (.inl hb)
  | cons r rest =>
    by_cases hshort : s.link.replies.length < 4
    · cases hpending : s.link.restartPending with
      | true => exact .inl (.inr (.inr hpending))
      | false => exact .inr ⟨r, rest, rfl, hshort, rfl⟩
    · exact .inl (.inr (.inl (by omega)))

/-- What dispatch leaves: nothing more may be dispatched, and the frame in transmission is the same. -/
theorem dispatchAll_ends (s : State) :
    Stalled (dispatchAll s) ∧ (dispatchAll s).link.transmitting = s.link.transmitting := by
  generalize hn : s.link.buffer.length = n
  induction n generalizing s with
  | zero =>
    have hb : s.link.buffer = [] := List.length_eq_zero_iff.1 hn
    rw [dispatchAll_stalled (.inl hb)]
    exact ⟨.inl hb, rfl⟩
  | succ n ih =>
    rcases stalled_or_head s with h | ⟨r, rest, hb, hshort, hpending⟩
    · rw [dispatchAll_stalled h]
      exact ⟨h, rfl⟩
    · obtain ⟨hbuffer, hsent, _⟩ := dispatch_keeps_link r { s with link.buffer := rest }
      rw [dispatchAll_head hb hshort hpending]
      have hlen : rest.length = n := by simpa [hb] using hn
      obtain ⟨hstalled, hsame⟩ := ih (dispatch r { s with link.buffer := rest }) (by rw [hbuffer]; exact hlen)
      exact ⟨hstalled, hsame.trans hsent⟩

/-- The transmit path sends a frame, or there was none to take. -/
theorem pump_sends (s : State) : (pump s).link.transmitting.isSome = true ∨ pump s = s := by
  unfold pump
  split
  · exact .inr rfl
  · split
    · exact .inl rfl
    · split
      · exact .inl rfl
      · split
        · exact .inl rfl
        · exact .inr rfl

theorem settle_sending (h : s.link.transmitting.isSome = true) : settle s = dispatchAll s := by
  obtain ⟨hstalled, hsent⟩ := dispatchAll_ends s
  unfold settle
  rw [pump_busy (by rw [hsent]; exact h), dispatchAll_stalled hstalled]

/-- While a frame is being sent and no request may be dispatched, the link has nothing to do. -/
theorem settle_stalled (h : s.link.transmitting.isSome = true) (hs : Stalled s) : settle s = s := by
  rw [settle_sending h, dispatchAll_stalled hs]

/-- The link's part of a step leaves it nothing more to do. -/
theorem settle_settle (s : State) : settle (settle s) = settle s := by
  obtain ⟨hfirst, _⟩ := dispatchAll_ends s
  obtain ⟨hlast, hsent⟩ := dispatchAll_ends (pump (dispatchAll s))
  rcases pump_sends (dispatchAll s) with h | h
  · exact settle_stalled (by rw [settle, hsent]; exact h) hlast
  · have e : settle s = dispatchAll s := by rw [settle, h, dispatchAll_stalled hfirst]
    rw [e, settle, dispatchAll_stalled hfirst, h, dispatchAll_stalled hfirst]

/-- A free transmit path takes the oldest reply, and what is dispatched does not rest on whether it has been taken. -/
theorem settle_takes_reply (s : State) (buffer : List Request) (q : LinkRecord) (qs : List LinkRecord) :
    settle (onLink s buffer (q :: qs) none) = dispatchAll (onLink s buffer qs (some ⟨q, s.gen.timebase⟩)) := by
  induction buffer generalizing s qs with
  | nil => exact settle_empty rfl
  | cons r rest ih =>
    rcases stalled_or_head (onLink s (r :: rest) (q :: qs) none) with h | ⟨_, _, hb, hshort, hpending⟩
    · rw [settle, dispatchAll_stalled h]
      rfl
    · cases hb
      obtain ⟨hgen, new, hnew⟩ := appends_dispatch r s
      have hdispatch (l : List LinkRecord) (x : Option Transmission) (hl : l.length < 4) :
          dispatchAll (onLink s (r :: rest) l x) = dispatchAll (onLink (dispatch r s) rest (l ++ new) x) := by
        rw [dispatchAll_head (s := onLink s (r :: rest) l x) rfl hl hpending, ← hnew]
        rfl
      have hlt : qs.length < 4 := Nat.lt_of_succ_lt hshort
      rw [settle, hdispatch (q :: qs) none hshort, hdispatch qs _ hlt, ← hgen]
      exact ih (dispatch r s) (qs ++ new)

/-- A sent frame frees the transmit path, where no RESTART is pending (R159). -/
theorem exec_transmitDone {x : Transmission} (hx : s.link.transmitting = some x) (hr : s.link.restartPending = false) :
    exec .transmitDone s = .next (settle { s with link.transmitting := none }) := by
  have hno : sendingRestartOk s = false := by simp [sendingRestartOk, hx, hr]
  show Host.Outcome.next (settle (frameSent s)) = _
  simp [frameSent, hx, hno]

/-- While a frame is being sent, a request's command holds it and dispatches what may be. -/
theorem exec_request_sending {c : Instr} {r : Request} (hc : requestOf c = some r)
    (h : s.link.transmitting.isSome = true) : exec c s = .next (dispatchAll (arrive r s)) := by
  have hsent : (arrive r s).link.transmitting = s.link.transmitting := by
    unfold arrive
    (repeat' split) <;> rfl
  rw [exec_request s hc]
  show Host.Outcome.next (settle (arrive r s)) = _
  rw [settle_sending (by rw [hsent]; exact h)]

/-- An exchange in flight ends ABORTED, and nothing else changes (R42). -/
theorem endExchange_aborted_eq (p : Phase) (s : State) : endExchange p .aborted s = { s with
    rings.mail := s.rings.mail.set p none
    link.replies := s.link.replies ++ abortedReply s p } := by
  cases h : s.rings.mail.get p with
  | none =>
    rw [abortedReply, h, Rings.set_get h, Option.toList_none, List.map_nil, List.append_nil]
    unfold endExchange
    rw [h]
  | some x =>
    rw [endExchange_some _ h, abortedReply, h]
    rfl

/-- Every exchange in flight ends ABORTED in ring order, and nothing else changes (R42, R163). -/
theorem abortExchanges_eq (s : State) : abortExchanges s = { s with
    rings.mail := ⟨none, none, none⟩
    link.replies := s.link.replies ++ abortedReplies s } := by
  have e : abortExchanges s = endExchange .c .aborted (endExchange .b .aborted (endExchange .a .aborted s)) := rfl
  rw [e, abortedReplies_eq, endExchange_aborted_eq, endExchange_aborted_eq, endExchange_aborted_eq]
  simp [abortedReply, Rings.set, Rings.get]

theorem arrive_empty (r : Request) (h : s.link.buffer = []) : arrive r s = { s with link.buffer := [r] } := by
  simp [arrive, h]

end Sys2Proof.Machine

open Sys2Proof Sys2Proof.Machine

/-- Settles O6: the request that arrives changes no condition of dispatch, so the link leaves it where it is. -/
theorem requestIsHeldBusyOrDiscarded : Obligations.RequestIsHeldBusyOrDiscarded := by
  unfold Obligations.RequestIsHeldBusyOrDiscarded
  intro c r s hc hsent hblocked
  have harrive : arrive r s = if s.link.buffer.length < 4 then { s with link.buffer := s.link.buffer ++ [r] }
      else if s.link.replies.length < 8 then
        { s with link.replies := s.link.replies ++ [replyRecord r.op.recordType r.tag .busy []] }
      else { s with link.frameErrors := min 65535 (s.link.frameErrors + 1) } := rfl
  rw [exec_request_sending hc hsent, ← harrive, dispatchAll_stalled]
  rcases hblocked with h | h
  · refine .inr (.inl ?_)
    unfold arrive
    (repeat' split)
    · exact h
    · rw [pushReply_replies, List.length_append]; omega
    · exact h
  · refine .inr (.inr ?_)
    unfold arrive
    (repeat' split) <;> exact h

/-- Settles O9: what is dispatched does not rest on the reply that the transmit path has taken, so the requests behind it
follow in the same way. -/
theorem transmitDoneFreesThePath : Obligations.TransmitDoneFreesThePath := by
  unfold Obligations.TransmitDoneFreesThePath
  refine ⟨fun x s hx hr hb => ?_, fun x q qs s hx hr hq => ?_, fun s h => dispatchAll_stalled h⟩
  · rw [exec_transmitDone hx hr, settle_empty (s := { s with link.transmitting := none }) hb]
  · have hdone : exec .transmitDone s = .next (dispatchAll
        { s with link.replies := qs, link.transmitting := some ⟨q, s.gen.timebase⟩ }) := by
      rw [exec_transmitDone hx hr, ← show onLink s s.link.buffer (q :: qs) none = { s with link.transmitting := none } by
        rw [← hq]; rfl, settle_takes_reply]
      rfl
    refine ⟨fun hlong => ?_, fun hshort => ⟨fun c r hc hb => ?_, fun r rest hb => ?_⟩⟩
    · rw [hdone, dispatchAll_stalled (.inr (.inl hlong))]
    · rw [hdone, exec_request_sending hc rfl, arrive_empty r rfl, ← hb]
    · rw [hdone]
      exact congrArg Host.Outcome.next (dispatchAll_head hb (Nat.lt_succ_of_le hshort) hr)

/-- Settles O30: the exchanges in flight end in ring order before RESTART's own reply. -/
theorem restartAnswersAndPends : Obligations.RestartAnswersAndPends := by
  unfold Obligations.RestartAnswersAndPends
  intro tag s hs
  have hserve : serve ⟨tag, .restart⟩ s = { s with
      rings.mail := ⟨none, none, none⟩
      link.replies := s.link.replies ++ abortedReplies s ++ [replyRecord 0x1A tag .ok []]
      link.restartPending := true } := by
    show { pushReply 0x1A tag .ok [] (abortExchanges s) with link.restartPending := true } = _
    rw [abortExchanges_eq]
    rfl
  exact exec_served (op := .restart) rfl hs rfl hserve hs.1

end

section
/-! PROOFS. The transmit path's next frame and the records of the notices it sends (Tables 12-3 and 12-4). -/

namespace Sys2Proof.Machine

open Sys2Proof

/-! ### The next frame (R159, R165) -/

section

variable {s : State}

theorem pump_reply {r : LinkRecord} {rest : List LinkRecord} (ht : s.link.transmitting = none)
    (hr : s.link.replies = r :: rest) : pump s = transmit r { s with link.replies := rest } := by
  simp only [pump, ht, hr]

theorem pump_urgent {n : Urgent} {rest : List Urgent} (ht : s.link.transmitting = none) (hr : s.link.replies = [])
    (hn : s.notices.urgent = n :: rest) : pump s = takeUrgent n rest s := by
  simp only [pump, ht, hr, hn]

theorem pump_cellNotice {q : CellNotice} (ht : s.link.transmitting = none) (hr : s.link.replies = [])
    (hn : s.notices.urgent = []) (hq : s.notices.cells.find? (·.released) = some q) : pump s = takeCellNotice q.cell s := by
  simp only [pump, ht, hr, hn, hq]

theorem pump_idle (ht : s.link.transmitting = none) (hr : s.link.replies = []) (hn : s.notices.urgent = [])
    (hq : s.notices.cells.find? (·.released) = none) : pump s = s := by
  simp only [pump, ht, hr, hn, hq]

end

/-! ### Bytes of a notice -/

theorem sendNat_one {n : Nat} (h : n < 256) : sendNat 1 n = [BitVec.ofNat 8 n] := sendNat_fits h

theorem sendNat_two {n : Nat} (h : n < 65536) : sendNat 2 n = [BitVec.ofNat 8 (n / 256), BitVec.ofNat 8 n] := sendNat_fits h

theorem sendOption_getD {α : Type} (f : α → Byte) (o : Option α) : sendOption f o = (o.map f).getD 0 := by
  cases o <;> rfl

theorem linesByte_toNat (holdReq trip driveRun brakeSet : Bool) : (linesByte holdReq trip driveRun brakeSet).toNat
    = holdReq.toNat + 2 * trip.toNat + 4 * driveRun.toNat + 8 * brakeSet.toNat := by
  revert holdReq trip driveRun brakeSet
  decide

/-- The lines byte: one bit for each line (Table 12-4). -/
theorem linesByte_eq (holdReq trip driveRun brakeSet : Bool) : linesByte holdReq trip driveRun brakeSet
    = BitVec.ofNat 8 (holdReq.toNat + 2 * trip.toNat + 4 * driveRun.toNat + 8 * brakeSet.toNat) := by
  rw [← linesByte_toNat, BitVec.ofNat_toNat, BitVec.setWidth_eq]

/-- A MODE notice that reports a self-test gives its ring, its result and its two counts. -/
theorem urgentRecord_test {slots frames : Nat} (m : Mode) (cause : ModeCause) (ring : Phase) (result : TestResult)
    (overrun : Bool) (v : Stamp) (hs : slots < 65536) (hf : frames < 256) :
    urgentRecord (.mode m cause (some (ring, result, slots, frames))) overrun v
      = ⟨0x40, if overrun then 1 else 0, bytes32 v ++ [m.code, cause.code, Phase.code ring, result.code,
          BitVec.ofNat 8 (slots / 256), BitVec.ofNat 8 slots, BitVec.ofNat 8 frames]⟩ := by
  simp only [urgentRecord, Urgent.recordType, Urgent.contents, sendBool, sendNat_two hs, sendNat_one hf]
  rfl

theorem urgentRecord_campaign (st : SeqState) (cause : Option TripCause) (record : Option CampaignRecord) (overrun : Bool)
    (v : Stamp) : urgentRecord (.campaign st cause record) overrun v
      = ⟨0x41, if overrun then 1 else 0, bytes32 v
          ++ [st.code, (cause.map TripCause.code).getD 0, if record.isSome then 1 else 0] ++ campaignBytes record⟩ := by
  simp only [urgentRecord, Urgent.recordType, Urgent.contents, sendBool, sendOption_getD, List.append_assoc]

theorem urgentRecord_plan {m voltage speed : Nat} (tag : Byte) (overrun : Bool) (v : Stamp) (hm : m < 256)
    (hv : voltage < 65536) (hs : speed < 65536) : urgentRecord (.plan tag m voltage speed) overrun v
      = ⟨0x42, if overrun then 1 else 0, bytes32 v ++ [tag, BitVec.ofNat 8 m, BitVec.ofNat 8 (voltage / 256),
          BitVec.ofNat 8 voltage, BitVec.ofNat 8 (speed / 256), BitVec.ofNat 8 speed]⟩ := by
  simp only [urgentRecord, Urgent.recordType, Urgent.contents, sendBool, sendNat_one hm, sendNat_two hv, sendNat_two hs]
  rfl

theorem urgentRecord_lines (holdReq trip driveRun brakeSet overrun : Bool) (v : Stamp) :
    urgentRecord (.lines holdReq trip driveRun brakeSet) overrun v
      = ⟨0x43, if overrun then 1 else 0, bytes32 v ++ [BitVec.ofNat 8 (holdReq.toNat + 2 * trip.toNat
          + 4 * driveRun.toNat + 8 * brakeSet.toNat)]⟩ := by
  rw [← linesByte_eq]
  rfl

end Sys2Proof.Machine

open Sys2Proof Sys2Proof.Machine

/-- Settles O8: a case for each source of the next frame, and a layout for each notice. -/
theorem freePathTakesReplyThenNotice : Obligations.FreePathTakesReplyThenNotice := by
  unfold Obligations.FreePathTakesReplyThenNotice
  refine ⟨fun s ht => ⟨fun r rest hr => ?_, fun n rest hr hn => ?_, fun q hr hn hq => ?_, fun hr hn hq => ?_⟩,
    fun overrun v => ⟨fun m cause => rfl, fun m cause ring result slots frames hs hf => ?_, fun st cause record => ?_,
      fun tag m voltage speed hm hv hs => ?_, fun holdReq trip driveRun brakeSet => ?_, rfl⟩, fun s c => rfl⟩
  · exact pump_reply ht hr
  · exact pump_urgent ht hr hn
  · exact pump_cellNotice ht hr hn hq
  · exact pump_idle ht hr hn hq
  · exact urgentRecord_test m cause ring result overrun v hs hf
  · exact urgentRecord_campaign st cause record overrun v
  · exact urgentRecord_plan tag overrun v hm hv hs
  · exact urgentRecord_lines holdReq trip driveRun brakeSet overrun v

end

section
/-! PROOFS. The records of requests: a request is read back from the record it was written as, and what a record that no request
takes is read as (R160, R178, Tables 12-2 and 12-3). -/

namespace Sys2Proof.Machine

open Sys2Proof

theorem high16_low16 (v : BitVec 16) : high16 v ++ low16 v = v := by
  refine BitVec.eq_of_toNat_eq ?_
  rw [toNat_append_eq_add, high16, low16, BitVec.extractLsb'_toNat, BitVec.extractLsb'_toNat,
    Nat.shiftRight_eq_div_pow]
  omega

/-! ### The fields of a settings body -/

theorem fieldsFit_nil {fields : List (Option Nat)} (h : fieldsFit [] fields = true) : fields = [] := by
  simpa [fieldsFit] using h

/-- Fields that fit their widths come one by one, each within its own. -/
theorem fieldsFit_cons {w : Nat} {ws : List Nat} {fields : List (Option Nat)} (h : fieldsFit (w :: ws) fields = true) :
    ∃ f fs, fields = f :: fs ∧ (∀ v, f = some v → v < 256 ^ w) ∧ fieldsFit ws fs = true := by
  cases fields with
  | nil => simp [fieldsFit] at h
  | cons f fs =>
    simp only [fieldsFit, List.length_cons, List.zip_cons_cons, List.all_cons, Bool.and_eq_true, beq_iff_eq,
      Nat.add_right_cancel_iff] at h
    obtain ⟨hlen, hf, hall⟩ := h
    refine ⟨f, fs, rfl, ?_, by simp only [fieldsFit, hlen, beq_self_eq_true, Bool.true_and, hall]⟩
    rintro v rfl
    simpa using hf

/-- The fields that a presence set names are those that were written. -/
theorem readFields_fieldBytes {ws : List Nat} {fields : List (Option Nat)} (h : fieldsFit ws fields = true) :
    readFields ws (presenceOf fields) (fieldBytes ws fields) = some fields := by
  induction ws generalizing fields with
  | nil =>
    obtain rfl := fieldsFit_nil h
    rfl
  | cons w ws ih =>
    obtain ⟨f, fs, rfl, hf, hfs⟩ := fieldsFit_cons h
    cases f with
    | none =>
      rw [readFields, presenceOf, fieldBytes, if_pos (by simp)]
      simp [ih hfs]
    | some v =>
      have hw : (bytesOfNat w v).length = w := bytesOfNat_length w v
      have hodd : ((1 + 2 * presenceOf fs) / 2) = presenceOf fs := by omega
      rw [readFields, presenceOf, fieldBytes, if_neg (by simp), if_neg (by simp [hw]), Option.isSome_some, if_pos rfl,
        hodd, List.drop_left' hw, List.take_left' hw, ih hfs, natOfBytes_bytesOfNat, Nat.mod_eq_of_lt (hf v rfl)]
      rfl

theorem presenceOf_lt (fields : List (Option Nat)) : presenceOf fields < 2 ^ fields.length := by
  induction fields with
  | nil => simp [presenceOf]
  | cons f fs ih =>
    have hf : (if f.isSome then 1 else 0) ≤ 1 := by split <;> omega
    rw [presenceOf, List.length_cons, Nat.pow_succ]
    omega

theorem fieldsFit_length {ws : List Nat} {fields : List (Option Nat)} (h : fieldsFit ws fields = true) :
    fields.length = ws.length := by
  simp only [fieldsFit, Bool.and_eq_true, beq_iff_eq] at h
  exact h.1

/-- A settings body reads back as the fields it was written from; a presence set has at most 24 bits. -/
theorem readSettings_write {t : Byte} {ws : List Nat} {op : List (Option Nat) → RequestOp} {fields : List (Option Nat)}
    (h : fieldsFit ws fields = true) (hws : ws.length ≤ 24) :
    readSettings t ws op (writeSettingsBody ws fields) = op fields := by
  have hset : presenceOf fields < 256 ^ 3 := by
    refine (presenceOf_lt fields).trans_le ?_
    rw [fieldsFit_length h]
    exact Nat.pow_le_pow_right (by decide) hws
  have hlen : (bytesOfNat 3 (presenceOf fields)).length = 3 := bytesOfNat_length 3 _
  have hread : readSettingsBody ws (writeSettingsBody ws fields) = some fields := by
    unfold readSettingsBody writeSettingsBody
    rw [if_neg (by rw [List.length_append, hlen]; omega), List.take_left' hlen, List.drop_left' hlen, natOfBytes_bytesOfNat,
      Nat.mod_eq_of_lt hset, readFields_fieldBytes h]
  unfold readSettings
  rw [hread]

/-- A body read in parts gives a presence set within the fields and the length that it implies (R160, R178). -/
theorem readFields_some {ws : List Nat} {presence : Nat} {bytes : List Byte} {fields : List (Option Nat)}
    (h : readFields ws presence bytes = some fields) :
    (∀ j, ws.length ≤ j → presence.testBit j = false)
    ∧ bytes.length = ((List.range ws.length).map fun j => if presence.testBit j then ws.getD j 0 else 0).sum := by
  induction ws generalizing presence bytes fields with
  | nil =>
    simp only [readFields] at h
    split at h
    · next hp => simp [hp.1, hp.2]
    · cases h
  | cons w ws ih =>
    have hbits (k : Nat) : presence.testBit (k + 1) = (presence / 2).testBit k := Nat.testBit_succ presence k
    have hsum : ((List.range (w :: ws).length).map fun j => if presence.testBit j then (w :: ws).getD j 0 else 0).sum
        = (if presence.testBit 0 then w else 0)
          + ((List.range ws.length).map fun j => if (presence / 2).testBit j then ws.getD j 0 else 0).sum := by
      rw [List.length_cons, List.range_succ_eq_map, List.map_cons, List.sum_cons, List.map_map]
      simp only [Function.comp_def, Nat.succ_eq_add_one, hbits]
      rfl
    have hhigh (hrest : ∀ j, ws.length ≤ j → (presence / 2).testBit j = false) :
        ∀ j, (w :: ws).length ≤ j → presence.testBit j = false := by
      intro j hj
      obtain ⟨k, rfl⟩ : ∃ k, j = k + 1 := ⟨j - 1, by simp at hj; omega⟩
      rw [hbits]
      exact hrest k (by simpa using hj)
    rw [hsum]
    simp only [readFields] at h
    split at h
    · next heven =>
      obtain ⟨fs, hfs, _⟩ := Option.map_eq_some_iff.1 h
      obtain ⟨hrest, hlen⟩ := ih hfs
      exact ⟨hhigh hrest, by simp [Nat.testBit_zero, heven, hlen]⟩
    · next hodd =>
      split at h
      · cases h
      · next hshort =>
        obtain ⟨fs, hfs, _⟩ := Option.map_eq_some_iff.1 h
        obtain ⟨hrest, hlen⟩ := ih hfs
        rw [List.length_drop] at hlen
        refine ⟨hhigh hrest, ?_⟩
        rw [← hlen, if_pos (by rw [Nat.testBit_zero]; simp; omega)]
        omega

/-! ### A request's record reads back -/

theorem ne_of_namesNoRequest {t : Byte} (h : t = 0x00 ∨ 0x1B ≤ t.toNat) (n : Byte) (hn : 1 ≤ n.toNat ∧ n.toNat < 0x1B) :
    t ≠ n := by
  rintro rfl
  rcases h with rfl | h
  · exact absurd hn.1 (by decide)
  · omega

/-- A type that names no request is UNKNOWN, whatever its body (R178). -/
theorem readOp_unknown {t : Byte} (body : List Byte) (h : t = 0x00 ∨ 0x1B ≤ t.toNat) : readOp t body = .unknown t := by
  have hne := ne_of_namesNoRequest h
  simp [readOp, hne]

/-- The record of a well-formed request reads back as what the request asks for. -/
theorem readOp_body {op : RequestOp} (h : op.wellFormed = true) (hm : ∀ t : Byte, op ≠ .malformed t) :
    readOp op.recordType op.body = op := by
  cases op with
  | setDevice fields => exact readSettings_write h (by decide)
  | setRing phaseCode fields => exact readSettings_write h (by decide)
  | setPlan fields => exact readSettings_write h (by decide)
  | setTiming fields => exact readSettings_write h (by decide)
  | setReporting fields => exact readSettings_write h (by decide)
  | tunnel cell bytes =>
    obtain ⟨hlow, hhigh⟩ : 1 ≤ bytes.length ∧ bytes.length ≤ 16 := by simpa [RequestOp.wellFormed] using h
    have hn : (BitVec.ofNat 8 bytes.length).toNat = bytes.length := by rw [BitVec.toNat_ofNat]; omega
    show readTunnel (cell :: BitVec.ofNat 8 bytes.length :: bytes) = _
    exact if_pos (by rw [hn]; exact ⟨hlow, hhigh, rfl⟩)
  | hoistStatus speed zone =>
    show RequestOp.hoistStatus (high16 speed ++ low16 speed) zone = _
    rw [high16_low16]
  | unknown t =>
    have hno : t = 0x00 ∨ 0x1B ≤ t.toNat := by simpa [RequestOp.wellFormed, namesNoRequest] using h
    exact readOp_unknown [] hno
  | malformed t => exact absurd rfl (hm t)
  | _ => rfl

end Sys2Proof.Machine

open Sys2Proof Sys2Proof.Machine

/-- Settles O4: the type and the body of the record give the request back. -/
theorem requestRecordsReadBack : Obligations.RequestRecordsReadBack := by
  unfold Obligations.RequestRecordsReadBack
  intro r h hm
  show some (⟨r.tag, readOp r.op.recordType r.op.body⟩ : Request) = some r
  rw [readOp_body h hm]

end

section
/-! PROOFS. The receive framer: what it makes of the characters of a frame, whole, cut or bad (R153 to R155), and the CRC-16
that judges a frame (R154). -/

namespace Sys2Proof.Machine

open Sys2Proof

/-! ### CRC-16 -/

/-- One bit of the CRC-16 register. -/
def crc16Shift (v : BitVec 16) : BitVec 16 := if v.msb = true then (v <<< 1) ^^^ 0x1021 else v <<< 1

theorem crc16Shift_toNat (v : BitVec 16) : crcShift 0x1021 16 v.toNat = (crc16Shift v).toNat := by
  have hv := v.isLt
  unfold crcShift crc16Shift
  by_cases h : v.toNat < 32768
  · rw [if_pos (by omega), if_neg (by simp [BitVec.msb_eq_decide]; omega), BitVec.toNat_shiftLeft, Nat.shiftLeft_eq]
    omega
  · rw [if_neg (by omega), if_pos (by simp [BitVec.msb_eq_decide]; omega), BitVec.toNat_xor, BitVec.toNat_shiftLeft,
      Nat.shiftLeft_eq, Nat.xor_mod_two_pow]
    rfl

theorem repeat_crc16Shift_toNat (n : Nat) (v : BitVec 16) : Nat.repeat (crcShift 0x1021 16) n v.toNat
    = ((List.range n).foldl (fun (v : BitVec 16) (_ : Nat) => crc16Shift v) v).toNat := by
  induction n with
  | zero => rfl
  | succ n ih =>
    rw [Nat.repeat, ih, crc16Shift_toNat, List.range_succ, List.foldl_append]
    rfl

/-- A byte is fed into the high half of the register. -/
theorem crc16Byte_toNat (v : BitVec 16) (b : Byte) : crcByte 0x1021 16 v.toNat b
    = ((List.range 8).foldl (fun (v : BitVec 16) (_ : Nat) => crc16Shift v) (v ^^^ (b ++ (0 : Byte)))).toNat := by
  rw [← repeat_crc16Shift_toNat, BitVec.toNat_xor, toNat_append_eq_add]
  simp [crcByte, Nat.shiftLeft_eq]

/-- The register holds 16 bits throughout. -/
theorem crc16_toNat (l : List Byte) : l.foldl (crcByte 0x1021 16) 0xFFFF = (crc16 l).toNat := by
  induction l using List.reverseRecOn with
  | nil => rfl
  | append_singleton l b ih => rw [crc16, List.foldl_append, List.foldl_cons, List.foldl_nil, ih, crc16Byte_toNat,
      BitVec.ofNat_toNat, BitVec.setWidth_eq]

theorem crc16_append (l : List Byte) (b : Byte) : crc16 (l ++ [b])
    = (List.range 8).foldl (fun (v : BitVec 16) (_ : Nat) => crc16Shift v) (crc16 l ^^^ (b ++ (0 : Byte))) := by
  rw [crc16, List.foldl_append, List.foldl_cons, List.foldl_nil, crc16_toNat, crc16Byte_toNat, BitVec.ofNat_toNat,
    BitVec.setWidth_eq]

/-! ### Characters one by one -/

/-- The state with the receive framer in another state. -/
def framing (f : Framer) (s : State) : State := { s with link.framer := f }

/-- The frame error count after one more bad frame (R155). -/
abbrev errorCounted (s : State) : State := { s with link.frameErrors := min 65535 (s.link.frameErrors + 1) }

section

variable {s : State}

theorem framing_self (h : s.link.framer = .hunt) : framing .hunt s = s := by
  unfold framing
  rw [← h]

/-- A bad frame is counted, and the framer is in HUNT again (R154). -/
theorem discardFrame_framing (f : Framer) (h : s.link.framer = .hunt) : discardFrame (framing f s) = errorCounted s :=
  congrArg errorCounted (framing_self h)

theorem takeByte_framing_length (b : Byte) (s : State) : takeByte b (framing .length s)
    = if 2 ≤ b.toNat ∧ b.toNat ≤ 60 then framing (.payload b.toNat []) s else discardFrame (framing .length s) := rfl

theorem takeByte_framing_payload (b : Byte) (n : Nat) (got : List Byte) (s : State) :
    takeByte b (framing (.payload n got) s)
      = if got.length + 1 < n then framing (.payload n (got ++ [b])) s else framing (.check (got ++ [b]) none) s := rfl

theorem takeByte_framing_check (b : Byte) (payload : List Byte) (s : State) :
    takeByte b (framing (.check payload none) s) = framing (.check payload (some b)) s := rfl

theorem takeByte_framing_last (b high : Byte) (payload : List Byte) (s : State) :
    takeByte b (framing (.check payload (some high)) s) = judgeFrame payload high b (framing (.check payload (some high)) s) :=
  rfl

/-- In HUNT the start byte opens a frame, and any other byte is ignored (R153). -/
theorem takeByte_start (h : s.link.framer = .hunt) : takeByte 0xA5 s = framing .length s := by
  simp only [takeByte, h]
  rfl

theorem takeByte_noise {b : Byte} (h : s.link.framer = .hunt) (hb : b ≠ 0xA5) : takeByte b s = s := by
  simp only [takeByte, h]
  exact if_neg hb

theorem takeChars_append (l m : List RxChar) (s : State) : takeChars (l ++ m) s = takeChars m (takeChars l s) :=
  List.foldl_append

theorem takeChars_clean_cons (b : Byte) (l : List Byte) (s : State) :
    takeChars (cleanChars (b :: l)) s = takeChars (cleanChars l) (takeByte b s) := rfl

/-! ### The characters of a frame -/

/-- Fewer characters than the length says leave the framer in PAYLOAD. -/
theorem takeChars_part {n : Nat} (part got : List Byte) (h : got.length + part.length < n) (s : State) :
    takeChars (cleanChars part) (framing (.payload n got) s) = framing (.payload n (got ++ part)) s := by
  induction part generalizing got with
  | nil => rw [List.append_nil]; rfl
  | cons b part ih =>
    rw [List.length_cons] at h
    rw [takeChars_clean_cons, takeByte_framing_payload, if_pos (by omega), ih _ (by simp; omega), List.append_assoc]
    rfl

/-- The whole payload leaves it in CHECK. -/
theorem takeChars_payload {payload : List Byte} (hne : payload ≠ []) (s : State) :
    takeChars (cleanChars payload) (framing (.payload payload.length []) s) = framing (.check payload none) s := by
  obtain ⟨part, b, rfl⟩ : ∃ part b, payload = part ++ [b] := ⟨_, _, (List.dropLast_append_getLast hne).symm⟩
  have hsplit : cleanChars (part ++ [b]) = cleanChars part ++ cleanChars [b] := List.map_append
  rw [hsplit, takeChars_append, takeChars_part part [] (by simp), takeChars_clean_cons, takeByte_framing_payload,
    if_neg (by simp)]
  rfl

theorem toNat_ofNat_length {n : Nat} (h : n ≤ 60) : (BitVec.ofNat 8 n).toNat = n := by
  rw [BitVec.toNat_ofNat]
  omega

/-- Start byte, length and payload. -/
theorem takeChars_head {n : Nat} (hlow : 2 ≤ n) (hhigh : n ≤ 60) (h : s.link.framer = .hunt) (l : List Byte) :
    takeChars (cleanChars (0xA5 :: BitVec.ofNat 8 n :: l)) s = takeChars (cleanChars l) (framing (.payload n []) s) := by
  have hn := toNat_ofNat_length hhigh
  rw [takeChars_clean_cons, takeByte_start h, takeChars_clean_cons, takeByte_framing_length, hn, if_pos ⟨hlow, hhigh⟩]

/-- A frame that ends with two more bytes is judged by them (R154). -/
theorem takeChars_frame {payload : List Byte} (high low : Byte) (hlow : 2 ≤ payload.length) (hhigh : payload.length ≤ 60)
    (h : s.link.framer = .hunt) :
    takeChars (cleanChars (0xA5 :: BitVec.ofNat 8 payload.length :: (payload ++ [high, low]))) s
      = judgeFrame payload high low s := by
  have hne : payload ≠ [] := by
    rintro rfl
    exact absurd hlow (by decide)
  have hsplit : cleanChars (payload ++ [high, low]) = cleanChars payload ++ cleanChars [high, low] := List.map_append
  rw [takeChars_head hlow hhigh h, hsplit, takeChars_append, takeChars_payload hne, takeChars_clean_cons,
    takeByte_framing_check, takeChars_clean_cons, takeByte_framing_last]
  show judgeFrame payload high low (framing (.check payload (some high)) s) = _
  have hhunt (f : Framer) : judgeFrame payload high low (framing f s) = judgeFrame payload high low (framing .hunt s) := rfl
  rw [hhunt, framing_self h]

/-- A frame with a wrong CRC is counted and reaches no block (R154, R155). -/
theorem judgeFrame_bad {payload : List Byte} {high low : Byte} (h : s.link.framer = .hunt)
    (hcrc : high ++ low ≠ crc16 (BitVec.ofNat 8 payload.length :: payload)) :
    judgeFrame payload high low s = errorCounted s := by
  refine (if_neg fun e => hcrc e.symm).trans ?_
  show errorCounted (framing .hunt s) = _
  rw [framing_self h]

/-- A frame whose CRC is good hands its request to the buffer (R154, R156). -/
theorem judgeFrame_good {payload : List Byte} {high low : Byte} {r : Request} (h : s.link.framer = .hunt)
    (hcrc : crc16 (BitVec.ofNat 8 payload.length :: payload) = high ++ low) (hr : readRequest payload = some r) :
    judgeFrame payload high low s = settle (arrive r s) := by
  refine (if_pos hcrc).trans ?_
  rw [hr]
  show settle (arrive r (framing .hunt s)) = _
  rw [framing_self h]

/-- A clean frame that carries a request does what handing over the request does. -/
theorem exec_frame {payload : List Byte} {r : Request} (h : s.link.framer = .hunt) (hlow : 2 ≤ payload.length)
    (hhigh : payload.length ≤ 60) (hr : readRequest payload = some r) :
    exec (.frameReceived (cleanChars (linkFrame payload))) s = request r.tag r.op s := by
  have hjudge := (takeChars_frame (high16 (crc16 (BitVec.ofNat 8 payload.length :: payload)))
    (low16 (crc16 (BitVec.ofNat 8 payload.length :: payload))) hlow hhigh h).trans
    (judgeFrame_good h (high16_low16 _).symm hr)
  show Host.Outcome.next (settle (takeChars (cleanChars (linkFrame payload)) s)) = .next (settle (arrive r s))
  rw [← settle_settle (arrive r s)]
  exact congrArg (fun u => Host.Outcome.next (settle u)) hjudge

/-- The characters of a frame in reception leave the framer in LENGTH, PAYLOAD or CHECK (R153). -/
theorem takeChars_inside {part : List Byte} (h : s.link.framer = .hunt) (hpart : InsideFrame part) :
    ∃ f, f ≠ .hunt ∧ takeChars (cleanChars part) s = framing f s := by
  rcases hpart with rfl | ⟨n, got, hlow, hhigh, hshort, rfl⟩
  · exact ⟨.length, nofun, takeByte_start h⟩
  · rw [takeChars_head hlow hhigh h]
    by_cases hpayload : got.length < n
    · exact ⟨.payload n got, nofun, takeChars_part got [] (by simpa using hpayload) s⟩
    · obtain ⟨payload, rest, rfl, hlen⟩ : ∃ payload rest, got = payload ++ rest ∧ payload.length = n :=
        ⟨_, _, (List.take_append_drop n got).symm, by simp; omega⟩
      have hne : payload ≠ [] := by
        rintro rfl
        simp at hlen
        omega
      have hsplit : cleanChars (payload ++ rest) = cleanChars payload ++ cleanChars rest := List.map_append
      rw [hsplit, takeChars_append, ← hlen, takeChars_payload hne]
      have hrest : rest.length ≤ 1 := by
        rw [List.length_append] at hshort
        omega
      match rest, hrest with
      | [], _ => exact ⟨.check payload none, nofun, rfl⟩
      | [b], _ => exact ⟨.check payload (some b), nofun, takeByte_framing_check b payload s⟩

/-! ### Characters after a frame that is cut -/

theorem endAtGap_framing {f : Framer} (hf : f ≠ .hunt) (h : s.link.framer = .hunt) :
    endAtGap (framing f s) = errorCounted s := (if_neg hf).trans (discardFrame_framing f h)

/-- A gap within a frame discards it before the next character is judged (R153). -/
theorem takeChar_gap {f : Framer} (hf : f ≠ .hunt) (h : s.link.framer = .hunt) (v : Byte) (ok : Bool) :
    takeChar (framing f s) ⟨v, ok, true⟩ = if ok then takeByte v (errorCounted s) else errorCounted s := by
  unfold takeChar
  simp only [if_true, endAtGap_framing hf h]
  cases ok with
  | true => rfl
  | false => exact if_pos h

/-- A bad stop bit within a frame discards it, with a gap before it or none (R154). -/
theorem takeChar_badStop {f : Framer} (hf : f ≠ .hunt) (h : s.link.framer = .hunt) (v : Byte) (gap : Bool) :
    takeChar (framing f s) ⟨v, false, gap⟩ = errorCounted s := by
  cases gap with
  | true => exact takeChar_gap hf h v false
  | false => exact (if_neg hf).trans (discardFrame_framing f h)

/-- In HUNT a bad stop bit, a gap and a byte that is no start byte are ignored (R153). -/
theorem takeChar_noise {ch : RxChar} (h : s.link.framer = .hunt) (hch : ch.stopOk = false ∨ ch.value ≠ 0xA5) :
    takeChar s ch = s := by
  have hgap : (if ch.gapBefore then endAtGap s else s) = s := by
    split
    · exact if_pos h
    · rfl
  unfold takeChar
  simp only [hgap]
  cases hok : ch.stopOk with
  | true => exact takeByte_noise h (hch.resolve_left (by simp [hok]))
  | false => exact if_pos h

theorem takeChars_noise {chars : List RxChar} (h : s.link.framer = .hunt)
    (hall : ∀ ch ∈ chars, ch.stopOk = false ∨ ch.value ≠ 0xA5) : takeChars chars s = s := by
  induction chars with
  | nil => rfl
  | cons ch chars ih =>
    show takeChars chars (takeChar s ch) = s
    rw [takeChar_noise h (hall ch (by simp)), ih fun x hx => hall x (by simp [hx])]

end

end Sys2Proof.Machine

open Sys2Proof Sys2Proof.Machine

/-- Settles O5: each discard leaves the framer in HUNT with one error more, and in HUNT nothing is counted. -/
theorem badFramesAreCounted : Obligations.BadFramesAreCounted := by
  unfold Obligations.BadFramesAreCounted
  refine ⟨⟨rfl, fun l b => crc16_append l b⟩, fun payload high low s h hlow hhigh hcrc => ?_, fun n s h hn => ?_,
    fun part s h hpart => ?_, fun chars s h hall => ?_⟩
  · show Host.Outcome.next (settle (takeChars _ s)) = _
    rw [takeChars_frame high low hlow hhigh h, judgeFrame_bad h hcrc]
  · show Host.Outcome.next (settle (takeChars _ s)) = _
    rw [takeChars_clean_cons, takeByte_start h, takeChars_clean_cons, takeByte_framing_length, if_neg (by omega),
      discardFrame_framing _ h]
    rfl
  · obtain ⟨f, hf, hin⟩ := takeChars_inside h hpart
    have hnext (ch : RxChar) :
        exec (.frameReceived (cleanChars part ++ [ch])) s = .next (settle (takeChar (framing f s) ch)) := by
      show Host.Outcome.next (settle (takeChars _ s)) = _
      rw [takeChars_append, hin]
      rfl
    refine ⟨?_, fun v gap => ⟨?_, fun hv => ?_, ?_⟩⟩
    · show Host.Outcome.next (settle (endAtGap (takeChars _ s))) = _
      rw [hin, endAtGap_framing hf h]
    · rw [hnext, takeChar_badStop hf h]
    · rw [hnext, takeChar_gap hf h, if_pos rfl, takeByte_noise (s := errorCounted s) h hv]
    · rw [hnext, takeChar_gap hf h, if_pos rfl, takeByte_start (s := errorCounted s) h]
      rfl
  · have hsame := takeChars_noise h hall
    refine ⟨?_, ?_⟩
    · show Host.Outcome.next (settle (takeChars _ s)) = _
      rw [hsame]
    · show Host.Outcome.next (settle (endAtGap (takeChars _ s))) = _
      rw [hsame]
      exact congrArg (fun u => Host.Outcome.next (settle u)) (if_pos h)

end

section
/-! PROOFS. The link's own checks (Table 9-1): the frame of a request is its command, and a record that no request takes is
answered by the link. -/

namespace Sys2Proof.Machine

open Sys2Proof

/-! ### A request fits a frame (R160) -/

theorem fieldBytes_length_le (ws : List Nat) (fields : List (Option Nat)) : (fieldBytes ws fields).length ≤ ws.sum := by
  induction ws generalizing fields with
  | nil => cases fields <;> simp [fieldBytes]
  | cons w ws ih =>
    cases fields with
    | nil => simp [fieldBytes]
    | cons f fs =>
      have hrest := ih fs
      cases f with
      | none => rw [fieldBytes, List.sum_cons]; omega
      | some v => rw [fieldBytes, List.length_append, bytesOfNat_length, List.sum_cons]; omega

theorem writeSettingsBody_length_le (ws : List Nat) (fields : List (Option Nat)) :
    (writeSettingsBody ws fields).length ≤ 3 + ws.sum := by
  rw [writeSettingsBody, List.length_append, bytesOfNat_length]
  exact Nat.add_le_add_left (fieldBytes_length_le ws fields) 3

/-- The body of a well-formed request leaves room for its type and tag in the 60 bytes of a payload. -/
theorem body_length_le {op : RequestOp} (h : op.wellFormed = true) : op.body.length ≤ 58 := by
  cases op with
  | setDevice fields => exact (writeSettingsBody_length_le deviceWidths fields).trans (by decide)
  | setRing phaseCode fields => exact Nat.succ_le_succ ((writeSettingsBody_length_le ringWidths fields).trans (by decide))
  | setPlan fields => exact (writeSettingsBody_length_le planWidths fields).trans (by decide)
  | setTiming fields => exact (writeSettingsBody_length_le timingWidths fields).trans (by decide)
  | setReporting fields => exact (writeSettingsBody_length_le reportingWidths fields).trans (by decide)
  | tunnel cell bytes =>
    obtain ⟨_, hhigh⟩ : 1 ≤ bytes.length ∧ bytes.length ≤ 16 := by simpa [RequestOp.wellFormed] using h
    show bytes.length + 1 + 1 ≤ 58
    omega
  | _ => exact Nat.le_of_ble_eq_true rfl

/-- The request of a well-formed command is well-formed and not MALFORMED. -/
theorem request_wellFormed {c : Instr} {r : Request} (hc : requestOf c = some r) (hw : c.wellFormed = true) :
    r.op.wellFormed = true ∧ ∀ t : Byte, r.op ≠ .malformed t := by
  cases c with
  | tunnel tag cell bytes => exact Laws.Carriage.tunnel tag cell bytes hw r hc
  | _ => cases hc <;> exact ⟨hw, nofun⟩

/-! ### Bodies that no request takes (R160, R178) -/

theorem readSettings_malformed {t : Byte} {ws : List Nat} {op : List (Option Nat) → RequestOp} {body : List Byte}
    (h : SettingsBodyNotAdmitted ws body) : readSettings t ws op body = .malformed t := by
  have hnone : readSettingsBody ws body = none := by
    unfold readSettingsBody
    split
    · rfl
    · next hlen =>
      cases hread : readFields ws (natOfBytes (body.take 3)) (body.drop 3) with
      | none => rfl
      | some fields =>
        exfalso
        obtain ⟨hbits, hsum⟩ := readFields_some hread
        have hfield : byteField body 0 3 = natOfBytes (body.take 3) := rfl
        rw [List.length_drop] at hsum
        rcases h with h | ⟨j, hj, hset⟩ | h
        · exact hlen h
        · rw [hfield, hbits j hj] at hset
          cases hset
        · rw [hfield, ← hsum] at h
          omega
  unfold readSettings
  rw [hnone]

theorem readTunnel_malformed {body : List Byte} (h : body.length < 2 ∨ byteField body 1 1 < 1 ∨ 16 < byteField body 1 1
    ∨ body.length ≠ 2 + byteField body 1 1) : readTunnel body = .malformed 0x13 := by
  match body with
  | [] => rfl
  | [_] => rfl
  | cell :: n :: bytes =>
    have hcount : byteField (cell :: n :: bytes) 1 1 = n.toNat := natOfBytes_one n
    rw [hcount] at h
    refine if_neg ?_
    rintro ⟨hlow, hhigh, hlen⟩
    simp only [List.length_cons] at h
    omega

theorem readByte_malformed {t : Byte} {op : Byte → RequestOp} {body : List Byte} (h : body.length ≠ 1) :
    readByte t op body = .malformed t := by
  match body with
  | [] => rfl
  | [_] => exact absurd rfl h
  | _ :: _ :: _ => rfl

theorem readHoist_malformed {body : List Byte} (h : body.length ≠ 3) : readHoist body = .malformed 0x14 := by
  match body with
  | [] => rfl
  | [_] => rfl
  | [_, _] => rfl
  | [_, _, _] => exact absurd rfl h
  | _ :: _ :: _ :: _ :: _ => rfl

/-- A record whose body its type does not take is MALFORMED (check 2 of Table 9-1). -/
theorem readOp_malformed {t : Byte} {body : List Byte} (h : BodyNotAdmitted t body) : readOp t body = .malformed t := by
  rcases h with ⟨ht, hbody⟩ | ⟨ht, hbody⟩ | ⟨rfl, hbody⟩ | ⟨rfl, hbody⟩ | ⟨rfl, hbody⟩ | ⟨rfl, hbody⟩ | ⟨rfl, hbody⟩
    | ⟨rfl, hbody⟩ | ⟨rfl, hbody⟩
  · simp only [List.mem_cons, List.not_mem_nil, or_false] at ht
    rcases ht with rfl | rfl | rfl | rfl | rfl | rfl | rfl | rfl | rfl | rfl | rfl <;> exact if_neg hbody
  · simp only [List.mem_cons, List.not_mem_nil, or_false] at ht
    rcases ht with rfl | rfl | rfl | rfl | rfl | rfl | rfl | rfl <;> exact readByte_malformed hbody
  · exact readHoist_malformed hbody
  · exact readTunnel_malformed hbody
  · exact readSettings_malformed hbody
  · rcases hbody with rfl | hbody
    · rfl
    · match body with
      | [] => rfl
      | phaseCode :: rest => exact readSettings_malformed hbody
  · exact readSettings_malformed hbody
  · exact readSettings_malformed hbody
  · exact readSettings_malformed hbody

/-! ### What the link replies itself -/

/-- A request that the link answers at its dispatch has no other effect. -/
theorem request_answered {t tag : Byte} {op : RequestOp} {code : ReplyCode} {body : List Byte} {s : State} (hs : Ready s)
    (h : dispatch ⟨tag, op⟩ s = pushReply t tag code body s) : request tag op s = .next (replyOnly t tag code body s) := by
  rw [request_ready hs (by rw [h]; exact hs.1), h]
  rfl

theorem exec_frame_answered {t tag : Byte} {body answer : List Byte} {code : ReplyCode} {op : RequestOp} {s : State}
    (hs : Ready s) (hf : s.link.framer = .hunt) (hlen : body.length ≤ 58) (hop : readOp t body = op)
    (h : dispatch ⟨tag, op⟩ s = pushReply t tag code answer s) :
    exec (.frameReceived (cleanChars (linkFrame (t :: tag :: body)))) s = .next (replyOnly t tag code answer s) := by
  have hread : readRequest (t :: tag :: body) = some ⟨tag, op⟩ := by rw [← hop]; rfl
  rw [exec_frame hf (by simp) (by simp; omega) hread]
  exact request_answered hs h

end Sys2Proof.Machine

open Sys2Proof Sys2Proof.Machine

/-- Settles O3: the frame's payload reads back as the request, and the link's part at the end of the step is done once. -/
theorem receivedFrameActsAsItsRequest : Obligations.ReceivedFrameActsAsItsRequest := by
  unfold Obligations.ReceivedFrameActsAsItsRequest
  intro c r s hc hw hf
  obtain ⟨hop, hm⟩ := request_wellFormed hc hw
  have hlen : (writeRequest r).length = r.op.body.length + 2 := rfl
  have hbody := body_length_le hop
  have hframe := exec_frame hf (by omega) (by omega) (requestRecordsReadBack r hop hm)
  exact ⟨hframe, hframe.trans (exec_request s hc).symm⟩

/-- Settles O7: the link's checks come before the block that owns the request, and each of them only replies. -/
theorem linkChecksDecideTheReply : Obligations.LinkChecksDecideTheReply := by
  unfold Obligations.LinkChecksDecideTheReply
  refine ⟨fun tag t s hs => exec_replied rfl hs rfl rfl, fun tag cell bytes s hs hlen => ?_,
    fun t tag body s hs hf hlen => ⟨fun hbad => ?_, fun hno => ?_⟩, fun c r s hc hs ht => ?_,
    fun fields code bytes speed => ?_⟩
  · have hc : requestOf (.tunnel tag cell bytes) = some ⟨tag, .malformed 0x13⟩ := by
      rw [requestOf, if_neg (by omega)]
    exact exec_served hc hs rfl rfl hs.1
  · exact exec_frame_answered hs hf hlen (readOp_malformed hbad) rfl
  · exact exec_frame_answered hs hf hlen (readOp_unknown body hno) rfl
  · exact exec_wrongMode hc hs ht
  · simp [takenIn]

end

section
/-! PROOFS. The readouts: the layouts of their bodies (Tables 12-4 to 12-6), field by field. -/

namespace Sys2Proof.Machine

open Sys2Proof

/-! ### A body as fields, one after another -/

/-- From byte `start` of a body on, these bytes carry the fields (offset, width, value), each where its value fits. -/
def Carries (start : Nat) (bytes : List Byte) (fields : List (Nat × Nat × Nat)) : Prop :=
  ∀ f ∈ fields, start ≤ f.1 ∧ (f.2.2 < 256 ^ f.2.1 → byteField bytes (f.1 - start) f.2.1 = f.2.2)

theorem byteField_skip {part rest : List Byte} {w offset : Nat} (width : Nat) (hw : part.length = w) (h : w ≤ offset) :
    byteField (part ++ rest) offset width = byteField rest (offset - w) width := by
  subst hw
  rw [byteField, byteField, List.drop_append, List.drop_eq_nil_of_le h, List.nil_append]

theorem byteField_first {part rest : List Byte} {w : Nat} (hw : part.length = w) :
    byteField (part ++ rest) 0 w = natOfBytes part := by
  rw [byteField, List.drop_zero, List.take_left' hw]

theorem byteField_zero_one (b : Byte) (rest : List Byte) : byteField (b :: rest) 0 1 = b.toNat := natOfBytes_one b

section

variable {start w v : Nat} {b : Byte} {part rest : List Byte} {fields : List (Nat × Nat × Nat)}

theorem carries_nil : Carries start rest [] := fun _ hf => absurd hf List.not_mem_nil

/-- Bytes that are no field of the list. -/
theorem carries_skip (hw : part.length = w) (h : Carries (start + w) rest fields) : Carries start (part ++ rest) fields := by
  intro f hf
  obtain ⟨hstart, hvalue⟩ := h f hf
  refine ⟨by omega, fun hfits => ?_⟩
  rw [byteField_skip _ hw (by omega), ← hvalue hfits]
  congr 1
  omega

theorem carries_part (hw : part.length = w) (hv : v < 256 ^ w → natOfBytes part = v)
    (h : Carries (start + w) rest fields) : Carries start (part ++ rest) ((start, w, v) :: fields) := by
  intro f hf
  rcases List.mem_cons.1 hf with rfl | hf
  · refine ⟨Nat.le_refl _, fun hfits => ?_⟩
    show byteField (part ++ rest) (start - start) w = v
    rw [Nat.sub_self, byteField_first hw, hv hfits]
  · exact carries_skip hw h f hf

theorem carries_byte (hv : b.toNat = v) (h : Carries (start + 1) rest fields) :
    Carries start (b :: rest) ((start, 1, v) :: fields) :=
  carries_part (part := [b]) rfl (fun _ => (natOfBytes_one b).trans hv) h

/-- A number is sent in its field where it fits (log entry 3). -/
theorem carries_sendNat (h : Carries (start + w) rest fields) : Carries start (sendNat w v ++ rest) ((start, w, v) :: fields) :=
  carries_part (sendNat_length w v) natOfBytes_sendNat h

theorem carries_bytes16 {v : BitVec 16} (h : Carries (start + 2) rest fields) :
    Carries start (bytes16 v ++ rest) ((start, 2, v.toNat) :: fields) :=
  carries_part rfl (fun _ => natOfBytes_bytes16 v) h

theorem carries_bytes32 {v : BitVec 32} (h : Carries (start + 4) rest fields) :
    Carries start (bytes32 v ++ rest) ((start, 4, v.toNat) :: fields) :=
  carries_part rfl (fun _ => natOfBytes_bytes32 v) h

/-- Fields of a body read from its first byte. -/
theorem Carries.read {bytes : List Byte} (h : Carries 0 bytes fields) :
    ∀ f ∈ fields, f.2.2 < 256 ^ f.2.1 → byteField bytes f.1 f.2.1 = f.2.2 := fun f hf => (h f hf).2

end

/-! ### Values of bytes -/

theorem sendBool_toNat (b : Bool) : (sendBool b).toNat = b.toNat := by cases b <;> rfl

theorem sendOption_toNat {α : Type} (f : α → Byte) (o : Option α) :
    (sendOption f o).toNat = (o.map fun x => (f x).toNat).getD 0 := by cases o <;> rfl

theorem getD_zero_toNat {n : Nat} (o : Option (BitVec n)) : (o.getD 0).toNat = (o.map BitVec.toNat).getD 0 := by
  cases o <;> simp

theorem map_getD_toNat {α : Type} {n : Nat} (f : α → BitVec n) (o : Option α) :
    ((o.map f).getD 0).toNat = (o.map fun x => (f x).toNat).getD 0 := by cases o <;> simp

/-! ### READ_STATUS (R172) -/

/-- The open campaign's bytes, with every absent item 0. -/
theorem campaignSummary_eq (s : State) : campaignSummary s
    = sendNat 2 ((s.seq.campaign.map Campaign.number).getD 0)
      ++ ((s.seq.campaign.map fun k => k.kind.code).getD 0 :: sendOption Style.code (s.seq.campaign.bind Campaign.style)
        :: (sendNat 1 ((s.seq.campaign.map Campaign.iteration).getD 0)
          ++ ((s.seq.campaign.map fun _ => s.seq.state.code).getD 0
            :: sendNat 1 ((s.seq.campaign.map fun k => k.set.length).getD 0)))) := by
  unfold campaignSummary
  cases s.seq.campaign with
  | none => rfl
  | some k => simp

theorem planSummary_eq (o : Option Plan) : planSummary o
    = (o.map Plan.tag).getD 0 :: (sendNat 1 ((o.map Plan.m).getD 0) ++ (sendNat 2 ((o.map Plan.voltage).getD 0)
      ++ sendNat 2 ((o.map Plan.speed).getD 0))) := by
  cases o with
  | none => rfl
  | some p => simp [planSummary]

theorem statusBytes_length (s : State) : (statusBytes s).length = 30 := by
  simp [statusBytes, campaignSummary_eq, planSummary_eq, sendNat_length]

/-- The bytes of READ_STATUS in the words of Table 12-4. -/
theorem statusBytes_carries (s : State) : Carries 0 (statusBytes s)
    [(0, 1, s.store.mode.code.toNat),
      (1, 1, (s.store.selfTest.map fun m => (Phase.code m.ring).toNat).getD 0),
      (2, 1, s.seq.state.code.toNat), (3, 1, (s.seq.tripCause.map fun c => c.code.toNat).getD 0),
      (4, 1, s.seq.heldHalt.toNat), (5, 2, (s.seq.campaign.map Campaign.number).getD 0),
      (7, 1, (s.seq.campaign.map fun k => k.kind.code.toNat).getD 0),
      (8, 1, ((s.seq.campaign.bind Campaign.style).map fun x => x.code.toNat).getD 0),
      (9, 1, (s.seq.campaign.map Campaign.iteration).getD 0),
      (10, 1, (s.seq.campaign.map fun _ => s.seq.state.code.toNat).getD 0),
      (11, 1, (s.seq.campaign.map fun k => k.set.length).getD 0),
      (12, 1, (s.plans.inForce.map fun p => p.tag.toNat).getD 0), (13, 1, (s.plans.inForce.map Plan.m).getD 0),
      (14, 2, (s.plans.inForce.map Plan.voltage).getD 0), (16, 2, (s.plans.inForce.map Plan.speed).getD 0),
      (18, 2, s.seq.scale),
      (20, 1, s.lock.holdReq.toNat + 2 * s.lock.trip.toNat + 4 * s.lock.driveRun.level.toNat
        + 8 * s.lock.brakeSet.level.toNat),
      (21, 1, s.seq.attempts.length), (22, 1, s.store.results.a.code.toNat), (23, 1, s.store.results.b.code.toNat),
      (24, 1, s.store.results.c.code.toNat), (25, 2, s.link.frameErrors), (27, 1, s.notices.urgent.length),
      (28, 1, s.notices.cells.length), (29, 1, s.notices.overrun.toNat)] := by
  unfold statusBytes
  rw [campaignSummary_eq, planSummary_eq]
  simp only [List.append_assoc, List.cons_append, List.nil_append]
  exact carries_byte rfl <| carries_byte (sendOption_toNat _ _) <| carries_byte rfl <| carries_byte (sendOption_toNat _ _) <|
    carries_byte (sendBool_toNat _) <| carries_sendNat <| carries_byte (map_getD_toNat _ _) <|
    carries_byte (sendOption_toNat _ _) <| carries_sendNat <| carries_byte (map_getD_toNat _ _) <| carries_sendNat <|
    carries_byte (map_getD_toNat _ _) <| carries_sendNat <| carries_sendNat <| carries_sendNat <| carries_sendNat <|
    carries_byte (linesByte_toNat _ _ _ _) <| carries_sendNat <| carries_byte rfl <| carries_byte rfl <| carries_byte rfl <|
    carries_sendNat <| carries_sendNat <| carries_sendNat <| carries_byte (sendBool_toNat _) carries_nil

end Sys2Proof.Machine
end

section
/-! PROOFS. The records that the readouts carry (Tables 12-5 and 12-6) and the parts of Table 10-3. -/

namespace Sys2Proof.Machine

open Sys2Proof

/-! ### Lists of items padded with zeros -/

/-- Item `j` of a list of `n`-byte items that zeros fill up to `m` items. -/
theorem byteField_item {α : Type} {g : α → List Byte} {n m : Nat} {l : List α} (hg : ∀ x, (g x).length = n)
    (hl : l.length ≤ m) (rest : List Byte) {j : Nat} (hj : j < m) :
    byteField (l.flatMap g ++ List.replicate (n * (m - l.length)) 0 ++ rest) (n * j) n
      = ((l[j]?).map fun x => natOfBytes (g x)).getD 0 := by
  have hlen := flatMap_length_const l fun x _ => hg x
  cases hx : l[j]? with
  | some x =>
    rw [List.append_assoc, byteField, flatMap_take l (fun x _ => hg x) _ j x hx]
    rfl
  | none =>
    have hlj : l.length ≤ j := List.getElem?_eq_none_iff.1 hx
    obtain ⟨a, rfl⟩ := Nat.exists_eq_add_of_le hlj
    obtain ⟨c, rfl⟩ := Nat.exists_eq_add_of_lt hj
    have hpad : List.replicate (n * (l.length + a + c + 1 - l.length)) (0 : Byte)
        = List.replicate (n * a) 0 ++ (List.replicate n 0 ++ List.replicate (n * c) 0) := by
      rw [← List.replicate_add, ← List.replicate_add]
      congr 1
      rw [show l.length + a + c + 1 - l.length = a + (1 + c) by omega, Nat.mul_add, Nat.mul_add, Nat.mul_one]
    rw [List.append_assoc, byteField_skip n hlen (by rw [Nat.mul_add]; omega), hpad, List.append_assoc,
      byteField_skip n List.length_replicate (by rw [Nat.mul_add]; omega),
      show n * (l.length + a) - n * l.length - n * a = 0 by rw [Nat.mul_add]; omega, List.append_assoc,
      byteField_first List.length_replicate, natOfBytes_zeros]
    rfl

/-! ### The campaign record (Table 12-5) -/

/-- The 24 bytes of a set. -/
def setBytes (set : List Nat) : List Byte := set.flatMap (sendNat 1) ++ List.replicate (24 - set.length) 0

theorem setBytes_length {set : List Nat} (h : set.length ≤ 24) : (setBytes set).length = 24 := by
  have hlen := flatMap_length_const (g := sendNat 1) set fun x _ => sendNat_length 1 x
  rw [setBytes, List.length_append, hlen, List.length_replicate]
  omega

theorem campaignBytes_some (r : CampaignRecord) : campaignBytes (some r)
    = sendNat 2 r.number ++ (r.kind.code :: sendOption Style.code r.style :: (sendNat 1 r.iteration
      ++ (sendNat 1 r.set.length ++ (setBytes r.set ++ (bytes32 r.opened ++ (r.state.code :: sendBool r.pendingTag.isSome
        :: r.pendingTag.getD 0 :: (sendNat 1 (r.issue.getD 0) ++ [sendOption CampaignOutcome.code r.outcome,
          sendOption TripCause.code (r.outcome.bind CampaignOutcome.cause)]))))))) := by
  simp [campaignBytes, setBytes]

theorem campaignBytes_length {r : CampaignRecord} (h : r.set.length ≤ 24) : (campaignBytes (some r)).length = 40 := by
  simp [campaignBytes_some, sendNat_length, setBytes_length h, bytes32]

/-- The bytes of a campaign record, its set apart, in the words of Table 12-5. -/
theorem campaignBytes_carries {r : CampaignRecord} (h : r.set.length ≤ 24) : Carries 0 (campaignBytes (some r))
    [(0, 2, r.number), (2, 1, r.kind.code.toNat), (3, 1, (r.style.map fun x => x.code.toNat).getD 0),
      (4, 1, r.iteration), (5, 1, r.set.length), (30, 4, r.opened.toNat), (34, 1, r.state.code.toNat),
      (35, 1, r.pendingTag.isSome.toNat), (36, 1, (r.pendingTag.map BitVec.toNat).getD 0),
      (37, 1, r.issue.getD 0), (38, 1, (r.outcome.map fun o => o.code.toNat).getD 0),
      (39, 1, ((r.outcome.bind CampaignOutcome.cause).map fun c => c.code.toNat).getD 0)] := by
  rw [campaignBytes_some]
  exact carries_sendNat <| carries_byte rfl <| carries_byte (sendOption_toNat _ _) <| carries_sendNat <| carries_sendNat <|
    carries_skip (setBytes_length h) <| carries_bytes32 <| carries_byte rfl <| carries_byte (sendBool_toNat _) <|
    carries_byte (getD_zero_toNat _) <| carries_sendNat <| carries_byte (sendOption_toNat _ _) <|
    carries_byte (sendOption_toNat _ _) carries_nil

/-- The cell numbers of a set stand in bytes 6 to 29. -/
theorem campaignBytes_set {r : CampaignRecord} (h : r.set.length ≤ 24) {j : Nat} (hj : j < 24) (hfits : r.set.getD j 0 < 256) :
    byteField (campaignBytes (some r)) (6 + j) 1 = r.set.getD j 0 := by
  have hitem (rest : List Byte) : byteField (setBytes r.set ++ rest) j 1 = r.set.getD j 0 := by
    have hall := byteField_item (g := sendNat 1) (sendNat_length 1) h rest hj
    rw [Nat.one_mul, Nat.one_mul] at hall
    rw [setBytes, hall]
    rw [List.getD_eq_getElem?_getD] at hfits ⊢
    cases hx : r.set[j]? with
    | none => rfl
    | some x =>
      rw [hx] at hfits
      exact natOfBytes_sendNat hfits
  have hhead : ∀ rest : List Byte, byteField (sendNat 2 r.number ++ (r.kind.code :: sendOption Style.code r.style
      :: (sendNat 1 r.iteration ++ (sendNat 1 r.set.length ++ rest)))) (6 + j) 1 = byteField rest j 1 := by
    intro rest
    rw [byteField_skip 1 (sendNat_length 2 _) (by omega), ← List.cons_append, ← List.cons_append,
      byteField_skip (w := 3) 1 (by simp [sendNat_length]) (by omega), byteField_skip 1 (sendNat_length 1 _) (by omega)]
    congr 1
    omega
  rw [campaignBytes_some, hhead, hitem]

/-! ### The cell record (Table 12-6) -/

theorem nibbles_toNat (a b : BitVec 4) : (a ++ b : Byte).toNat = 16 * a.toNat + b.toNat := by
  rw [toNat_append_eq_add]
  omega

/-- The class byte of an ability. -/
theorem abilityBytes_eq (a : Ability) : abilityBytes a = bytes32 a.serial ++ bytes16 a.ratedDc
    ++ [BitVec.ofNat 8 (16 * a.cellClass.toNat + 2 * (decide (a.bypassKind = .thyristor)).toNat + a.halfRateCapable.toNat),
        BitVec.ofNat 8 (16 * a.firmwareMajor.toNat + a.firmwareMinor.toNat)] := by
  have hclass : ∀ (k : BitVec 4) (t h : Bool), (k ++ (0#2 ++ (BitVec.ofBool t ++ BitVec.ofBool h)) : Byte)
      = BitVec.ofNat 8 (16 * k.toNat + 2 * t.toNat + h.toNat) := by decide
  rw [abilityBytes, hclass, ← nibbles_toNat, BitVec.ofNat_toNat, BitVec.setWidth_eq]

theorem markerByte_toNat (x : Cell) : (markerByte x).toNat
    = 128 * x.ability.isSome.toNat + 64 * x.report.isSome.toNat + 32 * x.fault.isSome.toNat + 16 * x.offset.isSome.toNat
      + 8 * x.severStamp.isSome.toNat + 4 * x.rejectCause.isSome.toNat + 2 * x.degradedArmed.toNat + x.suspect.toNat := by
  have h : ∀ a b c d e f g k : Bool, (BitVec.ofBool a ++ (BitVec.ofBool b ++ (BitVec.ofBool c ++ (BitVec.ofBool d
      ++ (BitVec.ofBool e ++ (BitVec.ofBool f ++ (BitVec.ofBool g ++ BitVec.ofBool k)))))) : Byte).toNat
      = 128 * a.toNat + 64 * b.toNat + 32 * c.toNat + 16 * d.toNat + 8 * e.toNat + 4 * f.toNat + 2 * g.toNat + k.toNat := by
    decide
  exact h _ _ _ _ _ _ _ _

/-- The phase code and the position share a byte. -/
def placeByte (c : CellRef) : Byte := BitVec.ofNat 4 (Phase.code (phaseOf c)).toNat ++ BitVec.ofNat 4 (positionOf c)

theorem placeByte_toNat (c : CellRef) : (placeByte c).toNat = 16 * ((phaseOf c).index + 1) + positionOf c := by
  revert c
  decide

/-- The two bytes of a fault's further causes and markers. -/
def faultWord (f : FaultRecord) : BitVec 16 :=
  BitVec.ofBool (f.kind = .hard) ++ (BitVec.ofBool f.blind ++ (BitVec.ofBool f.reenrolled ++ ((0 : BitVec 2) ++ f.further)))

theorem faultWord_toNat (f : FaultRecord) : (faultWord f).toNat = f.further.toNat + 8192 * f.reenrolled.toNat
    + 16384 * f.blind.toNat + 32768 * (decide (f.kind = .hard)).toNat := by
  have h (b : Bool) : (BitVec.ofBool b).toNat = b.toNat := by cases b <;> rfl
  unfold faultWord
  rw [toNat_append_eq_add, toNat_append_eq_add, toNat_append_eq_add, toNat_append_eq_add, h, h, h]
  simp
  omega

theorem faultCode_toNat (k : FaultClass) : (BitVec.ofNat 8 k.code).toNat = k.code := by cases k <;> rfl

/-- Bytes 27 to 36, with an absent report in zeros. -/
theorem reportBytes_eq (o : Option Report) : (o.map reportBytes).getD (List.replicate 10 0)
    = (o.map fun r => (r.gate ++ r.bypass : Byte)).getD 0 :: (o.map Report.classCode).getD 0 :: (o.map Report.detail).getD 0
      :: (sendNat 2 ((o.map Report.dc).getD 0) ++ ((o.map Report.tag).getD 0 :: bytes32 ((o.map Report.stamp).getD 0))) := by
  cases o with
  | none => rfl
  | some r => simp [reportBytes]

/-- Bytes 37 to 44, with an absent fault record in zeros. -/
theorem faultBytes_eq (o : Option FaultRecord) : (o.map faultBytes).getD (List.replicate 8 0)
    = (o.map fun f => BitVec.ofNat 8 f.first.code).getD 0 :: (o.map FaultRecord.detail).getD 0
      :: (bytes32 ((o.map FaultRecord.stamp).getD 0) ++ bytes16 ((o.map faultWord).getD 0)) := by
  cases o with
  | none => rfl
  | some f => simp [faultBytes, faultWord]

theorem abilityPart_length (o : Option Ability) : ((o.map abilityBytes).getD (List.replicate 8 0)).length = 8 := by
  cases o <;> rfl

theorem abilityPart_natOfBytes (o : Option Ability) : natOfBytes ((o.map abilityBytes).getD (List.replicate 8 0))
    = (o.map fun a => natOfBytes (abilityBytes a)).getD 0 := by
  cases o with
  | none => rw [Option.map_none, Option.getD_none, natOfBytes_zeros, Option.map_none, Option.getD_none]
  | some a => rw [Option.map_some, Option.getD_some, Option.map_some, Option.getD_some]

theorem linkBytes_length (x : Cell) : (linkBytes x).length = 9 := by
  unfold linkBytes
  split
  · rfl
  · exact congrArg (· + 1) (abilityPart_length x.heldAbility)
  · rfl

/-- The 45 bytes of a cell's record before those on its link. -/
def recordHead (s : State) (c : CellRef) (x : Cell) : List Byte :=
  sendNat 1 (numberOf s.store.image c) ++ (placeByte c :: x.service.code :: x.link.code :: markerByte x
    :: (bytes16 (x.flags.setWidth 16) ++ (sendNat 1 x.strikes ++ (sendNat 4 x.activeTime ++ (sendNat 3 (x.offset.getD 0)
    ++ (sendNat 1 x.reportAge ++ (sendNat 1 x.missCount ++ (sendNat 1 x.goodRun ++ (sendNat 1 x.unsteadyCount
    ++ ((x.ability.map abilityBytes).getD (List.replicate 8 0) ++ ((x.report.map reportBytes).getD (List.replicate 10 0)
    ++ (x.fault.map faultBytes).getD (List.replicate 8 0))))))))))))

theorem cellRecordBytes_eq (s : State) (c : CellRef) :
    cellRecordBytes s c = recordHead s c (s.cell c) ++ linkBytes (s.cell c) := by
  simp [cellRecordBytes, cellNumberBytes, recordHead, placeByte]

theorem recordHead_length (s : State) (c : CellRef) (x : Cell) : (recordHead s c x).length = 45 := by
  have hreport : ((x.report.map reportBytes).getD (List.replicate 10 0)).length = 10 := by
    rw [reportBytes_eq]
    simp [sendNat_length, bytes32]
  have hfault : ((x.fault.map faultBytes).getD (List.replicate 8 0)).length = 8 := by
    rw [faultBytes_eq]
    rfl
  simp only [recordHead, List.length_append, List.length_cons, sendNat_length, abilityPart_length, hreport, hfault]
  rfl

/-- The bytes of a cell's record, those on its link apart, in the words of Table 12-6. -/
theorem recordHead_carries (s : State) (c : CellRef) (x : Cell) (rest : List Byte) : Carries 0 (recordHead s c x ++ rest)
    [(0, 1, numberOf s.store.image c), (1, 1, 16 * ((phaseOf c).index + 1) + positionOf c),
      (2, 1, x.service.code.toNat), (3, 1, x.link.code.toNat),
      (4, 1, 128 * x.ability.isSome.toNat + 64 * x.report.isSome.toNat + 32 * x.fault.isSome.toNat
        + 16 * x.offset.isSome.toNat + 8 * x.severStamp.isSome.toNat + 4 * x.rejectCause.isSome.toNat
        + 2 * x.degradedArmed.toNat + x.suspect.toNat),
      (5, 2, x.flags.toNat), (7, 1, x.strikes), (8, 4, x.activeTime), (12, 3, x.offset.getD 0),
      (15, 1, x.reportAge), (16, 1, x.missCount), (17, 1, x.goodRun), (18, 1, x.unsteadyCount),
      (19, 8, (x.ability.map fun a => natOfBytes (abilityBytes a)).getD 0),
      (27, 1, (x.report.map fun r => 16 * r.gate.toNat + r.bypass.toNat).getD 0),
      (28, 1, (x.report.map fun r => r.classCode.toNat).getD 0),
      (29, 1, (x.report.map fun r => r.detail.toNat).getD 0), (30, 2, (x.report.map Report.dc).getD 0),
      (32, 1, (x.report.map fun r => r.tag.toNat).getD 0), (33, 4, (x.report.map fun r => r.stamp.toNat).getD 0),
      (37, 1, (x.fault.map fun f => f.first.code).getD 0), (38, 1, (x.fault.map fun f => f.detail.toNat).getD 0),
      (39, 4, (x.fault.map fun f => f.stamp.toNat).getD 0),
      (43, 2, (x.fault.map fun f => f.further.toNat + 8192 * f.reenrolled.toNat + 16384 * f.blind.toNat
        + 32768 * (decide (f.kind = .hard)).toNat).getD 0)] := by
  have hflags : (x.flags.setWidth 16).toNat = x.flags.toNat := by
    have := x.flags.isLt
    rw [BitVec.toNat_setWidth]
    omega
  have hstates : (((x.report.map fun r => (r.gate ++ r.bypass : Byte)).getD 0)).toNat
      = (x.report.map fun r => 16 * r.gate.toNat + r.bypass.toNat).getD 0 := by
    simp only [map_getD_toNat, nibbles_toNat]
  have hclass : ((x.fault.map fun f => BitVec.ofNat 8 f.first.code).getD 0).toNat
      = (x.fault.map fun f => f.first.code).getD 0 := by
    simp only [map_getD_toNat, faultCode_toNat]
  have hword : ((x.fault.map faultWord).getD 0).toNat = (x.fault.map fun f => f.further.toNat + 8192 * f.reenrolled.toNat
      + 16384 * f.blind.toNat + 32768 * (decide (f.kind = .hard)).toNat).getD 0 := by
    simp only [map_getD_toNat, faultWord_toNat]
  unfold recordHead
  rw [reportBytes_eq, faultBytes_eq, ← hflags, ← hstates, ← hclass, ← hword, ← map_getD_toNat Report.stamp,
    ← map_getD_toNat FaultRecord.stamp]
  simp only [List.append_assoc, List.cons_append]
  exact carries_sendNat <| carries_byte (placeByte_toNat c) <| carries_byte rfl <| carries_byte rfl <|
    carries_byte (markerByte_toNat x) <| carries_bytes16 <| carries_sendNat <| carries_sendNat <| carries_sendNat <|
    carries_sendNat <| carries_sendNat <| carries_sendNat <| carries_sendNat <|
    carries_part (abilityPart_length _) (fun _ => abilityPart_natOfBytes _) <| carries_byte rfl <|
    carries_byte (map_getD_toNat _ _) <| carries_byte (map_getD_toNat _ _) <| carries_sendNat <|
    carries_byte (map_getD_toNat _ _) <| carries_bytes32 <| carries_byte rfl <| carries_byte (map_getD_toNat _ _) <|
    carries_bytes32 <| carries_bytes16 carries_nil

end Sys2Proof.Machine
end

section
/-! PROOFS. The readouts as requests, and the parts of READ_CAMPAIGN and READ_SETTINGS (Table 10-3). -/

namespace Sys2Proof.Machine

open Sys2Proof

/-! ### The bytes on a cell's link -/

theorem linkBytes_severed {x : Cell} {v : Stamp} (h : x.severStamp = some v) :
    linkBytes x = bytes32 v ++ List.replicate 5 0 := by
  simp only [linkBytes, h]

theorem linkBytes_rejected {x : Cell} {cause : RejectCause} (hs : x.severStamp = none) (hr : x.rejectCause = some cause) :
    linkBytes x = cause.code :: (x.heldAbility.map abilityBytes).getD (List.replicate 8 0) := by
  simp only [linkBytes, hs, hr]

theorem linkBytes_none {x : Cell} (hs : x.severStamp = none) (hr : x.rejectCause = none) :
    linkBytes x = List.replicate 9 0 := by
  simp only [linkBytes, hs, hr]

theorem byteField_link (s : State) (c : CellRef) (k width : Nat) :
    byteField (cellRecordBytes s c) (45 + k) width = byteField (linkBytes (s.cell c)) k width := by
  rw [cellRecordBytes_eq, byteField_skip width (recordHead_length s c _) (Nat.le_add_right 45 k), Nat.add_sub_cancel_left]

/-- A field that ends a body. -/
theorem byteField_last {before part : List Byte} {offset width : Nat} (h : before.length = offset)
    (hw : part.length = width) : byteField (before ++ part) offset width = natOfBytes part := by
  rw [← List.append_nil (before ++ part)]
  exact byteField_between h hw

theorem byteField_all {part : List Byte} {width : Nat} (hw : part.length = width) : byteField part 0 width = natOfBytes part :=
  byteField_last (before := []) rfl hw

/-! ### READ_CAMPAIGN (R174) -/

section

variable {s : State} {part : Byte}

theorem campaignPart_eq_none_iff : campaignPart s part = none ↔ 9 < part.toNat := by
  unfold campaignPart
  dsimp only
  split
  · next h => exact iff_of_false nofun (by rw [h]; decide)
  · split
    · next h => exact iff_of_false nofun (by omega)
    · next h8 =>
      split
      · next h => exact iff_of_false nofun (by rw [h]; decide)
      · next h9 =>
        have hne : part.toNat ≠ 9 := fun e => h9 (BitVec.eq_of_toNat_eq e)
        exact iff_of_true rfl (by omega)

/-- Part 0: the open campaign's record, and how many closed ones there are. -/
theorem campaignPart_open (h : s.seq.history.length < 256) : campaignPart s 0
    = some ((if s.seq.campaign.isSome then 1 else 0) :: campaignBytes (s.seq.campaign.map (openRecord s))
      ++ [BitVec.ofNat 8 s.seq.history.length]) := by
  rw [← sendNat_one h]
  rfl

/-- The record `k` from the end of the history. -/
theorem history_reverse (l : List CampaignRecord) {k : Nat} (h1 : 1 ≤ k) :
    l.reverse[k - 1]? = if k ≤ l.length then l[l.length - k]? else none := by
  split
  · next h => rw [List.getElem?_reverse (by omega), show l.length - 1 - (k - 1) = l.length - k by omega]
  · next h => exact List.getElem?_eq_none_iff.2 (by rw [List.length_reverse]; omega)

/-- Parts 1 to 8: the closed records, the latest first. -/
theorem campaignPart_closed {k : Nat} (h : s.seq.history.length < 256) (h1 : 1 ≤ k) (h8 : k ≤ 8) :
    campaignPart s (BitVec.ofNat 8 k) = some ((if k ≤ s.seq.history.length then 1 else 0)
      :: campaignBytes (if k ≤ s.seq.history.length then s.seq.history[s.seq.history.length - k]? else none)
      ++ [BitVec.ofNat 8 s.seq.history.length]) := by
  have hk : (BitVec.ofNat 8 k).toNat = k := toNat_ofNat_length (h8.trans (by decide))
  have hne : BitVec.ofNat 8 k ≠ 0 := by
    intro e
    rw [e] at hk
    simp at hk
    omega
  have hsome : sendBool (if k ≤ s.seq.history.length then s.seq.history[s.seq.history.length - k]? else none).isSome
      = if k ≤ s.seq.history.length then 1 else 0 := by
    split
    · next hle => rw [List.getElem?_eq_getElem (by omega)]; rfl
    · rfl
  unfold campaignPart
  dsimp only
  rw [if_neg hne, if_pos (by rw [hk]; exact h8), hk, history_reverse _ h1, hsome, sendNat_one h]

/-- The bytes of part 9: how many stamps, their places, the attempt budget and the attempt window. -/
def attemptsBody (stamps : List Stamp) (image : List Byte) : List Byte :=
  sendNat 1 stamps.length ++ (stamps.flatMap bytes32 ++ List.replicate (4 * (8 - stamps.length)) 0
    ++ (sendNat 1 (cfgAttemptBudget image) ++ sendNat 2 (cfgAttemptWindow image)))

theorem campaignPart_attempts (s : State) :
    campaignPart s 9 = some (attemptsBody (reportedAttempts s.seq.attempts) s.store.image) := by
  have e : campaignPart s 9 = some (sendNat 1 (reportedAttempts s.seq.attempts).length
      ++ ((reportedAttempts s.seq.attempts).flatMap bytes32
        ++ List.replicate (4 * (8 - (reportedAttempts s.seq.attempts).length)) 0)
      ++ sendNat 1 (cfgAttemptBudget s.store.image) ++ sendNat 2 (cfgAttemptWindow s.store.image)) := rfl
  rw [e, attemptsBody]
  simp only [List.append_assoc]

theorem imageByte_lt (image : List Byte) (i : Nat) : imageByte image i < 256 := (image.getD i 0).isLt

theorem imageWord_lt (image : List Byte) (i : Nat) : imageWord image i < 65536 := by
  have h0 := imageByte_lt image i
  have h1 := imageByte_lt image (i + 1)
  unfold imageWord
  omega

/-- The fields of part 9, for up to eight stamps. -/
theorem attemptsBody_fields {stamps : List Stamp} (image : List Byte) (h : stamps.length ≤ 8) :
    (attemptsBody stamps image).length = 36 ∧ byteField (attemptsBody stamps image) 0 1 = stamps.length
    ∧ (∀ j : Nat, j < 8 → byteField (attemptsBody stamps image) (1 + 4 * j) 4 = ((stamps[j]?).map BitVec.toNat).getD 0)
    ∧ byteField (attemptsBody stamps image) 33 1 = cfgAttemptBudget image
    ∧ byteField (attemptsBody stamps image) 34 2 = cfgAttemptWindow image := by
  have hcount : (sendNat 1 stamps.length).length = 1 := sendNat_length 1 _
  have hstamps : (stamps.flatMap bytes32 ++ List.replicate (4 * (8 - stamps.length)) 0).length = 32 := by
    rw [List.length_append, flatMap_length_const (n := 4) stamps (fun _ _ => rfl), List.length_replicate]
    omega
  have hbudget : (sendNat 1 (cfgAttemptBudget image)).length = 1 := sendNat_length 1 _
  have hwindow : (sendNat 2 (cfgAttemptWindow image)).length = 2 := sendNat_length 2 _
  unfold attemptsBody
  refine ⟨?_, ?_, fun j hj => ?_, ?_, ?_⟩
  · rw [List.length_append, hcount, List.length_append, hstamps, List.length_append, hbudget, hwindow]
  · rw [byteField_first hcount]
    exact natOfBytes_sendNat (by omega)
  · rw [byteField_skip 4 hcount (by omega), Nat.add_sub_cancel_left, byteField_item (g := bytes32) (fun _ => rfl) h _ hj]
    simp only [natOfBytes_bytes32]
  · rw [byteField_skip 1 hcount (by omega), byteField_skip 1 hstamps (by omega), byteField_first hbudget]
    exact natOfBytes_sendNat (imageByte_lt image 96)
  · rw [byteField_skip 2 hcount (by omega), byteField_skip 2 hstamps (by omega), byteField_skip 2 hbudget (by omega)]
    exact (byteField_all hwindow).trans (natOfBytes_sendNat (imageWord_lt image 97))

/-! ### READ_SETTINGS (R174) -/

theorem settingsPart_eq_none_iff : settingsPart s part = none ↔ 2 < part.toNat := by
  unfold settingsPart imagePart
  rw [Option.map_eq_none_iff]
  split
  · next h => exact iff_of_false nofun (by rw [h]; decide)
  · next h0 =>
    split
    · next h => exact iff_of_false nofun (by rw [h]; decide)
    · next h1 =>
      split
      · next h => exact iff_of_false nofun (by rw [h]; decide)
      · next h2 =>
        have hne0 : part.toNat ≠ 0 := fun e => h0 (BitVec.eq_of_toNat_eq e)
        have hne1 : part.toNat ≠ 1 := fun e => h1 (BitVec.eq_of_toNat_eq e)
        have hne2 : part.toNat ≠ 2 := fun e => h2 (BitVec.eq_of_toNat_eq e)
        exact iff_of_true rfl (by omega)

/-- A part gives its bytes of the image, the frozen flag and the stored CRC. -/
theorem settingsPart_some {bytes : List Byte} (h : imagePart s.store.image part = some bytes) : settingsPart s part
    = some (bytes ++ (if s.store.frozen then 1 else 0) :: bytes16 (s.store.storedCrc.getD 0)) := by
  unfold settingsPart
  rw [h, Option.map_some, List.append_assoc]
  rfl

/-! ### The readouts as requests -/

theorem exec_readStatus (tag : Byte) (hs : Ready s) : exec (.readStatus tag) s
    = .next (pump (pushReply 0x15 tag .ok (statusBytes s) { s with notices.overrun := false })) :=
  exec_served (op := .readStatus) rfl hs rfl rfl hs.1

theorem exec_readCell {number : Byte} {c : CellRef} (tag : Byte) (hs : Ready s) (hc : s.named number = some c) :
    exec (.readCell tag number) s = .next (pump (pushReply 0x16 tag .ok (cellRecordBytes s c)
      (withdrawNotice c (s.modCell c fun x => { x with flags := 0 })))) := by
  refine exec_served (op := .readCell number) rfl hs rfl ?_ ?_
  · show serveReadCell tag number s = _
    unfold serveReadCell
    rw [hc]
    rfl
  · simpa using hs.1

theorem exec_readCampaign {body : List Byte} (tag : Byte) (hs : Ready s) (h : campaignPart s part = some body) :
    exec (.readCampaign tag part) s = .next (replyOnly 0x17 tag .ok body s) := by
  refine exec_served (op := .readCampaign part) rfl hs rfl ?_ hs.1
  show serveReadCampaign tag part s = pushReply 0x17 tag .ok body s
  unfold serveReadCampaign
  rw [h]

theorem exec_readCampaign_range (tag : Byte) (hs : Ready s) (h : 9 < part.toNat) :
    exec (.readCampaign tag part) s = .next (replyOnly 0x17 tag .range [] s) := by
  refine exec_replied (op := .readCampaign part) rfl hs rfl ?_
  show serveReadCampaign tag part s = _
  unfold serveReadCampaign
  rw [campaignPart_eq_none_iff.2 h]

theorem exec_readSettings {body : List Byte} (tag : Byte) (hs : Ready s) (h : settingsPart s part = some body) :
    exec (.readSettings tag part) s = .next (replyOnly 0x18 tag .ok body s) := by
  refine exec_served (op := .readSettings part) rfl hs rfl ?_ hs.1
  show serveReadSettings tag part s = pushReply 0x18 tag .ok body s
  unfold serveReadSettings
  rw [h]

theorem exec_readSettings_range (tag : Byte) (hs : Ready s) (h : 2 < part.toNat) :
    exec (.readSettings tag part) s = .next (replyOnly 0x18 tag .range [] s) := by
  refine exec_replied (op := .readSettings part) rfl hs rfl ?_
  show serveReadSettings tag part s = _
  unfold serveReadSettings
  rw [settingsPart_eq_none_iff.2 h]

end

end Sys2Proof.Machine

open Sys2Proof Sys2Proof.Machine

/-- Settles O27: each readout's reply, then each body by its fields, then the codes and bit numbers one by one. -/
theorem readoutsReport : Obligations.ReadoutsReport := by
  unfold Obligations.ReadoutsReport
  refine ⟨fun tag s hs => ⟨exec_readStatus tag hs, fun number c hc => exec_readCell tag hs hc,
      fun part => ⟨fun body h => exec_readCampaign tag hs h, campaignPart_eq_none_iff, exec_readCampaign_range tag hs⟩,
      fun part => ⟨fun body h => exec_readSettings tag hs h, settingsPart_eq_none_iff, exec_readSettings_range tag hs⟩⟩,
    fun s => ⟨statusBytes_length s, (statusBytes_carries s).read⟩,
    ⟨rfl, fun r h => ⟨campaignBytes_length h, (campaignBytes_carries h).read, fun j hj => campaignBytes_set h hj⟩⟩,
    fun s c x hx => ?_, abilityBytes_eq, fun s h => ⟨campaignPart_open h, fun k => campaignPart_closed h⟩, fun s => ?_,
    fun s => ?_, ?_⟩
  · subst hx
    refine ⟨?_, ?_, fun v hv => ?_, fun cause hs hr => ?_, fun hs hr => ?_⟩
    · rw [cellRecordBytes_eq, List.length_append, recordHead_length, linkBytes_length]
    · rw [cellRecordBytes_eq]
      exact (recordHead_carries s c (s.cell c) _).read
    · rw [byteField_link s c 0, byteField_link s c 4, linkBytes_severed hv]
      exact ⟨(byteField_first rfl).trans (natOfBytes_bytes32 v), (byteField_last rfl rfl).trans (natOfBytes_zeros 5)⟩
    · rw [byteField_link s c 0, byteField_link s c 1, linkBytes_rejected hs hr]
      exact ⟨byteField_zero_one _ _, (byteField_last (before := [cause.code]) rfl (abilityPart_length _)).trans
        (abilityPart_natOfBytes _)⟩
    · rw [byteField_link s c 0, linkBytes_none hs hr]
      exact (byteField_all rfl).trans (natOfBytes_zeros 9)
  · obtain ⟨hlen, hcount, hstamps, hbudget, hwindow⟩ :=
      attemptsBody_fields s.store.image (reportedAttempts_length_le s.seq.attempts)
    refine ⟨_, campaignPart_attempts s, hlen, by rw [hcount]; exact reportedAttempts_length_le _, fun h => ?_, hbudget,
      hwindow⟩
    rw [reportedAttempts_short h] at hcount hstamps ⊢
    exact ⟨hcount, hstamps⟩
  · exact ⟨settingsPart_some rfl, settingsPart_some rfl, settingsPart_some rfl⟩
  · exact ⟨rfl, rfl, rfl, rfl, rfl, rfl, rfl, rfl, rfl, rfl, ⟨rfl, fun _ => rfl⟩, rfl, rfl, rfl, rfl, rfl⟩

end

section
/-! PROOFS. ATTENTION_SCAN: the order in which it examines the cell numbers, and the cell that it finds. -/

namespace Sys2Proof.Machine

open Sys2Proof

/-! ### The order of a scan (R171) -/

/-- How many cell numbers a scan from a position examines before a given one (R171). -/
def scanDistance (position number : Nat) : Nat := (number + 23 - position) % 24

theorem scanDistance_ahead {p n : Nat} (hpn : p < n) (hn : n ≤ 24) : scanDistance p n = n - p - 1 := by
  unfold scanDistance
  omega

theorem scanDistance_behind {p n : Nat} (hnp : n ≤ p) : scanDistance p n = n + 23 - p := by
  unfold scanDistance
  omega

/-- A scan examines the numbers 1 to 24. -/
theorem mem_scanOrder {p n : Nat} : n ∈ scanOrder p ↔ 1 ≤ n ∧ n ≤ 24 := by
  simp only [scanOrder, List.mem_append, List.mem_filter, List.mem_map, List.mem_range, decide_eq_true_iff]
  constructor
  · rintro (⟨⟨i, hi, rfl⟩, -⟩ | ⟨⟨i, hi, rfl⟩, -⟩) <;> omega
  · rintro ⟨h1, h24⟩
    have hmem : ∃ i < 24, i + 1 = n := ⟨n - 1, by omega, by omega⟩
    exact (Nat.lt_or_ge p n).imp (⟨hmem, ·⟩) (⟨hmem, ·⟩)

/-- The numbers are examined by ascending distance: those after the position, then those up to it. -/
theorem scanOrder_pairwise {p : Nat} (hp : p ≤ 24) :
    (scanOrder p).Pairwise fun m n => scanDistance p m < scanDistance p n := by
  have hascending : ((List.range 24).map (· + 1)).Pairwise (· < ·) := by decide
  have hrange : ∀ {n}, n ∈ (List.range 24).map (· + 1) → 1 ≤ n ∧ n ≤ 24 := by simp
  unfold scanOrder
  refine List.pairwise_append.2 ⟨(hascending.filter _).imp_of_mem fun {m n} hm hn hmn => ?_,
    (hascending.filter _).imp_of_mem fun {m n} hm hn hmn => ?_, fun m hm n hn => ?_⟩
  all_goals
    simp only [List.mem_filter, decide_eq_true_iff] at hm hn
    obtain ⟨hm, hpm⟩ := hm
    obtain ⟨hn, hpn⟩ := hn
    have hm := hrange hm
    have hn := hrange hn
  · rw [scanDistance_ahead hpm hm.2, scanDistance_ahead hpn hn.2]
    omega
  · rw [scanDistance_behind hpm, scanDistance_behind hpn]
    omega
  · rw [scanDistance_ahead hpm hm.2, scanDistance_behind hpn]
    omega

/-- In a list ascending by a key, a search finds the element of least key that has an answer. -/
theorem findSome?_of_least {α β : Type} {f : α → Option β} {key : α → Nat} {l : List α} {a : α} {b : β}
    (hl : l.Pairwise fun x y => key x < key y) (ha : a ∈ l) (hb : f a = some b)
    (hleast : ∀ x ∈ l, f x ≠ none → key a ≤ key x) : l.findSome? f = some b := by
  obtain ⟨before, rest, rfl⟩ := List.append_of_mem ha
  refine List.findSome?_eq_some_iff.2 ⟨before, a, rest, rfl, hb, fun x hx => ?_⟩
  by_contra hne
  have hlt : key x < key a := (List.pairwise_append.1 hl).2.2 x hx a List.mem_cons_self
  exact absurd (hleast x (List.mem_append_left _ hx) hne) (Nat.not_le.2 hlt)

/-! ### The cell found -/

theorem flagged_eq_some_iff {s : State} {n : Nat} {c : CellRef} :
    flagged s n = some c ↔ s.named (BitVec.ofNat 8 n) = some c ∧ (s.cell c).flags ≠ 0 := by
  simp [flagged, Option.filter_eq_some_iff]

variable {s : State}

/-- With no report flags ATTENTION_SCAN answers NONE. -/
theorem serveAttentionScan_none (tag : Byte) (h : ∀ n, flagged s n = none) :
    serveAttentionScan tag s = pushReply 0x19 tag .ok [0, 0, 0] s := by
  have hfind : ((scanOrder s.notices.scan).findSome? fun n => (flagged s n).map fun c => (n, c)) = none :=
    List.findSome?_eq_none_iff.2 fun n _ => by rw [h n, Option.map_none]
  unfold serveAttentionScan
  rw [hfind]

/-- ATTENTION_SCAN answers the number at the least distance whose cell has report flags, and moves the position to it. -/
theorem serveAttentionScan_found {n : Nat} {c : CellRef} (tag : Byte) (hp : s.notices.scan ≤ 24) (hn : 1 ≤ n ∧ n ≤ 24)
    (hc : flagged s n = some c)
    (hleast : ∀ m, 1 ≤ m ∧ m ≤ 24 → flagged s m ≠ none → scanDistance s.notices.scan n ≤ scanDistance s.notices.scan m) :
    serveAttentionScan tag s = pushReply 0x19 tag .ok (BitVec.ofNat 8 n :: bytes16 ((s.cell c).flags.setWidth 16))
      { s with notices.scan := n } := by
  have hfind : ((scanOrder s.notices.scan).findSome? fun n => (flagged s n).map fun c => (n, c)) = some (n, c) :=
    findSome?_of_least (scanOrder_pairwise hp) (mem_scanOrder.2 hn) (by rw [hc, Option.map_some])
      fun m hm hne => hleast m (mem_scanOrder.1 hm) fun hnone => hne (by rw [hnone, Option.map_none])
  unfold serveAttentionScan
  rw [hfind]

end Sys2Proof.Machine

open Sys2Proof Sys2Proof.Machine

/-- Settles O28: the order of the scan ascends by the distance from the position, so the first flagged number it meets is the
one at the least distance. -/
theorem attentionScanFindsTheNextCell : Obligations.AttentionScanFindsTheNextCell := by
  unfold Obligations.AttentionScanFindsTheNextCell
  refine fun tag s hs hp => ⟨fun hclear => ?_, fun n c h1 h24 hc hflags hleast => ?_⟩
  · have hnone : ∀ n, flagged s n = none := fun n => Option.eq_none_iff_forall_ne_some.2 fun c h => by
      obtain ⟨hc, hflags⟩ := flagged_eq_some_iff.1 h
      exact hflags (hclear n c hc)
    exact exec_served (op := .attentionScan) rfl hs rfl (serveAttentionScan_none tag hnone) hs.1
  · have hfirst : ∀ m, 1 ≤ m ∧ m ≤ 24 → flagged s m ≠ none →
        scanDistance s.notices.scan n ≤ scanDistance s.notices.scan m := fun m ⟨hm1, hm24⟩ hm => by
      obtain ⟨d, hd⟩ := Option.ne_none_iff_exists'.1 hm
      obtain ⟨hd, hdflags⟩ := flagged_eq_some_iff.1 hd
      exact hleast m d hm1 hm24 hd hdflags
    have hserve := serveAttentionScan_found tag hp ⟨h1, h24⟩ (flagged_eq_some_iff.2 ⟨hc, hflags⟩) hfirst
    exact exec_served (op := .attentionScan) rfl hs rfl hserve hs.1

end

section
/-! PROOFS. The queue of waiting commands (log entry 33): no command touches it, the full reset included (log entry 35). What
the sequencer, the fault intake and the rings do is in `Keeps`; here follow the requests, the link's own part of a step, the
resets and the timers, and the obligation. -/

namespace Sys2Proof.Machine

open Sys2Proof

/-- A run over a list leaves the queue of waiting commands where each of its steps does. -/
theorem foldl_pending {α : Type} {f : State → α → State} (hf : ∀ s a, (f s a).pending = s.pending) (l : List α)
    (s : State) : (l.foldl f s).pending = s.pending :=
  List.foldlRecOn (motive := fun t : State => t.pending = s.pending) l f rfl fun t ht a _ => (hf t a).trans ht

/-- An effect that is taken only where it is due. -/
theorem ite_pending (p : Prop) [Decidable p] {s t : State} (h : t.pending = s.pending) :
    (if p then t else s).pending = s.pending := by
  split
  · exact h
  · rfl

/-! ### The sequencer's operations that requests and timers call -/

@[simp] theorem haltDevice_pending (k : ModeCause) (s : State) : (haltDevice k s).pending = s.pending :=
  (keeps_haltDevice k s).pending

@[simp] theorem trip_pending (k : TripCause) (s : State) : (trip k s).pending = s.pending := (keeps_trip k s).pending

@[simp] theorem openCampaign_pending (k : CampaignKind) (s : State) : (openCampaign k s).pending = s.pending :=
  (keeps_openCampaign k s).pending

@[simp] theorem convertToHeld_pending (s : State) : (convertToHeld s).pending = s.pending := (keeps_convertToHeld s).pending

@[simp] theorem releaseTrip_pending (s : State) : (releaseTrip s).pending = s.pending := by
  unfold releaseTrip
  split <;> simp

@[simp] theorem toStopped_pending (s : State) : (toStopped s).pending = s.pending := by
  unfold toStopped
  dsimp only
  split
  · exact (keeps_completeCampaign _).pending
  · simp

/-! ### A cycle start -/

@[simp] theorem sendFrames_pending (plans : Bool) (s : State) : (sendFrames plans s).pending = s.pending := by
  obtain ⟨frames, mail, h, _⟩ := sendFrames_eq plans s
  rw [h]

@[simp] theorem cycleStep_pending (loopback : Option (List Byte)) (s : State) :
    (cycleStep loopback s).pending = s.pending := by
  rw [cycleStep_eq, sendFrames_pending, (keeps_seqCycle _).pending, (roundState_round loopback s).pending]

/-! ### The settings requests -/

@[simp] theorem reshape_pending (p : Phase) (n : Nat) (s : State) : (reshape p n s).pending = s.pending := by
  refine foldl_pending (fun s c => ?_) (cellsOf p) s
  by_cases hl : Leaves n s c
  · simp [reshapeCell_leaves hl]
  · rcases reshapeCell_stays hl with h | h <;> simp [h]

theorem ringEffects_pending (p : Phase) (fields : List (Option Nat)) (s : State) :
    (ringEffects p fields s).pending = s.pending := ite_pending _ (reshape_pending p _ s)

theorem planEffects_pending (window : Nat) (fields : List (Option Nat)) (s : State) :
    (planEffects window fields s).pending = s.pending := by
  unfold planEffects trimWindow trimBudget
  dsimp only
  (repeat' split) <;> rfl

theorem timingEffects_pending (fields : List (Option Nat)) (s : State) : (timingEffects fields s).pending = s.pending := by
  unfold timingEffects refreshHoist recheckHoldMinimum
  dsimp only
  (repeat' split) <;> rfl

theorem reportingEffects_pending (fields : List (Option Nat)) (s : State) :
    (reportingEffects fields s).pending = s.pending := by
  unfold reportingEffects recheckBatch
  dsimp only
  (repeat' split) <;> rfl

/-- A settings request leaves the queue where its effects do. -/
theorem settingsRequest_pending (t tag : Byte) (specs : List FieldSpec) (fields : List (Option Nat)) (extra : Nat)
    {effects : State → State} (he : ∀ u, (effects u).pending = u.pending) (s : State) :
    (settingsRequest t tag specs fields extra effects s).pending = s.pending := by
  unfold settingsRequest
  dsimp only
  split
  · rfl
  · exact he _

@[simp] theorem serveSetDevice_pending (tag : Byte) (fields : List (Option Nat)) (s : State) :
    (serveSetDevice tag fields s).pending = s.pending := by
  unfold serveSetDevice
  (repeat' split)
  · rfl
  · exact settingsRequest_pending (effects := deriveWindow) _ _ _ _ _ (fun _ => rfl) s
  · exact settingsRequest_pending (effects := id) _ _ _ _ _ (fun _ => rfl) s

@[simp] theorem serveSetRing_pending (tag phaseCode : Byte) (fields : List (Option Nat)) (s : State) :
    (serveSetRing tag phaseCode fields s).pending = s.pending := by
  unfold serveSetRing
  (repeat' split)
  · rfl
  · rfl
  · exact settingsRequest_pending _ _ _ _ _ (ringEffects_pending _ fields) s

@[simp] theorem serveSetPlan_pending (tag : Byte) (fields : List (Option Nat)) (s : State) :
    (serveSetPlan tag fields s).pending = s.pending := by
  unfold serveSetPlan
  split
  · rfl
  · exact settingsRequest_pending _ _ _ _ _ (planEffects_pending _ fields) s

@[simp] theorem serveSetTiming_pending (tag : Byte) (fields : List (Option Nat)) (s : State) :
    (serveSetTiming tag fields s).pending = s.pending := by
  unfold serveSetTiming
  split
  · rfl
  · exact settingsRequest_pending _ _ _ _ _ (timingEffects_pending fields) s

@[simp] theorem serveSetReporting_pending (tag : Byte) (fields : List (Option Nat)) (s : State) :
    (serveSetReporting tag fields s).pending = s.pending := by
  unfold serveSetReporting
  split
  · rfl
  · exact settingsRequest_pending _ _ _ _ _ (reportingEffects_pending fields) s

/-! ### The store's other requests -/

@[simp] theorem serveFreeze_pending (tag : Byte) (s : State) : (serveFreeze tag s).pending = s.pending := by
  unfold serveFreeze
  (repeat' split) <;> simp

@[simp] theorem serveUnfreeze_pending (tag : Byte) (s : State) : (serveUnfreeze tag s).pending = s.pending := by
  simp [serveUnfreeze]

@[simp] theorem serveSelfTest_pending (tag ring : Byte) (s : State) : (serveSelfTest tag ring s).pending = s.pending := by
  unfold serveSelfTest
  (repeat' split) <;> rfl

@[simp] theorem serveGo_pending (tag : Byte) (s : State) : (serveGo tag s).pending = s.pending := by
  unfold serveGo
  (repeat' split) <;> simp

/-! ### The requests of the sequencer and the interlock unit -/

@[simp] theorem serveHalt_pending (tag : Byte) (s : State) : (serveHalt tag s).pending = s.pending := by
  unfold serveHalt
  split <;> simp

@[simp] theorem serveResume_pending (tag : Byte) (s : State) : (serveResume tag s).pending = s.pending := by
  unfold serveResume
  split <;> simp

@[simp] theorem serveAckTrip_pending (tag : Byte) (s : State) : (serveAckTrip tag s).pending = s.pending := by
  unfold serveAckTrip
  (repeat' split) <;> simp

@[simp] theorem serveClearLockout_pending (tag : Byte) (s : State) : (serveClearLockout tag s).pending = s.pending := by
  unfold serveClearLockout
  (repeat' split) <;> simp

@[simp] theorem serveRebalance_pending (tag : Byte) (s : State) : (serveRebalance tag s).pending = s.pending := by
  unfold serveRebalance
  (repeat' split) <;> simp

@[simp] theorem serveHoistStatus_pending (tag : Byte) (speed : BitVec 16) (zone : Byte) (s : State) :
    (serveHoistStatus tag speed zone s).pending = s.pending := by
  unfold serveHoistStatus
  split <;> rfl

/-! ### The requests of the roster and the ring controllers -/

@[simp] theorem serveClearCell_pending (tag number : Byte) (s : State) : (serveClearCell tag number s).pending = s.pending := by
  unfold serveClearCell
  (repeat' split) <;> simp

@[simp] theorem serveReinstate_pending (tag number : Byte) (s : State) : (serveReinstate tag number s).pending = s.pending := by
  unfold serveReinstate
  dsimp only
  (repeat' split) <;> simp

@[simp] theorem serveRelink_pending (tag number : Byte) (s : State) : (serveRelink tag number s).pending = s.pending := by
  unfold serveRelink
  (repeat' split) <;> simp

@[simp] theorem serveReenrol_pending (tag number : Byte) (s : State) : (serveReenrol tag number s).pending = s.pending := by
  unfold serveReenrol
  (repeat' split) <;> simp

@[simp] theorem serveTunnel_pending (tag number : Byte) (bytes : List Byte) (s : State) :
    (serveTunnel tag number bytes s).pending = s.pending := by
  unfold serveTunnel
  (repeat' split) <;> rfl

/-! ### Readouts and RESTART -/

@[simp] theorem serveReadCell_pending (tag number : Byte) (s : State) : (serveReadCell tag number s).pending = s.pending := by
  unfold serveReadCell
  split <;> simp

@[simp] theorem serveReadCampaign_pending (tag part : Byte) (s : State) :
    (serveReadCampaign tag part s).pending = s.pending := by
  unfold serveReadCampaign
  split <;> rfl

@[simp] theorem serveReadSettings_pending (tag part : Byte) (s : State) :
    (serveReadSettings tag part s).pending = s.pending := by
  unfold serveReadSettings
  split <;> rfl

@[simp] theorem serveAttentionScan_pending (tag : Byte) (s : State) : (serveAttentionScan tag s).pending = s.pending := by
  unfold serveAttentionScan
  split <;> rfl

@[simp] theorem serveRestart_pending (tag : Byte) (s : State) : (serveRestart tag s).pending = s.pending := by
  simp [serveRestart]

/-! ### Dispatch, and the end of a step -/

/-- A request that its owning block takes leaves the queue of waiting commands (Table 9-3). -/
@[simp] theorem serve_pending (r : Request) (s : State) : (serve r s).pending = s.pending := by
  unfold serve
  cases r.op with
  | readStatus => rfl
  | unknown t => rfl
  | malformed t => rfl
  | _ => simp

@[simp] theorem dispatch_pending (r : Request) (s : State) : (dispatch r s).pending = s.pending := by
  unfold dispatch
  split
  · exact serve_pending r s
  · rfl

@[simp] theorem dispatchLoop_pending (n : Nat) (s : State) : (dispatchLoop n s).pending = s.pending := by
  induction n generalizing s with
  | zero => rfl
  | succ n ih =>
    unfold dispatchLoop
    split
    · rfl
    · split
      · rw [ih, dispatch_pending]
      · rfl

theorem pump_pending (s : State) : (pump s).pending = s.pending := by
  obtain ⟨_, _, _, _, _, _, _, hpending, _⟩ := pump_keeps s
  exact hpending

/-- What the link does at the end of every step leaves the queue of waiting commands. -/
@[simp] theorem settle_pending (s : State) : (settle s).pending = s.pending := by
  unfold settle dispatchAll
  rw [dispatchLoop_pending, pump_pending, dispatchLoop_pending]

@[simp] theorem arrive_pending (r : Request) (s : State) : (arrive r s).pending = s.pending := by
  unfold arrive
  (repeat' split) <;> rfl

/-! ### The receive framer -/

theorem judgeFrame_pending (payload : List Byte) (high low : Byte) (s : State) :
    (judgeFrame payload high low s).pending = s.pending := by
  unfold judgeFrame
  dsimp only
  split
  · split
    · rw [settle_pending, arrive_pending]
    · rfl
  · rfl

theorem takeByte_pending (b : Byte) (s : State) : (takeByte b s).pending = s.pending := by
  unfold takeByte
  split
  · split <;> rfl
  · split <;> rfl
  · split <;> rfl
  · rfl
  · exact judgeFrame_pending _ _ b s

@[simp] theorem endAtGap_pending (s : State) : (endAtGap s).pending = s.pending := by
  unfold endAtGap
  split <;> rfl

theorem takeChar_pending (s : State) (ch : RxChar) : (takeChar s ch).pending = s.pending := by
  have ht : (if ch.gapBefore then endAtGap s else s).pending = s.pending := ite_pending _ (endAtGap_pending s)
  unfold takeChar
  generalize (if ch.gapBefore then endAtGap s else s) = t at ht ⊢
  dsimp only
  split
  · exact (takeByte_pending _ t).trans ht
  · split <;> exact ht

@[simp] theorem takeChars_pending (chars : List RxChar) (s : State) : (takeChars chars s).pending = s.pending :=
  foldl_pending takeChar_pending chars s

/-! ### Resets -/

@[simp] theorem softReset_pending (s : State) : (softReset s).pending = s.pending := by
  unfold softReset
  simp

@[simp] theorem frameSent_pending (s : State) : (frameSent s).pending = s.pending := by
  unfold frameSent
  (repeat' split) <;> simp

/-! ### Input lines, timers, the self-test and storage faults -/

@[simp] theorem qualifyDriveRun_pending (s : State) : (qualifyDriveRun s).pending = s.pending := by
  unfold qualifyDriveRun driveRunChanged
  (repeat' split) <;> simp

@[simp] theorem qualifyBrakeSet_pending (s : State) : (qualifyBrakeSet s).pending = s.pending := by
  unfold qualifyBrakeSet brakeSetChanged
  dsimp only
  (repeat' split) <;> simp

@[simp] theorem enrolWindowRuns_pending (s : State) : (enrolWindowRuns s).pending = s.pending :=
  ite_pending _ (keeps_blockCheck _).pending

@[simp] theorem blindWaitEnds_pending (c : CellRef) (s : State) : (blindWaitEnds c s).pending = s.pending := by
  unfold blindWaitEnds
  (repeat' split)
  · exact (keeps_acceptBypass true c s).pending
  · exact trip_pending _ s
  · rfl

@[simp] theorem rideThroughEnds_pending (s : State) : (rideThroughEnds s).pending = s.pending := by
  unfold rideThroughEnds
  dsimp only
  (repeat' split) <;> simp

@[simp] theorem bypassTimerEnds_pending (c : CellRef) (s : State) : (bypassTimerEnds c s).pending = s.pending :=
  ite_pending _ (trip_pending _ s)

@[simp] theorem brakeConfirmEnds_pending (s : State) : (brakeConfirmEnds s).pending = s.pending :=
  ite_pending _ (trip_pending _ s)

@[simp] theorem resumeTimerEnds_pending (s : State) : (resumeTimerEnds s).pending = s.pending :=
  ite_pending _ (trip_pending _ s)

@[simp] theorem holdMinimumEnds_pending (s : State) : (holdMinimumEnds s).pending = s.pending :=
  ite_pending _ (syncLines_pending false _)

@[simp] theorem attemptExpires_pending (s : State) : (attemptExpires s).pending = s.pending := ite_pending _ rfl

@[simp] theorem hoistStales_pending (s : State) : (hoistStales s).pending = s.pending := ite_pending _ rfl

@[simp] theorem batchTimerEnds_pending (s : State) : (batchTimerEnds s).pending = s.pending := ite_pending _ rfl

@[simp] theorem testSlotEnds_pending (p : Nat) (seen : SlotSeen) (s : State) :
    (testSlotEnds p seen s).pending = s.pending := by
  unfold testSlotEnds
  (repeat' split) <;> rfl

@[simp] theorem testEnds_pending (s : State) : (testEnds s).pending = s.pending := by
  unfold testEnds
  (repeat' split) <;> simp

@[simp] theorem disturb_pending (target : StorageCell) (value : Byte) (s : State) :
    (disturb target value s).pending = s.pending := by
  unfold disturb
  (repeat' split) <;> rfl

/-! ### Every command -/

/-- A command is one step to a state with the same queue of waiting commands; the link's part follows. -/
theorem exec_stepTo (c : Instr) (s : State) : ∃ u, exec c s = stepTo u ∧ u.pending = s.pending := by
  cases hr : requestOf c with
  | some r => exact ⟨_, exec_request s hr, arrive_pending r s⟩
  | none =>
    cases c with
    | frameReceived chars => exact ⟨_, rfl, takeChars_pending chars s⟩
    | frameAborted chars => exact ⟨_, rfl, (endAtGap_pending _).trans (takeChars_pending chars s)⟩
    | transmitDone => exact ⟨_, rfl, frameSent_pending s⟩
    | softReset => exact ⟨_, rfl, ite_pending _ (softReset_pending s)⟩
    | resetN => exact ⟨_, rfl, rfl⟩
    | powerOn => exact ⟨_, rfl, rfl⟩
    | inputPinChange line b => cases line <;> exact ⟨_, rfl, rfl⟩
    | driveRunQualified => exact ⟨_, rfl, qualifyDriveRun_pending s⟩
    | brakeSetQualified => exact ⟨_, rfl, qualifyBrakeSet_pending s⟩
    | cycleStart b => exact ⟨_, rfl, cycleStep_pending b s⟩
    | secondTick => exact ⟨_, rfl, mapCells_pending s _⟩
    | slotEnd c seen => exact ⟨_, rfl, (keeps_slotStep c seen s).pending⟩
    | gateOffWatchTimeout => exact ⟨_, rfl, ite_pending _ (cycleStep_pending none s)⟩
    | confirmTimeout c => exact ⟨_, rfl, ite_pending _ (cycleStep_pending none s)⟩
    | tunnelTimeout p => exact ⟨_, rfl, ite_pending _ (cycleStep_pending none s)⟩
    | epochCheck => exact ⟨_, rfl, ite_pending _ (cycleStep_pending none s)⟩
    | rampComplete => exact ⟨_, rfl, ite_pending _ (cycleStep_pending none s)⟩
    | enrolWindowExpiry => exact ⟨_, rfl, enrolWindowRuns_pending s⟩
    | bypassTimerExpiry c => exact ⟨_, rfl, bypassTimerEnds_pending c s⟩
    | blindWaitExpiry c => exact ⟨_, rfl, blindWaitEnds_pending c s⟩
    | rideThroughExpiry => exact ⟨_, rfl, rideThroughEnds_pending s⟩
    | brakeConfirmExpiry => exact ⟨_, rfl, brakeConfirmEnds_pending s⟩
    | resumeTimerExpiry => exact ⟨_, rfl, resumeTimerEnds_pending s⟩
    | holdMinimumExpiry => exact ⟨_, rfl, holdMinimumEnds_pending s⟩
    | attemptEntryExpiry => exact ⟨_, rfl, attemptExpires_pending s⟩
    | freshnessExpiry => exact ⟨_, rfl, hoistStales_pending s⟩
    | batchTimerExpiry => exact ⟨_, rfl, batchTimerEnds_pending s⟩
    | selfTestSlotEnd p seen => exact ⟨_, rfl, testSlotEnds_pending _ seen s⟩
    | selfTestEnd => exact ⟨_, rfl, testEnds_pending s⟩
    | storageFault target v => exact ⟨_, rfl, disturb_pending target v s⟩
    | _ => exact absurd hr (by simp [requestOf])

end Sys2Proof.Machine

open Sys2Proof Sys2Proof.Machine

/-- Settles O2: every command is a step to a state with the same queue, and the link's part of the step leaves it too. -/
theorem everyCommandAnswersAndKeepsTheQueue : Obligations.EveryCommandAnswersAndKeepsTheQueue := by
  unfold Obligations.EveryCommandAnswersAndKeepsTheQueue
  intro c s
  obtain ⟨u, he, hu⟩ := exec_stepTo c s
  exact ⟨settle u, he, (settle_pending u).trans hu⟩

end
